-- ==== Sys2Proof/Word.lean ====
section
/-! DEFINITION. The words of the Show Link and of the show clock (spec section 0.6, Table 12-2). -/

namespace Sys2Proof

/-- One byte of a message, a slot value or a byte of sample memory. -/
abbrev Byte := BitVec 8

/-- A two-byte field of a message; the event summary and a handle are such words. -/
abbrev Half := BitVec 16

/-- A four-byte field of a message. -/
abbrev Quad := BitVec 32

/-- A value of the show clock (R3): a count of sample periods modulo 2^32. -/
abbrev ShowTime := BitVec 32

end Sys2Proof
end

