-- ==== Sys2Proof/Syntax.lean ====
section
/-! DEFINITION. The commands: one constructor of `Instr` per row of spec/opcode_table.json, with the operands
that chapter 12 gives a command message (R203), or the record an event concerns. Operands of command messages
are the words on the wire, so that every value a message can carry is a term; operands of events name an entry
of a table and so are bounded by its size. -/

namespace Sys2Proof

/-- The levels of the part's inputs in one sample period (R104, R131, R137, R140, R142). Active is `true`. -/
structure Inputs where
  /-- anemometer input, `true` = high (R131) -/
  anemometer : Bool
  /-- presence inputs 0..7, bit k for input k (R137) -/
  presence : BitVec 8
  /-- emergency-stop input (R140) -/
  stop : Bool
  /-- basin low-level input (R142) -/
  basinLow : Bool
  /-- running-feedback inputs of pump channels 0..15 (R104) -/
  feedback : BitVec 16
  /-- fault inputs of pump channels 0..15 (R104) -/
  fault : BitVec 16
deriving DecidableEq, Repr

/-- A level field as carried in EFFECT_ADD and EFFECT_EDIT: four channels (Tables 12-4 and 12-5). A JET level
is the first channel alone. -/
structure WireLevel where
  r : Half
  g : Half
  b : Half
  w : Half
deriving DecidableEq, Repr

/-- EFFECT_ADD parameters in the order of Table 12-4. -/
structure EffectAddParams where
  kind : Byte
  group : Byte
  layer : Byte
  mode : Byte
  cls : Byte
  pinned : Byte
  startCode : Byte
  start : Quad
  duration : Quad
  fadeIn : Quad
  fadeOut : Quad
  shape : Byte
  p : Quad
  w : Quad
  step : Half
  seed : Half
  l0 : WireLevel
  l1 : WireLevel
deriving DecidableEq, Repr

/-- The field values of an EFFECT_EDIT in the bit order of Table 12-5. A field that the field-present set does
not name is not carried; its value here is then 0 (see `Instr.wellFormed`) and is not read. -/
structure EditValues where
  l0 : WireLevel
  l1 : WireLevel
  p : Quad
  w : Quad
  step : Half
  seed : Half
  shape : Byte
  duration : Quad
  fadeOut : Quad
  layer : Byte
  mode : Byte
  group : Byte
  pinned : Byte
  cls : Byte
deriving DecidableEq, Repr

/-- NOZZLE_SET parameters (Table 12-1, code 0x20). -/
structure NozzleSetParams where
  nozzle : Half
  present : Byte
  manifold : Byte
  maxHeight : Half
  coefficient : Half
  lead : Half
  slew : Half
  line : Byte
  first : Half
deriving DecidableEq, Repr

/-- MANIFOLD_SET parameters (code 0x28). -/
structure ManifoldSetParams where
  manifold : Byte
  lead : Half
  headroom : Half
  destage : Half
deriving DecidableEq, Repr

/-- PUMP_SET parameters (code 0x2A). -/
structure PumpSetParams where
  pump : Byte
  present : Byte
  manifold : Byte
  rank : Byte
  rated : Half
  minSpeed : Half
  ramp : Half
  startTimeout : Half
  stopTimeout : Half
deriving DecidableEq, Repr

/-- ZONE_SET parameters (code 0x38). -/
structure ZoneSetParams where
  zone : Byte
  enabled : Byte
  first : Half
  last : Half
  cap : Half
  soft : Half
  hard : Half
  hold : Half
  stopGroup : Byte
  presence : Byte
deriving DecidableEq, Repr

/-- FIXTURE_SET parameters (code 0x40). -/
structure FixtureSetParams where
  fixture : Half
  present : Byte
  line : Byte
  first : Half
  layout : Byte
  linked : Half
  follow : Byte
  curve : Byte
deriving DecidableEq, Repr

/-- LINE_SET parameters (code 0x48). -/
structure LineSetParams where
  line : Byte
  enabled : Byte
  divider : Byte
  slots : Half
  gap : Byte
deriving DecidableEq, Repr

/-- The commands and events of the part, in the order of spec/opcode_table.json. A constructor named after a
command message stands for a whole transfer of the command pipe that carries it and passes the framing checks (R192);
COMMAND_PACKET brings one packet of a transfer, and CLIP_BLOCK packets of the clip pipe (R189). -/
inductive Instr where
  | fullReset
  | linkAttach
  | linkReset
  | samplePeriod (inputs : Inputs)
  | commandPacket (packet : List Byte)
  | malformedCommand (transfer : List Byte)
  | replyPoll (accepted : Bool)
  | noticePoll (accepted : Bool)
  | clipBlock (packets : List (List Byte))
  | showStart
  | showHold
  | showResume
  | showEnd (fade : Half)
  | showStop
  | tempoSet (period anchor : Quad)
  | showQuery
  | endTimeReached
  | silenceTimerExpiry
  | effectAdd (params : EffectAddParams)
  | effectEdit (handle : Half) (timing : Byte) (atTime : Quad) (present : Half) (values : EditValues)
  | effectRetire (handle : Half) (mode : Byte)
  | effectQuery (handle : Half)
  | groupDefine (group kind : Byte) (members : List Half)
  | groupQuery (group : Byte)
  | effectBoundary
  | pendingEditApplied (slot : Fin 256)
  | effectStartReached (slot : Fin 256)
  | naturalEnd (slot : Fin 256)
  | fadeComplete (slot : Fin 256)
  | jetFrame
  | envelopeUpdate
  | lightComputation
  | nozzleSet (params : NozzleSetParams)
  | nozzleQuery (nozzle : Half)
  | pumpUpdate
  | pumpStartTimeout (pump : Fin 16)
  | pumpStopTimeout (pump : Fin 16)
  | destage (manifold : Fin 8)
  | startGrant
  | manifoldSet (params : ManifoldSetParams)
  | manifoldQuery (manifold : Byte)
  | pumpSet (params : PumpSetParams)
  | pumpQuery (pump : Byte)
  | pumpRelease (pump : Byte)
  | pumpLockout (pump : Byte)
  | pumpClear (pump : Byte)
  | startSet (interval : Half)
  | windGate
  | windHoldRelease (zone : Fin 17)
  | presenceDebounced (input : Fin 8)
  | emergencyStopAssertion
  | levelLow
  | levelRestored
  | zoneSet (params : ZoneSetParams)
  | zoneCap (zone : Byte) (cap : Half)
  | zoneRelease (zone : Byte)
  | siteRelease
  | windSet (factor : Half) (decay : Byte)
  | siteQuery (zone : Byte)
  | fixtureSet (params : FixtureSetParams)
  | fixtureQuery (fixture : Half)
  | lightMaster (level : Half)
  | lineSet (params : LineSetParams)
  | lineQuery (line : Byte) (first : Half) (count : Byte)
  | lineGapEnd (line : Fin 4)
  | clipCreate (channels : Byte) (length : Quad)
  | clipRetire (handle : Half)
  | clipQuery (handle : Half)
  | deckCue (deck : Byte) (handle : Half) (cue : Quad)
  | deckStart (deck startCode : Byte) (start : Quad)
  | deckStop (deck : Byte) (ramp : Half)
  | deckGain (deck : Byte) (target ramp : Half)
  | deckQuery (deck : Byte)
  | audioSet (master : Half) (decay : Quad)
  | deckPeriod
  | deckBegin (deck : Fin 2)
  | deckStopComplete (deck : Fin 2)
  | linkSet (mask : Half) (timeout : Byte) (fade : Half)
  | linkQuery
  | storeSave
  | storeQuery
  | saveCompletion
deriving DecidableEq, Repr

end Sys2Proof
end

