-- ==== Sys2Proof/Decode.lean ====
section
/-! DEFINITION. The bytes of a command message (chapter 12): the encoder and the parser of R203 and Tables 12-1,
12-4 and 12-5, and `decodeTableWord`, which answers none since no row of the opcode table has bits (log entry 2). -/

namespace Sys2Proof

/-! ### Fields (Table 12-2), multi-byte fields little-endian -/

/-- The two bytes of a two-byte field. -/
def halfBytes (h : Half) : List Byte := [h.extractLsb' 0 8, h.extractLsb' 8 8]

/-- The four bytes of a four-byte field. -/
def quadBytes (q : Quad) : List Byte :=
  [q.extractLsb' 0 8, q.extractLsb' 8 8, q.extractLsb' 16 8, q.extractLsb' 24 8]

/-- A two-byte field from its bytes. -/
def halfOf (a b : Byte) : Half := b ++ a

/-- A four-byte field from its bytes. -/
def quadOf (a b c d : Byte) : Quad := (d ++ c ++ b ++ a : BitVec 32)

/-- Reading a field off the front of a message: the value and the bytes that follow, or nothing when too few bytes
are left. -/
abbrev Reader (α : Type) := List Byte → Option (α × List Byte)

/-- A one-byte field. -/
def readByte : Reader Byte
  | a :: rest => some (a, rest)
  | [] => none

/-- A two-byte field. -/
def readHalf : Reader Half
  | a :: b :: rest => some (halfOf a b, rest)
  | _ => none

/-- A four-byte field. -/
def readQuad : Reader Quad
  | a :: b :: c :: d :: rest => some (quadOf a b c d, rest)
  | _ => none

/-- A level of one channel (JET, Table 12-4). -/
def readHeight : Reader WireLevel := fun bytes => do
  let (r, bytes) ← readHalf bytes
  some (⟨r, 0, 0, 0⟩, bytes)

/-- A level of four channels (Tables 12-4 and 12-5). -/
def readColour : Reader WireLevel := fun bytes => do
  let (r, bytes) ← readHalf bytes
  let (g, bytes) ← readHalf bytes
  let (b, bytes) ← readHalf bytes
  let (w, bytes) ← readHalf bytes
  some (⟨r, g, b, w⟩, bytes)

/-- So many two-byte indices (GROUP_DEFINE). -/
def readHalves : Nat → Reader (List Half)
  | 0, bytes => some ([], bytes)
  | n + 1, bytes => do
    let (h, bytes) ← readHalf bytes
    let (hs, bytes) ← readHalves n bytes
    some (h :: hs, bytes)

/-- A field of an EFFECT_EDIT, carried only when the set names it (Table 12-5). -/
def readNamed {α : Type} (named : Bool) (absent : α) (r : Reader α) : Reader α := fun bytes =>
  if named then r bytes else some (absent, bytes)

/-! ### The encoder (R203) -/

/-- A level of one channel. -/
def heightBytes (l : WireLevel) : List Byte := halfBytes l.r

/-- A level of four channels. -/
def colourBytes (l : WireLevel) : List Byte := halfBytes l.r ++ halfBytes l.g ++ halfBytes l.b ++ halfBytes l.w

/-- A level with no channel but the first. -/
def WireLevel.heightOnly (l : WireLevel) : Bool := l.g = 0 && l.b = 0 && l.w = 0

/-- Whether the levels of an EFFECT_ADD go as one channel: kind 0, or a kind that names no value and levels that
one channel can carry. -/
def EffectAddParams.short (p : EffectAddParams) : Bool :=
  p.kind = 0 || (p.kind ≠ 1 && p.l0.heightOnly && p.l1.heightOnly)

/-- The parameters of EFFECT_ADD (Table 12-4). -/
def effectAddBytes (p : EffectAddParams) : List Byte :=
  let level := if p.short then heightBytes else colourBytes
  [p.kind, p.group, p.layer, p.mode, p.cls, p.pinned, p.startCode]
    ++ quadBytes p.start ++ quadBytes p.duration ++ quadBytes p.fadeIn ++ quadBytes p.fadeOut
    ++ [p.shape] ++ quadBytes p.p ++ quadBytes p.w ++ halfBytes p.step ++ halfBytes p.seed
    ++ level p.l0 ++ level p.l1

/-- Bytes carried only when the set names their field. -/
def namedBytes (named : Bool) (bytes : List Byte) : List Byte := if named then bytes else []

/-- The present fields of EFFECT_EDIT in bit order (Table 12-5). -/
def editBytes (set : Half) (v : EditValues) : List Byte :=
  namedBytes (set.getLsbD 0) (colourBytes v.l0) ++ namedBytes (set.getLsbD 1) (colourBytes v.l1)
    ++ namedBytes (set.getLsbD 2) (quadBytes v.p) ++ namedBytes (set.getLsbD 3) (quadBytes v.w)
    ++ namedBytes (set.getLsbD 4) (halfBytes v.step) ++ namedBytes (set.getLsbD 5) (halfBytes v.seed)
    ++ namedBytes (set.getLsbD 6) [v.shape] ++ namedBytes (set.getLsbD 7) (quadBytes v.duration)
    ++ namedBytes (set.getLsbD 8) (quadBytes v.fadeOut) ++ namedBytes (set.getLsbD 9) [v.layer]
    ++ namedBytes (set.getLsbD 10) [v.mode] ++ namedBytes (set.getLsbD 11) [v.group]
    ++ namedBytes (set.getLsbD 12) [v.pinned] ++ namedBytes (set.getLsbD 13) [v.cls]

/-- The command message of a command (Table 12-1); `none` for a row that is no command message. -/
def encodeCommand : Instr → Option (List Byte)
  | .showStart => some [0x01]
  | .showHold => some [0x02]
  | .showResume => some [0x03]
  | .showEnd fade => some (0x04 :: halfBytes fade)
  | .showStop => some [0x05]
  | .tempoSet period anchor => some (0x06 :: (quadBytes period ++ quadBytes anchor))
  | .showQuery => some [0x07]
  | .effectAdd p => some (0x10 :: effectAddBytes p)
  | .effectEdit h timing atTime set v =>
    some (0x11 :: (halfBytes h ++ [timing] ++ quadBytes atTime ++ halfBytes set ++ editBytes set v))
  | .effectRetire h mode => some (0x12 :: (halfBytes h ++ [mode]))
  | .effectQuery h => some (0x13 :: halfBytes h)
  | .groupDefine group kind members =>
    some (0x14 :: group :: kind :: BitVec.ofNat 8 members.length :: members.flatMap halfBytes)
  | .groupQuery group => some [0x15, group]
  | .nozzleSet p => some (0x20 :: (halfBytes p.nozzle ++ [p.present, p.manifold] ++ halfBytes p.maxHeight
      ++ halfBytes p.coefficient ++ halfBytes p.lead ++ halfBytes p.slew ++ [p.line] ++ halfBytes p.first))
  | .nozzleQuery n => some (0x21 :: halfBytes n)
  | .manifoldSet p => some (0x28 :: p.manifold :: (halfBytes p.lead ++ halfBytes p.headroom ++ halfBytes p.destage))
  | .manifoldQuery m => some [0x29, m]
  | .pumpSet p => some (0x2A :: p.pump :: p.present :: p.manifold :: p.rank :: (halfBytes p.rated
      ++ halfBytes p.minSpeed ++ halfBytes p.ramp ++ halfBytes p.startTimeout ++ halfBytes p.stopTimeout))
  | .pumpQuery p => some [0x2B, p]
  | .pumpRelease p => some [0x2C, p]
  | .pumpLockout p => some [0x2D, p]
  | .pumpClear p => some [0x2E, p]
  | .startSet interval => some (0x2F :: halfBytes interval)
  | .zoneSet p => some (0x38 :: p.zone :: p.enabled :: (halfBytes p.first ++ halfBytes p.last ++ halfBytes p.cap
      ++ halfBytes p.soft ++ halfBytes p.hard ++ halfBytes p.hold ++ [p.stopGroup, p.presence]))
  | .zoneCap z cap => some (0x39 :: z :: halfBytes cap)
  | .zoneRelease z => some [0x3A, z]
  | .siteRelease => some [0x3B]
  | .windSet factor decay => some (0x3C :: (halfBytes factor ++ [decay]))
  | .siteQuery z => some [0x3D, z]
  | .fixtureSet p => some (0x40 :: (halfBytes p.fixture ++ [p.present, p.line] ++ halfBytes p.first ++ [p.layout]
      ++ halfBytes p.linked ++ [p.follow, p.curve]))
  | .fixtureQuery f => some (0x41 :: halfBytes f)
  | .lightMaster level => some (0x42 :: halfBytes level)
  | .lineSet p => some (0x48 :: p.line :: p.enabled :: p.divider :: (halfBytes p.slots ++ [p.gap]))
  | .lineQuery l first count => some (0x49 :: l :: (halfBytes first ++ [count]))
  | .clipCreate channels length => some (0x50 :: channels :: quadBytes length)
  | .clipRetire h => some (0x51 :: halfBytes h)
  | .clipQuery h => some (0x52 :: halfBytes h)
  | .deckCue d h cue => some (0x58 :: d :: (halfBytes h ++ quadBytes cue))
  | .deckStart d code start => some (0x59 :: d :: code :: quadBytes start)
  | .deckStop d ramp => some (0x5A :: d :: halfBytes ramp)
  | .deckGain d target ramp => some (0x5B :: d :: (halfBytes target ++ halfBytes ramp))
  | .deckQuery d => some [0x5C, d]
  | .audioSet master decay => some (0x5D :: (halfBytes master ++ quadBytes decay))
  | .linkSet mask timeout fade => some (0x68 :: (halfBytes mask ++ [timeout] ++ halfBytes fade))
  | .linkQuery => some [0x69]
  | .storeSave => some [0x70]
  | .storeQuery => some [0x71]
  | .fullReset | .linkAttach | .linkReset | .samplePeriod _ | .commandPacket _ | .malformedCommand _
  | .replyPoll _ | .noticePoll _ | .clipBlock _ | .endTimeReached | .silenceTimerExpiry | .effectBoundary
  | .pendingEditApplied _ | .effectStartReached _ | .naturalEnd _ | .fadeComplete _ | .jetFrame
  | .envelopeUpdate | .lightComputation | .pumpUpdate | .pumpStartTimeout _ | .pumpStopTimeout _
  | .destage _ | .startGrant | .windGate | .windHoldRelease _ | .presenceDebounced _
  | .emergencyStopAssertion | .levelLow | .levelRestored | .lineGapEnd _ | .deckPeriod | .deckBegin _
  | .deckStopComplete _ | .saveCompletion => none

/-! ### The parser and the framing checks (R192, R203) -/

/-- The parameters of a command are all read, and nothing is left: the length is the permitted one. -/
def whole {α : Type} (r : Option (α × List Byte)) : Option α :=
  match r with
  | some (a, []) => some a
  | _ => none

/-- The parameters of EFFECT_ADD; `long` says that the message has 53 bytes. -/
def readEffectAdd (long : Bool) : Reader EffectAddParams := fun bytes => do
  let (kind, bytes) ← readByte bytes
  let (group, bytes) ← readByte bytes
  let (layer, bytes) ← readByte bytes
  let (mode, bytes) ← readByte bytes
  let (cls, bytes) ← readByte bytes
  let (pinned, bytes) ← readByte bytes
  let (startCode, bytes) ← readByte bytes
  let (start, bytes) ← readQuad bytes
  let (duration, bytes) ← readQuad bytes
  let (fadeIn, bytes) ← readQuad bytes
  let (fadeOut, bytes) ← readQuad bytes
  let (shape, bytes) ← readByte bytes
  let (p, bytes) ← readQuad bytes
  let (w, bytes) ← readQuad bytes
  let (step, bytes) ← readHalf bytes
  let (seed, bytes) ← readHalf bytes
  let level := if kind = 1 ∨ (kind ≠ 0 ∧ long = true) then readColour else readHeight
  let (l0, bytes) ← level bytes
  let (l1, bytes) ← level bytes
  some (⟨kind, group, layer, mode, cls, pinned, startCode, start, duration, fadeIn, fadeOut, shape, p, w, step,
    seed, l0, l1⟩, bytes)

/-- The present fields of EFFECT_EDIT. -/
def readEdit (set : Half) : Reader EditValues := fun bytes => do
  let (l0, bytes) ← readNamed (set.getLsbD 0) ⟨0, 0, 0, 0⟩ readColour bytes
  let (l1, bytes) ← readNamed (set.getLsbD 1) ⟨0, 0, 0, 0⟩ readColour bytes
  let (p, bytes) ← readNamed (set.getLsbD 2) 0 readQuad bytes
  let (w, bytes) ← readNamed (set.getLsbD 3) 0 readQuad bytes
  let (step, bytes) ← readNamed (set.getLsbD 4) 0 readHalf bytes
  let (seed, bytes) ← readNamed (set.getLsbD 5) 0 readHalf bytes
  let (shape, bytes) ← readNamed (set.getLsbD 6) 0 readByte bytes
  let (duration, bytes) ← readNamed (set.getLsbD 7) 0 readQuad bytes
  let (fadeOut, bytes) ← readNamed (set.getLsbD 8) 0 readQuad bytes
  let (layer, bytes) ← readNamed (set.getLsbD 9) 0 readByte bytes
  let (mode, bytes) ← readNamed (set.getLsbD 10) 0 readByte bytes
  let (group, bytes) ← readNamed (set.getLsbD 11) 0 readByte bytes
  let (pinned, bytes) ← readNamed (set.getLsbD 12) 0 readByte bytes
  let (cls, bytes) ← readNamed (set.getLsbD 13) 0 readByte bytes
  some (⟨l0, l1, p, w, step, seed, shape, duration, fadeOut, layer, mode, group, pinned, cls⟩, bytes)

/-- The parameters of NOZZLE_SET. -/
def readNozzleSet : Reader NozzleSetParams := fun bytes => do
  let (nozzle, bytes) ← readHalf bytes
  let (present, bytes) ← readByte bytes
  let (manifold, bytes) ← readByte bytes
  let (maxHeight, bytes) ← readHalf bytes
  let (coefficient, bytes) ← readHalf bytes
  let (lead, bytes) ← readHalf bytes
  let (slew, bytes) ← readHalf bytes
  let (line, bytes) ← readByte bytes
  let (first, bytes) ← readHalf bytes
  some (⟨nozzle, present, manifold, maxHeight, coefficient, lead, slew, line, first⟩, bytes)

/-- The parameters of MANIFOLD_SET. -/
def readManifoldSet : Reader ManifoldSetParams := fun bytes => do
  let (manifold, bytes) ← readByte bytes
  let (lead, bytes) ← readHalf bytes
  let (headroom, bytes) ← readHalf bytes
  let (destage, bytes) ← readHalf bytes
  some (⟨manifold, lead, headroom, destage⟩, bytes)

/-- The parameters of PUMP_SET. -/
def readPumpSet : Reader PumpSetParams := fun bytes => do
  let (pump, bytes) ← readByte bytes
  let (present, bytes) ← readByte bytes
  let (manifold, bytes) ← readByte bytes
  let (rank, bytes) ← readByte bytes
  let (rated, bytes) ← readHalf bytes
  let (minSpeed, bytes) ← readHalf bytes
  let (ramp, bytes) ← readHalf bytes
  let (startTimeout, bytes) ← readHalf bytes
  let (stopTimeout, bytes) ← readHalf bytes
  some (⟨pump, present, manifold, rank, rated, minSpeed, ramp, startTimeout, stopTimeout⟩, bytes)

/-- The parameters of ZONE_SET. -/
def readZoneSet : Reader ZoneSetParams := fun bytes => do
  let (zone, bytes) ← readByte bytes
  let (enabled, bytes) ← readByte bytes
  let (first, bytes) ← readHalf bytes
  let (last, bytes) ← readHalf bytes
  let (cap, bytes) ← readHalf bytes
  let (soft, bytes) ← readHalf bytes
  let (hard, bytes) ← readHalf bytes
  let (hold, bytes) ← readHalf bytes
  let (stopGroup, bytes) ← readByte bytes
  let (presence, bytes) ← readByte bytes
  some (⟨zone, enabled, first, last, cap, soft, hard, hold, stopGroup, presence⟩, bytes)

/-- The parameters of FIXTURE_SET. -/
def readFixtureSet : Reader FixtureSetParams := fun bytes => do
  let (fixture, bytes) ← readHalf bytes
  let (present, bytes) ← readByte bytes
  let (line, bytes) ← readByte bytes
  let (first, bytes) ← readHalf bytes
  let (layout, bytes) ← readByte bytes
  let (linked, bytes) ← readHalf bytes
  let (follow, bytes) ← readByte bytes
  let (curve, bytes) ← readByte bytes
  some (⟨fixture, present, line, first, layout, linked, follow, curve⟩, bytes)

/-- The parameters of LINE_SET. -/
def readLineSet : Reader LineSetParams := fun bytes => do
  let (line, bytes) ← readByte bytes
  let (enabled, bytes) ← readByte bytes
  let (divider, bytes) ← readByte bytes
  let (slots, bytes) ← readHalf bytes
  let (gap, bytes) ← readByte bytes
  some (⟨line, enabled, divider, slots, gap⟩, bytes)

/-- The parameters of EFFECT_EDIT. -/
def readEffectEdit : Reader Instr := fun bytes => do
  let (handle, bytes) ← readHalf bytes
  let (timing, bytes) ← readByte bytes
  let (atTime, bytes) ← readQuad bytes
  let (set, bytes) ← readHalf bytes
  let (values, bytes) ← readEdit set bytes
  some (.effectEdit handle timing atTime set values, bytes)

/-- The parameters of GROUP_DEFINE. -/
def readGroupDefine : Reader Instr := fun bytes => do
  let (group, bytes) ← readByte bytes
  let (kind, bytes) ← readByte bytes
  let (count, bytes) ← readByte bytes
  let (members, bytes) ← readHalves count.toNat bytes
  some (.groupDefine group kind members, bytes)

/-- A command of one one-byte parameter. -/
def readOne (f : Byte → Instr) : Reader Instr := fun bytes => do
  let (a, bytes) ← readByte bytes
  some (f a, bytes)

/-- A command of one two-byte parameter. -/
def readOneHalf (f : Half → Instr) : Reader Instr := fun bytes => do
  let (a, bytes) ← readHalf bytes
  some (f a, bytes)

/-- A command of a one-byte and a two-byte parameter. -/
def readByteHalf (f : Byte → Half → Instr) : Reader Instr := fun bytes => do
  let (a, bytes) ← readByte bytes
  let (b, bytes) ← readHalf bytes
  some (f a b, bytes)

/-- A command of a two-byte and a one-byte parameter. -/
def readHalfByte (f : Half → Byte → Instr) : Reader Instr := fun bytes => do
  let (a, bytes) ← readHalf bytes
  let (b, bytes) ← readByte bytes
  some (f a b, bytes)

/-- The parameters of TEMPO_SET. -/
def readTempoSet : Reader Instr := fun bytes => do
  let (period, bytes) ← readQuad bytes
  let (anchor, bytes) ← readQuad bytes
  some (.tempoSet period anchor, bytes)

/-- The parameters of LINE_QUERY. -/
def readLineQuery : Reader Instr := fun bytes => do
  let (line, bytes) ← readByte bytes
  let (first, bytes) ← readHalf bytes
  let (count, bytes) ← readByte bytes
  some (.lineQuery line first count, bytes)

/-- The parameters of CLIP_CREATE. -/
def readClipCreate : Reader Instr := fun bytes => do
  let (channels, bytes) ← readByte bytes
  let (length, bytes) ← readQuad bytes
  some (.clipCreate channels length, bytes)

/-- The parameters of DECK_CUE. -/
def readDeckCue : Reader Instr := fun bytes => do
  let (deck, bytes) ← readByte bytes
  let (handle, bytes) ← readHalf bytes
  let (cue, bytes) ← readQuad bytes
  some (.deckCue deck handle cue, bytes)

/-- The parameters of DECK_START. -/
def readDeckStart : Reader Instr := fun bytes => do
  let (deck, bytes) ← readByte bytes
  let (code, bytes) ← readByte bytes
  let (start, bytes) ← readQuad bytes
  some (.deckStart deck code start, bytes)

/-- The parameters of DECK_GAIN. -/
def readDeckGain : Reader Instr := fun bytes => do
  let (deck, bytes) ← readByte bytes
  let (target, bytes) ← readHalf bytes
  let (ramp, bytes) ← readHalf bytes
  some (.deckGain deck target ramp, bytes)

/-- The parameters of AUDIO_SET. -/
def readAudioSet : Reader Instr := fun bytes => do
  let (master, bytes) ← readHalf bytes
  let (decay, bytes) ← readQuad bytes
  some (.audioSet master decay, bytes)

/-- The parameters of LINK_SET. -/
def readLinkSet : Reader Instr := fun bytes => do
  let (mask, bytes) ← readHalf bytes
  let (timeout, bytes) ← readByte bytes
  let (fade, bytes) ← readHalf bytes
  some (.linkSet mask timeout fade, bytes)

/-- A command without parameters. -/
def readNone (i : Instr) : Reader Instr := fun bytes => some (i, bytes)

/-- A command whose parameters are one record. -/
def readRecord {α : Type} (f : α → Instr) (r : Reader α) : Reader Instr := fun bytes =>
  (r bytes).map fun x => (f x.1, x.2)

/-- How the parameters of a command code are read (Table 12-1); `none` for a byte that is no command code.
`long` says that the message has 53 bytes. -/
def readerOf (code : Byte) (long : Bool) : Option (Reader Instr) :=
  match code.toNat with
  | 0x01 => some (readNone .showStart)
  | 0x02 => some (readNone .showHold)
  | 0x03 => some (readNone .showResume)
  | 0x04 => some (readOneHalf .showEnd)
  | 0x05 => some (readNone .showStop)
  | 0x06 => some readTempoSet
  | 0x07 => some (readNone .showQuery)
  | 0x10 => some (readRecord .effectAdd (readEffectAdd long))
  | 0x11 => some readEffectEdit
  | 0x12 => some (readHalfByte .effectRetire)
  | 0x13 => some (readOneHalf .effectQuery)
  | 0x14 => some readGroupDefine
  | 0x15 => some (readOne .groupQuery)
  | 0x20 => some (readRecord .nozzleSet readNozzleSet)
  | 0x21 => some (readOneHalf .nozzleQuery)
  | 0x28 => some (readRecord .manifoldSet readManifoldSet)
  | 0x29 => some (readOne .manifoldQuery)
  | 0x2A => some (readRecord .pumpSet readPumpSet)
  | 0x2B => some (readOne .pumpQuery)
  | 0x2C => some (readOne .pumpRelease)
  | 0x2D => some (readOne .pumpLockout)
  | 0x2E => some (readOne .pumpClear)
  | 0x2F => some (readOneHalf .startSet)
  | 0x38 => some (readRecord .zoneSet readZoneSet)
  | 0x39 => some (readByteHalf .zoneCap)
  | 0x3A => some (readOne .zoneRelease)
  | 0x3B => some (readNone .siteRelease)
  | 0x3C => some (readHalfByte .windSet)
  | 0x3D => some (readOne .siteQuery)
  | 0x40 => some (readRecord .fixtureSet readFixtureSet)
  | 0x41 => some (readOneHalf .fixtureQuery)
  | 0x42 => some (readOneHalf .lightMaster)
  | 0x48 => some (readRecord .lineSet readLineSet)
  | 0x49 => some readLineQuery
  | 0x50 => some readClipCreate
  | 0x51 => some (readOneHalf .clipRetire)
  | 0x52 => some (readOneHalf .clipQuery)
  | 0x58 => some readDeckCue
  | 0x59 => some readDeckStart
  | 0x5A => some (readByteHalf .deckStop)
  | 0x5B => some readDeckGain
  | 0x5C => some (readOne .deckQuery)
  | 0x5D => some readAudioSet
  | 0x68 => some readLinkSet
  | 0x69 => some (readNone .linkQuery)
  | 0x70 => some (readNone .storeSave)
  | 0x71 => some (readNone .storeQuery)
  | _ => none

/-- What the framing checks make of a transfer (R192). -/
inductive Framed where
  /-- a command of Table 12-1 at its permitted length -/
  | command (i : Instr)
  /-- byte 0 is no command code -/
  | unknownCommand
  /-- a length that is not permitted -/
  | badLength
deriving DecidableEq, Repr

/-- The framing checks of R192 in their order: over-long, empty, unknown code, length wrong for the code. -/
def frameTransfer (transfer : List Byte) : Framed :=
  if 512 < transfer.length then .badLength
  else
    match transfer with
    | [] => .badLength
    | code :: params =>
      match readerOf code (decide (transfer.length = 53)) with
      | none => .unknownCommand
      | some r =>
        match whole (r params) with
        | none => .badLength
        | some i => .command i

/-- The command a word of the opcode table spells. No row of spec/opcode_table.json has bits, so no word spells
one (log entry 2). -/
def decodeTableWord (_nbits _w : Nat) : Option Instr := none

end Sys2Proof
end

