-- ==== Sys2Proof/Machine/Cosine.lean ====
section
/-! DEFINITION. The raised-cosine table of WAVE (R60). DEDUCED (log entry 17): the spec gives the table by the
cosine function and its rounding; the quarter wave below is that function worked out to 50 decimals. -/

namespace Sys2Proof.Machine

/-- 65,536 cos(2πi/1024), rounded, for i = 0..63 (R60). -/
def cosineQuarter0 : List Nat :=
  [65536, 65535, 65531, 65525, 65516, 65505, 65492, 65476, 65457, 65436, 65413, 65387, 65358, 65328, 65294, 65259,
   65220, 65180, 65137, 65091, 65043, 64993, 64940, 64884, 64827, 64766, 64704, 64639, 64571, 64501, 64429, 64354,
   64277, 64197, 64115, 64031, 63944, 63854, 63763, 63668, 63572, 63473, 63372, 63268, 63162, 63054, 62943, 62830,
   62714, 62596, 62476, 62353, 62228, 62101, 61971, 61839, 61705, 61568, 61429, 61288, 61145, 60999, 60851, 60700]

/-- 65,536 cos(2πi/1024), rounded, for i = 64..127 (R60). -/
def cosineQuarter1 : List Nat :=
  [60547, 60392, 60235, 60075, 59914, 59750, 59583, 59415, 59244, 59071, 58896, 58718, 58538, 58356, 58172, 57986,
   57798, 57607, 57414, 57219, 57022, 56823, 56621, 56418, 56212, 56004, 55794, 55582, 55368, 55152, 54934, 54714,
   54491, 54267, 54040, 53812, 53581, 53349, 53114, 52878, 52639, 52398, 52156, 51911, 51665, 51417, 51166, 50914,
   50660, 50404, 50146, 49886, 49624, 49361, 49095, 48828, 48559, 48288, 48015, 47741, 47464, 47186, 46906, 46624]

/-- 65,536 cos(2πi/1024), rounded, for i = 128..191 (R60). -/
def cosineQuarter2 : List Nat :=
  [46341, 46056, 45769, 45480, 45190, 44898, 44604, 44308, 44011, 43713, 43412, 43110, 42806, 42501, 42194, 41886,
   41576, 41264, 40951, 40636, 40320, 40002, 39683, 39362, 39040, 38716, 38391, 38064, 37736, 37407, 37076, 36744,
   36410, 36075, 35738, 35401, 35062, 34721, 34380, 34037, 33692, 33347, 33000, 32652, 32303, 31952, 31600, 31248,
   30893, 30538, 30182, 29824, 29466, 29106, 28745, 28383, 28020, 27656, 27291, 26925, 26558, 26190, 25821, 25451]

/-- 65,536 cos(2πi/1024), rounded, for i = 192..255 (R60). -/
def cosineQuarter3 : List Nat :=
  [25080, 24708, 24335, 23961, 23586, 23210, 22834, 22457, 22078, 21699, 21320, 20939, 20557, 20175, 19792, 19409,
   19024, 18639, 18253, 17867, 17479, 17091, 16703, 16314, 15924, 15534, 15143, 14751, 14359, 13966, 13573, 13180,
   12785, 12391, 11996, 11600, 11204, 10808, 10411, 10014, 9616, 9218, 8820, 8421, 8022, 7623, 7224, 6824,
   6424, 6023, 5623, 5222, 4821, 4420, 4019, 3617, 3216, 2814, 2412, 2010, 1608, 1206, 804, 402]

/-- 65,536 cos(2πi/1024), rounded, for i = 256..256 (R60). -/
def cosineQuarter4 : List Nat :=
  [0]

/-- 65,536 cos(2πi/1024), rounded, for i = 0..256 (R60). -/
def cosineQuarter : List Nat :=
  cosineQuarter0 ++ cosineQuarter1 ++ cosineQuarter2 ++ cosineQuarter3 ++ cosineQuarter4

/-- C[i] for i = 0..1023, by the symmetries of the cosine: C[i] = C[1024 - i] and C[512 - i] = -C[i] (R60). -/
def cosine (i : Nat) : Int :=
  let j := if i ≤ 512 then i else 1024 - i
  if j ≤ 256 then (cosineQuarter.getD j 0 : Int) else -(cosineQuarter.getD (512 - j) 0 : Int)

end Sys2Proof.Machine
end

