-- ==== Sys2Proof/Config.lean ====
section
/-! DEFINITION. What the spec leaves open as a value: opaque constants, so that no proof can lean on a value
(log entries 10 and 12). The fixed figures of Table 0-6 stand where they are used, in Machine/. -/

namespace Sys2Proof

/-- FREE VALUE (R168, log entry 10). The byte found at an address of sample memory that no accepted clip block
has written: "A page's bytes are undefined until a clip block for that page is accepted". -/
opaque Config.undefinedByte : Nat → Byte

/-- FREE VALUE (R127, R144, log entry 12). The two-byte reply fields that SITE_QUERY carries for the default
zone's first nozzle (0) and last nozzle (1), which the default zone does not have. -/
opaque Config.defaultZoneNozzle : Nat → Half

/-- FREE VALUE (R127, R144, log entry 12). The one-byte reply fields that SITE_QUERY carries for the default
zone's stop group (0) and presence input (1), which the default zone does not have. -/
opaque Config.defaultZoneInput : Nat → Byte

end Sys2Proof
end

