-- ==== Sys2Proof/Machine/State.lean ====
section
/-! DEFINITION. The state of the Hakenor 4700, block by block (Table 0-1), as plain data, and the state right
after a full reset. Tables are lists of the sizes of Table 0-6; `State.sized` in Safety.lean says so. -/

namespace Sys2Proof.Machine

/-! ### Coded values (Table 12-3) -/

/-- Result codes (Table 10-2). -/
inductive ResultCode where
  | ok | unknownCommand | badLength | badParam | staleHandle | tableFull | groupUndefined | groupKind
  | groupInUse | duplicateMember | slotConflict | noSpace | busy | wrongState | wrongShowState | siteStopped
  | notReleasable | storeBusy
deriving DecidableEq, Repr

/-- The four show states (Table 1-2). -/
inductive ShowState where
  | stopped | running | held | ending
deriving DecidableEq, Repr

/-- The kind of an effect record, and of a group's members: JET/NOZZLE or LIGHT/FIXTURE. -/
inductive Kind where
  | jet | light
deriving DecidableEq, Repr

/-- How a record's level combines with the layers beneath it (R66 to R68). -/
inductive MixMode where
  | replace | max | add | scale
deriving DecidableEq, Repr

/-- SHOW records stay; AMBIENT records may be evicted (R27). -/
inductive EffectClass where
  | showClass | ambient
deriving DecidableEq, Repr

/-- The six shapes (R58). -/
inductive Shape where
  | steady | ramp | pulse | wave | sparkle | audio
deriving DecidableEq, Repr

/-- The lifecycle of a record (Table 2-4). -/
inductive EffectState where
  | scheduled | active | fading
deriving DecidableEq, Repr

/-- The pump state machine (Table 5-6). -/
inductive PumpState where
  | lockedOut | idle | queued | starting | running | stopping | fault
deriving DecidableEq, Repr

/-- Why a pump last entered FAULT (Table 5-4). -/
inductive FaultCause where
  | none | faultInput | startTimeout | feedbackLost | stopTimeout
deriving DecidableEq, Repr

/-- A zone's response to the held wind (Table 6-3). -/
inductive WindState where
  | clear | derated | windHold
deriving DecidableEq, Repr

/-- The basin level state (R142). -/
inductive LevelState where
  | ok | low
deriving DecidableEq, Repr

/-- Fixture layouts (Table 7-3). -/
inductive Layout where
  | dim1 | rgb | rgbw
deriving DecidableEq, Repr

/-- Output curves (R154). -/
inductive Curve where
  | linear | square
deriving DecidableEq, Repr

/-- The state of a clip that holds a slot (Table 9-1); FREE is the slot without a clip. -/
inductive ClipState where
  | loading | ready | retiring
deriving DecidableEq, Repr

/-- Deck states (Table 9-3). -/
inductive DeckState where
  | empty | cued | waiting | playing | starved
deriving DecidableEq, Repr

/-- The owner of a slot of a line (Table 8-4); `channel` is 0 R, 1 G, 2 B, 3 W. -/
inductive SlotOwner where
  | free
  | valveHigh (nozzle : Nat)
  | valveLow (nozzle : Nat)
  | fixture (index channel : Nat)
deriving DecidableEq, Repr

/-! ### The model's record of what is outstanding (log entry 3) -/

/-- Which events of the last boundary and of the present sample period have not been taken yet. Model's own
field: the spec's boundaries fall at fixed counts (R2), and their events are rows of the table. -/
structure Due where
  /-- the audio-envelope update of the jet boundary just reached (R186) -/
  envelope : Bool
  /-- the scheduler's transitions at that boundary (R29) -/
  effects : Bool
  /-- the jet frame of that boundary (R78) -/
  jet : Bool
  /-- the light computation of the light boundary just reached (R149) -/
  light : Bool
  /-- the pump update just reached (R106) -/
  pump : Bool
  /-- the wind gate just reached (R131) -/
  wind : Bool
  /-- an emergency-stop assertion has been sampled (R140) -/
  stop : Bool
  /-- the decks have already been processed in the present sample period (R179) -/
  decksDone : Bool
deriving DecidableEq, Repr

/-! ### Show Timer (chapter 1) -/

/-- The beat grid (R14): the beat period in 1/256 sample periods and the anchor. -/
structure BeatGrid where
  period : Quad
  anchor : ShowTime
deriving DecidableEq, Repr

/-- The Show Timer's state (Table 1-6). -/
structure ShowTimer where
  showState : ShowState
  clock : ShowTime
  device : BitVec 64
  grid : Option BeatGrid
  endTime : Option ShowTime
  storedFade : Nat
deriving DecidableEq, Repr

/-! ### Effect Scheduler (chapter 2) -/

/-- A level: four channels. A JET record's height or factor is the channel `r`; its other three are 0. -/
structure Level where
  r : Nat
  g : Nat
  b : Nat
  w : Nat
deriving DecidableEq, Repr

/-- The fields of a record that enter an evaluation (R52), with its kind. -/
structure EffectParams where
  kind : Kind
  group : Nat
  layer : Nat
  mode : MixMode
  start : ShowTime
  duration : Nat
  fadeIn : Nat
  fadeOut : Nat
  shape : Shape
  l0 : Level
  l1 : Level
  p : Nat
  w : Nat
  step : Nat
  seed : Nat
deriving DecidableEq, Repr

/-- The values of a pending edit; an absent field is `none`, so the field-present set is which are present
(R38). `group` is the new group. -/
structure EditFields where
  l0 : Option Level
  l1 : Option Level
  p : Option Nat
  w : Option Nat
  step : Option Nat
  seed : Option Nat
  shape : Option Shape
  duration : Option Nat
  fadeOut : Option Nat
  layer : Option Nat
  mode : Option MixMode
  group : Option Nat
deriving DecidableEq, Repr

/-- A staged change to an ACTIVE record (R38). -/
structure PendingEdit where
  fields : EditFields
  boundary : ShowTime
deriving DecidableEq, Repr

/-- A fade imposed by a retire or by the end of a show (R33, R49). -/
structure ImposedFade where
  start : ShowTime
  e0 : Nat
deriving DecidableEq, Repr

/-- A set of limitation flags (Table 4-4). -/
structure Limits where
  zoneCap : Bool
  wind : Bool
  stop : Bool
  supply : Bool
  slew : Bool
deriving DecidableEq, Repr

/-- The empty set of limitation flags. -/
def Limits.empty : Limits := ⟨false, false, false, false, false⟩

/-- An effect record (Table 2-1). -/
structure EffectRecord where
  params : EffectParams
  cls : EffectClass
  pinned : Bool
  state : EffectState
  addSeq : Nat
  touch : Nat
  imposed : Option ImposedFade
  edit : Option PendingEdit
  limits : Limits
  reported : Nat
deriving DecidableEq, Repr

/-- A slot of the effect table: its generation and its record, if it holds one (R19, R20). -/
structure EffectSlot where
  gen : Byte
  record : Option EffectRecord
deriving DecidableEq, Repr

/-- A free effect slot of generation 0. -/
def EffectSlot.blank : EffectSlot := ⟨0, none⟩

/-- What a defined group holds (R43). -/
structure GroupDef where
  kind : Kind
  members : List Nat
deriving DecidableEq, Repr

/-- A group of the group table (R43). -/
structure Group where
  defined : Option GroupDef
  refs : Nat
deriving DecidableEq, Repr

/-- An undefined group with no references. -/
def Group.blank : Group := ⟨none, 0⟩

/-- The Effect Scheduler's state (Table 2-8). -/
structure EffectScheduler where
  slots : List EffectSlot
  groups : List Group
  addCounter : Nat
  touchCounter : Nat
deriving DecidableEq, Repr

/-! ### Nozzle Engine (chapter 4) -/

/-- Nozzle configuration (Table 4-1). -/
structure NozzleConfig where
  present : Bool
  manifold : Nat
  maxHeight : Nat
  coefficient : Nat
  lead : Nat
  slew : Nat
  line : Nat
  first : Nat
deriving DecidableEq, Repr

/-- The configuration of a nozzle that has never been configured (R77). -/
def NozzleConfig.blank : NozzleConfig := ⟨false, 0, 0, 0, 0, 0, 0, 0⟩

/-- Nozzle live fields (Table 4-2): c, cap, h_t, q, q', h', v_t, v, h_eff and the flags. -/
structure NozzleLive where
  composed : Nat
  cap : Nat
  target : Nat
  flow : Nat
  scaledFlow : Nat
  scaledHeight : Nat
  valveTarget : Nat
  valve : Nat
  effective : Nat
  flags : Limits
deriving DecidableEq, Repr

/-- Live fields all 0 and flags empty (R73, R74). -/
def NozzleLive.zero : NozzleLive := ⟨0, 0, 0, 0, 0, 0, 0, 0, 0, Limits.empty⟩

/-- An entry of the nozzle table (R73). -/
structure Nozzle where
  cfg : NozzleConfig
  live : NozzleLive
deriving DecidableEq, Repr

/-- A nozzle never configured. -/
def Nozzle.blank : Nozzle := ⟨NozzleConfig.blank, NozzleLive.zero⟩

/-- A manifold's frame record: D, S used, f and F of the last jet frame (R83, R91). -/
structure FrameRecord where
  demand : Nat
  supply : Nat
  factor : Nat
  forecast : Nat
deriving DecidableEq, Repr

/-- The frame record after a full reset (R74). -/
def FrameRecord.blank : FrameRecord := ⟨0, 0, 65536, 0⟩

/-- The Nozzle Engine's state (Table 4-9) with its phase count (R2). -/
structure NozzleEngine where
  table : List Nozzle
  frames : List FrameRecord
  phase : Nat
deriving DecidableEq, Repr

/-! ### Pump Controller (chapter 5) -/

/-- Manifold configuration (Table 5-1). -/
structure ManifoldConfig where
  lead : Nat
  headroom : Nat
  destage : Nat
deriving DecidableEq, Repr

/-- An entry of the manifold table (Tables 5-1 and 5-2); `destage` is the timer, `none` when stopped. -/
structure Manifold where
  cfg : ManifoldConfig
  demand : Nat
  forecast : Nat
  needed : Nat
  targets : List Nat
  supply : Nat
  destage : Option Nat
deriving DecidableEq, Repr

/-- A manifold with no configuration (R99). -/
def Manifold.blank : Manifold := ⟨⟨0, 0, 0⟩, 0, 0, 0, [], 0, none⟩

/-- Pump configuration (Table 5-3). -/
structure PumpConfig where
  present : Bool
  manifold : Nat
  rank : Nat
  rated : Nat
  minSpeed : Nat
  ramp : Nat
  startTimeout : Nat
  stopTimeout : Nat
deriving DecidableEq, Repr

/-- The configuration of a pump that has never been configured: absent (R101). The spec gives its other fields no value;
the model reads 0 in each (DESIGN CHOICE, log entry 14). -/
def PumpConfig.blank : PumpConfig := ⟨false, 0, 0, 0, 0, 0, 0, 0⟩

/-- An entry of the pump table (Tables 5-3 and 5-4). `timer` counts in STARTING and STOPPING and is 0 otherwise. -/
structure Pump where
  cfg : PumpConfig
  state : PumpState
  mark : Bool
  command : Nat
  target : Nat
  timer : Nat
  cause : FaultCause
  feedback : Bool
  fault : Bool
deriving DecidableEq, Repr

/-- The live fields a full reset gives a pump (R101), with a configuration. -/
def Pump.fresh (c : PumpConfig) : Pump := ⟨c, .lockedOut, false, 0, 0, 0, .none, false, false⟩

/-- An absent pump never configured. -/
def Pump.blank : Pump := Pump.fresh PumpConfig.blank

/-- The Pump Controller's state (Table 5-11); `lastGrant` is the device count of the last grant (R119). -/
structure PumpController where
  manifolds : List Manifold
  table : List Pump
  queue : List Nat
  startInterval : Nat
  lastGrant : Option (BitVec 64)
  suspended : Bool
  phase : Nat
deriving DecidableEq, Repr

/-! ### Site Monitor (chapter 6) -/

/-- Zone configuration (Table 6-1). Zone 16 is held with `enabled` set (R144: "zone 16 reads enabled"). -/
structure ZoneConfig where
  enabled : Bool
  first : Nat
  last : Nat
  cap : Nat
  soft : Nat
  hard : Nat
  hold : Nat
  stopGroup : Option Nat
  presence : Option Nat
deriving DecidableEq, Repr

/-- A disabled ranged zone (R127). -/
def ZoneConfig.blank : ZoneConfig := ⟨false, 0, 0, 0, 0, 0, 0, none, none⟩

/-- The default zone without an image (R127). -/
def ZoneConfig.defaultZone : ZoneConfig := ⟨true, 0, 0, 10000, 0, 0, 0, none, none⟩

/-- A zone (Tables 6-1 and 6-2); the current cap is formed whenever it is read (R136). -/
structure Zone where
  cfg : ZoneConfig
  wind : WindState
  holdCount : Nat
  latch : Bool
deriving DecidableEq, Repr

/-- A zone as a full reset leaves it (R127). -/
def Zone.fresh (c : ZoneConfig) : Zone := ⟨c, .clear, 0, false⟩

/-- A disabled zone. -/
def Zone.blank : Zone := Zone.fresh ZoneConfig.blank

/-- A presence input's debounced state and count (R137). -/
structure PresenceInput where
  debounced : Bool
  count : Nat
deriving DecidableEq, Repr

/-- The Site Monitor's state (Table 6-6); `lastAnemometer` is the previous sample, `none` before the first. -/
structure SiteMonitor where
  zones : List Zone
  pulses : Nat
  lastAnemometer : Option Bool
  rawWind : Nat
  heldWind : Nat
  factor : Nat
  decay : Nat
  presence : List PresenceInput
  stopLatch : Bool
  level : LevelState
  levelCount : Nat
  phase : Nat
deriving DecidableEq, Repr

/-! ### Light Engine (chapter 7) -/

/-- Fixture configuration (Table 7-1). -/
structure FixtureConfig where
  present : Bool
  line : Nat
  first : Nat
  layout : Layout
  linked : Option Nat
  follow : Bool
  curve : Curve
deriving DecidableEq, Repr

/-- The configuration of a fixture that has never been configured: every field reads 0 (R148). -/
def FixtureConfig.blank : FixtureConfig := ⟨false, 0, 0, .dim1, some 0, false, .linear⟩

/-- An entry of the fixture table (Tables 7-1 and 7-2); `factor` is φ, `none` when not applied. -/
structure Fixture where
  cfg : FixtureConfig
  composed : Level
  factor : Option Nat
  values : List Byte
deriving DecidableEq, Repr

/-- The Light Engine's state (Table 7-7) with its phase count (R2). -/
structure LightEngine where
  table : List Fixture
  master : Nat
  phase : Nat
deriving DecidableEq, Repr

/-! ### Slot Line Unit (chapter 8) -/

/-- Line configuration (Table 8-1); a slot count of 0 is an unconfigured line. -/
structure LineConfig where
  enabled : Bool
  divider : Nat
  slots : Nat
  gap : Nat
deriving DecidableEq, Repr

/-- A line without an image (R158). -/
def LineConfig.blank : LineConfig := ⟨false, 1, 0, 2⟩

/-- A slot line (Tables 8-1 and 8-2). `run` holds the figures of the frame in progress (R163), `clocks` the
system clocks elapsed in it (R160) and `address` its address character (R162). Slot s is entry s - 1 of the
images and of the owner map (R166). -/
structure Line where
  cfg : LineConfig
  sending : Bool
  run : LineConfig
  clocks : Nat
  address : Byte
  front : List Byte
  back : List Byte
  fresh : Bool
  frames : Quad
  held : Quad
  owners : List SlotOwner
deriving DecidableEq, Repr

/-- A line as R158 leaves it: OFF, with images of zeros and no owners. -/
def Line.off (c : LineConfig) : Line :=
  ⟨c, false, c, 0, 0, List.replicate 512 0, List.replicate 512 0, false, 0, 0, List.replicate 512 .free⟩

/-- An unconfigured line. -/
def Line.blank : Line := Line.off LineConfig.blank

/-! ### Clip Store (chapter 9) -/

/-- A clip that holds a slot (Table 9-1). -/
structure Clip where
  state : ClipState
  channels : Nat
  length : Nat
  pages : List Nat
  loaded : List Bool
  loadedPrefix : Nat
  refs : Nat
deriving DecidableEq, Repr

/-- A slot of the clip table; `none` is FREE (R169). -/
structure ClipSlot where
  gen : Byte
  clip : Option Clip
deriving DecidableEq, Repr

/-- A FREE clip slot of generation 0. -/
def ClipSlot.blank : ClipSlot := ⟨0, none⟩

/-- The Clip Store's state: the clip table, the owner of each page (a clip slot) and sample memory as a list of
cells in canonical form (Machine/Ops.lean, `SampleMemory.wf`). -/
structure ClipStore where
  slots : List ClipSlot
  owner : List (Option Nat)
  memory : List Host.Cell
deriving DecidableEq, Repr

/-! ### Deck Mixer (chapter 9) -/

/-- One stereo pair of signed samples. -/
structure Stereo where
  left : Int
  right : Int
deriving DecidableEq, Repr

/-- Silence. -/
def Stereo.zero : Stereo := ⟨0, 0⟩

/-- A deck (Table 9-2). `given` is the contribution of the present sample period (R185 step 1), kept until the
mixer takes it. -/
structure Deck where
  state : DeckState
  clip : Option Half
  cue : Nat
  start : ShowTime
  position : Nat
  gain : Nat
  target : Nat
  step : Nat
  stopPending : Bool
  given : Stereo
deriving DecidableEq, Repr

/-- An EMPTY deck (R176). -/
def Deck.blank : Deck := ⟨.empty, none, 0, 0, 0, 32768, 32768, 0, false, Stereo.zero⟩

/-- The Deck Mixer's state (Table 9-5); `masterNow` is the master volume of the present sample period, which `master`,
the figure AUDIO_SET last gave, replaces from the next one on (R185; DEDUCED, log entry 29), `peak` is the largest
absolute output sample since the last envelope update (R186) and `out` the output frame of the last sample period
(R185). -/
structure DeckMixer where
  table : List Deck
  master : Nat
  masterNow : Nat
  decay : Nat
  envelope : Nat
  peak : Nat
  out : Stereo
deriving DecidableEq, Repr

/-! ### Show Link (chapter 10) -/

/-- A reply in its place of the reply queue: what its header and payload carry, the snapshot once it has started
going out, and how many of its packets the show computer has accepted (R193). -/
structure Reply where
  result : ResultCode
  showState : ShowState
  payload : List Byte
  snapshot : Option Half
  accepted : Nat
deriving DecidableEq, Repr

/-- The last-rejection record (R196). -/
structure Rejection where
  handle : Half
  page : Quad
  reason : ResultCode
deriving DecidableEq, Repr

/-- The Show Link's state (Table 10-6). `transfer`: the bytes of the command transfer in progress, which holds a
place; `clipTransfer`: those of the clip transfer in progress (R189, R191, R196). `notice`: the snapshot of a notice
sent and not yet accepted. `lastPacket`, `lastNotice`: what the last polls were answered with (the model's record of
the two pipes' output). -/
structure ShowLink where
  attached : Bool
  replies : List Reply
  transfer : Option (List Byte)
  clipTransfer : Option (List Byte)
  summary : Half
  notice : Option Half
  mask : Half
  rejection : Rejection
  silence : Nat
  timeout : Nat
  lastPacket : Option (List Byte)
  lastNotice : Option Half
deriving DecidableEq, Repr

/-! ### Configuration Store (chapter 11) -/

/-- The items of Table 11-1. -/
structure SiteConfig where
  nozzles : List NozzleConfig
  manifolds : List ManifoldConfig
  pumps : List PumpConfig
  startInterval : Nat
  zones : List ZoneConfig
  factor : Nat
  decay : Nat
  fixtures : List FixtureConfig
  lines : List LineConfig
  timeout : Nat
  storedFade : Nat
deriving DecidableEq, Repr

/-- The site defaults of Table 11-1. -/
def SiteConfig.defaults : SiteConfig where
  nozzles := List.replicate 384 NozzleConfig.blank
  manifolds := List.replicate 8 ⟨0, 0, 0⟩
  pumps := List.replicate 16 PumpConfig.blank
  startInterval := 0
  zones := List.replicate 16 ZoneConfig.blank ++ [ZoneConfig.defaultZone]
  factor := 0
  decay := 0
  fixtures := List.replicate 512 FixtureConfig.blank
  lines := List.replicate 4 LineConfig.blank
  timeout := 0
  storedFade := 5000

/-- The Configuration Store (R199): the image's items, its validity marker and whether its check value matches
them; the store state, the save count, the snapshot a save is writing and the start-up outcome
(`loadedValid`: VALID). -/
structure ConfigStore where
  image : SiteConfig
  marker : Bool
  checkMatches : Bool
  saving : Bool
  count : Nat
  snapshot : SiteConfig
  loadedValid : Bool
deriving DecidableEq, Repr

/-! ### The part -/

/-- The whole state of the part, with the queue of commands that wait (first in, first out). -/
structure State where
  pending : List Instr
  due : Due
  pins : Inputs
  timer : ShowTimer
  effects : EffectScheduler
  nozzles : NozzleEngine
  pumps : PumpController
  site : SiteMonitor
  lights : LightEngine
  lines : List Line
  clips : ClipStore
  decks : DeckMixer
  link : ShowLink
  store : ConfigStore
deriving DecidableEq, Repr

/-- Why a step could stop with a fault. The spec gives the part no such condition: every row has an effect in
every state (a refused command is answered with a result code), so this type has no constructor. Nobody raises
it; having none is safe, since no behaviour is cut off. -/
inductive Fault where
deriving DecidableEq, Repr

/-- Why a command could be refused by the model. -/
inductive Refusal where
  /-- Raised only by an arm of Machine/Dispatch.lean for a row that has no meaning yet; no arm does so now. Safe:
  the machine stops where the hardware would go on. -/
  | notModelled (mnemonic : String)
deriving DecidableEq, Repr

/-- Nothing is outstanding. -/
def Due.none : Due := ⟨false, false, false, false, false, false, false, false⟩

/-- Every input inactive: the levels the model takes before the first sample (log entry 5). -/
def Inputs.idle : Inputs := ⟨false, 0, false, false, 0, 0⟩

/-- The machine right after reset (R201 and the reset rule of each block): start-up has run on a part that was
never saved, so the site defaults are loaded (log entry 9); nothing waits in the queue. -/
def State.reset : State where
  pending := []
  due := Due.none
  pins := Inputs.idle
  timer := ⟨.stopped, 0, 0, none, none, 5000⟩
  effects := ⟨List.replicate 256 EffectSlot.blank, List.replicate 64 Group.blank, 0, 0⟩
  nozzles := ⟨List.replicate 384 Nozzle.blank, List.replicate 8 FrameRecord.blank, 0⟩
  pumps := ⟨List.replicate 8 Manifold.blank, List.replicate 16 Pump.blank, [], 0, none, true, 0⟩
  site := ⟨List.replicate 16 Zone.blank ++ [Zone.fresh ZoneConfig.defaultZone], 0, none, 0, 0, 0, 0,
    List.replicate 8 ⟨false, 0⟩, false, .low, 0, 0⟩
  lights := ⟨List.replicate 512 ⟨FixtureConfig.blank, ⟨0, 0, 0, 0⟩, none, [0]⟩, 65535, 0⟩
  lines := List.replicate 4 Line.blank
  clips := ⟨List.replicate 64 ClipSlot.blank, List.replicate 2048 none, []⟩
  decks := ⟨List.replicate 2 Deck.blank, 32768, 32768, 83886, 0, 0, Stereo.zero⟩
  link := ⟨false, [], none, none, 0, none, 0, ⟨0, 0, .ok⟩, 0, 0, none, none⟩
  store := ⟨SiteConfig.defaults, false, false, false, 0, SiteConfig.defaults, false⟩

end Sys2Proof.Machine
end

