-- ==== Sys2Proof/Machine/Flags.lean ====
section
/-! DEFINITION. The event summary: its sixteen bits (Table 10-3), raising a bit and taking a snapshot (R194). -/

namespace Sys2Proof.Machine

/-- The kinds of event of Table 10-3. -/
inductive Event where
  | showState | effectEvicted | effectEnded | supplyLimited | windState | zoneStop | siteStop | levelLow
  | pumpState | pumpFault | deckStarved | deckEnded | clipReady | clipReject | storeDone | linkSilence
deriving DecidableEq, Repr

/-- The bit number of an event (Table 10-3). -/
def Event.bit : Event → Nat
  | .showState => 0 | .effectEvicted => 1 | .effectEnded => 2 | .supplyLimited => 3
  | .windState => 4 | .zoneStop => 5 | .siteStop => 6 | .levelLow => 7
  | .pumpState => 8 | .pumpFault => 9 | .deckStarved => 10 | .deckEnded => 11
  | .clipReady => 12 | .clipReject => 13 | .storeDone => 14 | .linkSilence => 15

/-- The summary with one event's bit set. -/
def Event.mask (e : Event) : Half := 1#16 <<< e.bit

/-- Bits raised into the summary; a bit already set stays set (R194). -/
def State.raiseBits (bits : Half) (s : State) : State :=
  { s with link := { s.link with summary := s.link.summary ||| bits } }

/-- A block raises an event bit (R194). -/
def State.raise (e : Event) (s : State) : State := s.raiseBits e.mask

/-- Raise an event when a condition holds. -/
def State.raiseIf (b : Bool) (e : Event) (s : State) : State := if b then s.raise e else s

/-- Taking a snapshot clears, in the summary, exactly the bits the snapshot carries (R194). -/
def State.clearSummary (snapshot : Half) (s : State) : State :=
  { s with link := { s.link with summary := s.link.summary &&& ~~~snapshot } }

end Sys2Proof.Machine
end

