-- ==== Sys2Proof/Machine/Ops.lean ====
section
/-! DEFINITION. The operations the blocks share: show-time order (R4), integer arithmetic (section 0.6), sorting,
reading and changing the entries of the tables, and sample memory (R168, R171). -/

namespace Sys2Proof.Machine

/-! ### Arithmetic -/

/-- Show time `a` is at or after show time `b` (R4). -/
def atOrAfter (a b : ShowTime) : Bool := decide ((a - b).toNat < 2147483648)

/-- Division rounded up (section 0.6, "Arithmetic"). -/
def ceilDiv (n d : Nat) : Nat := (n + d - 1) / d

/-- One more result bit of the integer square root of `n`, from the bit `k - 1` down. -/
def isqrtFrom (n : Nat) : Nat → Nat → Nat
  | 0, r => r
  | k + 1, r => isqrtFrom n k (if (r + 2 ^ k) * (r + 2 ^ k) ≤ n then r + 2 ^ k else r)

/-- The integer floor square root (Table 0-4). -/
def isqrt (n : Nat) : Nat := isqrtFrom n (n.log2 / 2 + 1) 0

/-- Sample periods of a configuration time in milliseconds (section 0.6, "Time"). -/
def periodsOfMs (ms : Nat) : Nat := ms * 48

/-- A show time moved on by a span, modulo 2^32 (R4). -/
def after (t : ShowTime) (span : Nat) : ShowTime := t + BitVec.ofNat 32 span

/-- Put an entry before the first entry of a larger key. -/
def insertByKey {α : Type} (key : α → Nat) (a : α) : List α → List α
  | [] => [a]
  | b :: rest => if key a ≤ key b then a :: b :: rest else b :: insertByKey key a rest

/-- Entries in ascending order of a key. -/
def sortByKey {α : Type} (key : α → Nat) : List α → List α
  | [] => []
  | a :: rest => insertByKey key a (sortByKey key rest)

/-- Apply an operation of the state once for each entry of a list, in order. -/
def forEach {α : Type} (l : List α) (f : α → State → State) (s : State) : State :=
  l.foldl (fun s a => f a s) s

/-! ### Generations and handles (R20, R169) -/

/-- The generation after one more allocation: 255 is followed by 1. -/
def nextGeneration (g : Byte) : Byte := if g = 255 then 1 else g + 1

/-- A handle: slot in the low byte, generation in the high byte (R20). -/
def handleOf (slot : Nat) (gen : Byte) : Half := gen ++ BitVec.ofNat 8 slot

/-- The slot a handle names. -/
def handleSlot (h : Half) : Nat := (h.extractLsb' 0 8).toNat

/-- The generation a handle names. -/
def handleGen (h : Half) : Byte := h.extractLsb' 8 8

/-! ### Tables -/

/-- A slot of the effect table. -/
def State.effectSlot (s : State) (i : Nat) : EffectSlot := s.effects.slots.getD i EffectSlot.blank

/-- Change a slot of the effect table. -/
def State.modifyEffectSlot (i : Nat) (f : EffectSlot → EffectSlot) (s : State) : State :=
  { s with effects := { s.effects with slots := s.effects.slots.modify i f } }

/-- Change the record of a slot, if it holds one. -/
def State.modifyRecord (i : Nat) (f : EffectRecord → EffectRecord) (s : State) : State :=
  s.modifyEffectSlot i fun e => { e with record := e.record.map f }

/-- A group of the group table. -/
def State.group (s : State) (g : Nat) : Group := s.effects.groups.getD g Group.blank

/-- Change a group. -/
def State.modifyGroup (g : Nat) (f : Group → Group) (s : State) : State :=
  { s with effects := { s.effects with groups := s.effects.groups.modify g f } }

/-- One more reference to a group (R43). -/
def State.addRef (g : Nat) (s : State) : State := s.modifyGroup g fun x => { x with refs := x.refs + 1 }

/-- One reference to a group is released (R43). -/
def State.dropRef (g : Nat) (s : State) : State := s.modifyGroup g fun x => { x with refs := x.refs - 1 }

/-- Release the reservation of a new group, when there is one (R34, R35, R39). -/
def State.dropRef? (g : Option Nat) (s : State) : State :=
  match g with
  | some g => s.dropRef g
  | none => s

/-- An entry of the nozzle table. -/
def State.nozzle (s : State) (n : Nat) : Nozzle := s.nozzles.table.getD n Nozzle.blank

/-- Change a nozzle. -/
def State.modifyNozzle (n : Nat) (f : Nozzle → Nozzle) (s : State) : State :=
  { s with nozzles := { s.nozzles with table := s.nozzles.table.modify n f } }

/-- A manifold's frame record. -/
def State.frame (s : State) (m : Nat) : FrameRecord := s.nozzles.frames.getD m FrameRecord.blank

/-- An entry of the manifold table. -/
def State.manifold (s : State) (m : Nat) : Manifold := s.pumps.manifolds.getD m Manifold.blank

/-- Change a manifold. -/
def State.modifyManifold (m : Nat) (f : Manifold → Manifold) (s : State) : State :=
  { s with pumps := { s.pumps with manifolds := s.pumps.manifolds.modify m f } }

/-- An entry of the pump table. -/
def State.pump (s : State) (n : Nat) : Pump := s.pumps.table.getD n Pump.blank

/-- Change a pump. -/
def State.modifyPump (n : Nat) (f : Pump → Pump) (s : State) : State :=
  { s with pumps := { s.pumps with table := s.pumps.table.modify n f } }

/-- A zone. -/
def State.zone (s : State) (z : Nat) : Zone := s.site.zones.getD z Zone.blank

/-- Change a zone. -/
def State.modifyZone (z : Nat) (f : Zone → Zone) (s : State) : State :=
  { s with site := { s.site with zones := s.site.zones.modify z f } }

/-- A fixture never configured. -/
def Fixture.blank : Fixture := ⟨FixtureConfig.blank, ⟨0, 0, 0, 0⟩, none, [0]⟩

/-- An entry of the fixture table. -/
def State.fixture (s : State) (f : Nat) : Fixture := s.lights.table.getD f Fixture.blank

/-- Change a fixture. -/
def State.modifyFixture (n : Nat) (f : Fixture → Fixture) (s : State) : State :=
  { s with lights := { s.lights with table := s.lights.table.modify n f } }

/-- A line. -/
def State.line (s : State) (l : Nat) : Line := s.lines.getD l Line.blank

/-- Change a line. -/
def State.modifyLine (l : Nat) (f : Line → Line) (s : State) : State :=
  { s with lines := s.lines.modify l f }

/-- A slot of the clip table. -/
def State.clipSlot (s : State) (i : Nat) : ClipSlot := s.clips.slots.getD i ClipSlot.blank

/-- Change a slot of the clip table. -/
def State.modifyClipSlot (i : Nat) (f : ClipSlot → ClipSlot) (s : State) : State :=
  { s with clips := { s.clips with slots := s.clips.slots.modify i f } }

/-- A deck. -/
def State.deck (s : State) (d : Nat) : Deck := s.decks.table.getD d Deck.blank

/-- Change a deck. -/
def State.modifyDeck (d : Nat) (f : Deck → Deck) (s : State) : State :=
  { s with decks := { s.decks with table := s.decks.table.modify d f } }

/-- Change the record of what is outstanding. -/
def State.modifyDue (f : Due → Due) (s : State) : State := { s with due := f s.due }

/-! ### Looking a handle up -/

/-- The slot and record an effect handle names; `none` for a stale handle (R20). -/
def State.lookupEffect (s : State) (h : Half) : Option EffectRecord :=
  let e := s.effectSlot (handleSlot h)
  if handleGen h = 0 ∨ e.gen ≠ handleGen h then none else e.record

/-- The clip a clip handle names; `none` for a stale handle (R169). -/
def State.lookupClip (s : State) (h : Half) : Option Clip :=
  let e := s.clipSlot (handleSlot h)
  if handleGen h = 0 ∨ e.gen ≠ handleGen h then none else e.clip

/-! ### Sample memory (R168, R171) -/

/-- Bytes of sample memory: 2048 pages of 65,536 (Table 0-6). -/
def SampleMemory.size : Nat := 134217728

/-- The byte last written at an address, if any. -/
def SampleMemory.byte? (m : List Host.Cell) (a : Nat) : Option Byte :=
  (m.find? fun c => c.1 == a).map (·.2)

/-- What reading an address gives: the byte last written there, or an undefined byte (R168, log entry 10). -/
def SampleMemory.read (m : List Host.Cell) (a : Nat) : Byte :=
  (SampleMemory.byte? m a).getD (Config.undefinedByte a)

/-- Bytes as cells at successive addresses. -/
def SampleMemory.cells : Nat → List Byte → List Host.Cell
  | _, [] => []
  | a, b :: rest => (a, b) :: SampleMemory.cells (a + 1) rest

/-- Write bytes at successive addresses from `a` on. -/
def SampleMemory.write (m : List Host.Cell) (a : Nat) (bytes : List Byte) : List Host.Cell :=
  (m.filter fun c => c.1 < a) ++ SampleMemory.cells a bytes ++ (m.filter fun c => a + bytes.length ≤ c.1)

/-- The canonical form: addresses strictly rising and inside sample memory. No entry can equal what an unlisted
address reads as, since an unlisted byte has no value of its own. -/
abbrev SampleMemory.wf (m : List Host.Cell) : Prop :=
  (m.map (·.1)).Pairwise (· < ·) ∧ ∀ c ∈ m, c.1 < SampleMemory.size

end Sys2Proof.Machine
end

