-- ==== Sys2Proof/Machine/Evaluate.lean ====
section
/-! DEFINITION. Evaluating a record at a time and composing the records that cover a target (chapter 3), with the
normalisation of a record's fields (R24). Nothing here writes the state. -/

namespace Sys2Proof.Machine

/-! ### Parameters in force -/

/-- Clamp each channel of a level. -/
def Level.clamp (top : Nat) (l : Level) : Level := ⟨min l.r top, min l.g top, min l.b top, min l.w top⟩

/-- A level within the range of its record's kind and mode (R24); a JET level is its first channel alone. -/
def Level.normalise (k : Kind) (m : MixMode) (l : Level) : Level :=
  match k with
  | .jet => ⟨min l.r 10000, 0, 0, 0⟩
  | .light => if m = .scale then l.clamp 10000 else l

/-- Normalisation of a record's fields against the kind, mode and shape it has (R24). -/
def EffectParams.normalise (f : EffectParams) : EffectParams :=
  let p := min f.p 2147483647
  { f with
    duration := min f.duration 2147483647
    p := p
    fadeIn := min f.fadeIn 2880000
    fadeOut := min f.fadeOut 2880000
    l0 := f.l0.normalise f.kind f.mode
    l1 := f.l1.normalise f.kind f.mode
    w := match f.shape with
      | .pulse => min f.w p
      | .sparkle => min f.w 65536
      | _ => f.w
    step := f.step % 1024 }

/-- Fields with every field present in an edit put in their place (R29, R52). -/
def EffectParams.overlay (f : EffectParams) (e : EditFields) : EffectParams :=
  { f with
    l0 := e.l0.getD f.l0
    l1 := e.l1.getD f.l1
    p := e.p.getD f.p
    w := e.w.getD f.w
    step := e.step.getD f.step
    seed := e.seed.getD f.seed
    shape := e.shape.getD f.shape
    duration := e.duration.getD f.duration
    fadeOut := e.fadeOut.getD f.fadeOut
    layer := e.layer.getD f.layer
    mode := e.mode.getD f.mode
    group := e.group.getD f.group }

/-- The record's pending edit, when its boundary is at or before `x` (R52). -/
def EffectRecord.editAt (r : EffectRecord) (x : ShowTime) : Option PendingEdit :=
  match r.edit with
  | some e => if atOrAfter x e.boundary then some e else none
  | none => none

/-- The parameters in force at `x` (R52). -/
def EffectRecord.inForce (r : EffectRecord) (x : ShowTime) : EffectParams :=
  match r.editAt x with
  | some e => (r.params.overlay e.fields).normalise
  | none => r.params.normalise

/-! ### The envelope -/

/-- Whether the record is under way at `x` (R54). -/
def underWay (st : EffectState) (start x : ShowTime) : Bool := st ≠ .scheduled || atOrAfter x start

/-- The elapsed time τ, 0 when the record is not under way (R54). -/
def elapsed (st : EffectState) (start x : ShowTime) : Nat := if underWay st start x then (x - start).toNat else 0

/-- The fade-in value at an elapsed time (R55). -/
def fadeInValue (tau fadeIn : Nat) : Nat := if tau < fadeIn then tau * 65536 / fadeIn else 65536

/-- End time and end value of a record under way, if it has an end (R56). -/
def endOf (imposed : Option ImposedFade) (f : EffectParams) : Option (ShowTime × Nat) :=
  match imposed with
  | some i => some (i.start, i.e0)
  | none => if f.duration = 0 then none else some (after f.start f.duration, fadeInValue f.duration f.fadeIn)

/-- The fade-out value from an end time `E` and end value `e0` over `fo`, at an `x` at or after `E` (R57). -/
def fadeOutValue (E : ShowTime) (e0 fo : Nat) (x : ShowTime) : Nat :=
  if atOrAfter x (after E fo) then 0 else e0 * (after E fo - x).toNat / fo

/-- The envelope at `x` of a record whose parameters in force are `f` (R51, R54 to R57, Table 3-2). -/
def envelopeWith (sh : ShowState) (r : EffectRecord) (f : EffectParams) (x : ShowTime) : Nat :=
  if sh = .stopped then 0
  else if underWay r.state f.start x = false then 0
  else match endOf r.imposed f with
    | some (E, e0) =>
      if atOrAfter x E then fadeOutValue E e0 f.fadeOut x else fadeInValue (elapsed r.state f.start x) f.fadeIn
    | none => fadeInValue (elapsed r.state f.start x) f.fadeIn

/-- The envelope of a record at `x` (section 3.2). -/
def envelopeAt (sh : ShowState) (r : EffectRecord) (x : ShowTime) : Nat := envelopeWith sh r (r.inForce x) x

/-! ### Shapes and level -/

/-- One Galois step of a SPARKLE draw (R61 step 3). -/
def galoisStep (s : Nat) : Nat := if s % 2 = 1 then (s / 2) ^^^ 46080 else s / 2

/-- The draw of a SPARKLE record for member position `m` in interval `k` (R61). -/
def sparkleDraw (seed k m : Nat) : Nat :=
  let s := (seed ^^^ (k * 40503 % 65536) ^^^ (m * 9973 % 65536)) % 65536
  Nat.repeat galoisStep 8 (if s = 0 then 1 else s)

/-- The index of a WAVE member into the cosine table (R60). -/
def waveIndex (tau p m step : Nat) : Nat := (tau % p * 1024 / p + m * step) % 1024

/-- The blend α of a record for member position `m` at elapsed time τ (R58 to R63); `env` is the audio envelope. -/
def blend (f : EffectParams) (env tau m : Nat) : Nat :=
  match f.shape with
  | .steady => 65536
  | .ramp => min 65536 (tau * 65536 / f.p)
  | .pulse => if tau % f.p < f.w then 65536 else 0
  | .wave => ((65536 - cosine (waveIndex tau f.p m f.step)) / 2).toNat
  | .sparkle => if sparkleDraw f.seed (tau / f.p) m < f.w then 65536 else 0
  | .audio => env * 65536 / 8388608

/-- One channel of a level at blend α (R64). -/
def mixLevel (a l0 l1 : Nat) : Nat := (l0 * (65536 - a) + l1 * a) / 65536

/-- The level of a record at blend α (R64). -/
def Level.mix (a : Nat) (l0 l1 : Level) : Level :=
  ⟨mixLevel a l0.r l1.r, mixLevel a l0.g l1.g, mixLevel a l0.b l1.b, mixLevel a l0.w l1.w⟩

/-! ### Composition -/

/-- What one record gives to one target: where it stands in the composition order, its mode, envelope and level. -/
structure Contribution where
  layer : Nat
  addSeq : Nat
  mode : MixMode
  envelope : Nat
  level : Level
deriving DecidableEq, Repr

/-- The member position of a target in a group (R53); `none` when the group does not list it. -/
def State.memberPosition (s : State) (group target : Nat) : Option Nat :=
  match (s.group group).defined with
  | some d => d.members.idxOf? target
  | none => none

/-- What a record gives to a target at `x`, when it is of the kind and covers the target (R53). -/
def State.contribution (s : State) (k : Kind) (target : Nat) (x : ShowTime) (r : EffectRecord) :
    Option Contribution :=
  let f := r.inForce x
  if f.kind ≠ k then none
  else match s.memberPosition f.group target with
    | some m =>
      let tau := elapsed r.state f.start x
      some ⟨f.layer, r.addSeq, f.mode, envelopeWith s.timer.showState r f x,
        Level.mix (blend f s.decks.envelope tau m) f.l0 f.l1⟩
    | none => none

/-- The records of the effect table. -/
def State.records (s : State) : List EffectRecord := s.effects.slots.filterMap (·.record)

/-- The contributions to a target in composition order: by layer, then by add sequence (R65). -/
def State.contributions (s : State) (k : Kind) (target : Nat) (x : ShowTime) : List Contribution :=
  sortByKey (fun c => c.layer * 4294967296 + c.addSeq) (s.records.filterMap (s.contribution k target x))

/-- The weighted factor of a SCALE record (R68). -/
def scaleFactor (level e : Nat) : Nat := (10000 * (65536 - e) + level * e) / 65536

/-- One record applied to one channel (R66 to R68); an envelope of 0 leaves the value (R65). -/
def applyMode (m : MixMode) (vmax v level e : Nat) : Nat :=
  if e = 0 then v
  else match m with
    | .replace => (v * (65536 - e) + level * e) / 65536
    | .max => max v (level * e / 65536)
    | .add => min vmax (v + level * e / 65536)
    | .scale => v * scaleFactor level e / 10000

/-- The composed value of one channel (R65). -/
def composeChannel (vmax : Nat) (ch : Level → Nat) (cs : List Contribution) : Nat :=
  cs.foldl (fun v c => applyMode c.mode vmax v (ch c.level) c.envelope) 0

/-- The composed height of a nozzle at `x` (R65, R69, R79). -/
def State.composeNozzle (s : State) (n : Nat) (x : ShowTime) : Nat :=
  composeChannel 10000 Level.r (s.contributions .jet n x)

/-- The composed channels of a fixture at `x` (R65, R69, R150). -/
def State.composeFixture (s : State) (f : Nat) (x : ShowTime) : Level :=
  let cs := s.contributions .light f x
  ⟨composeChannel 65535 Level.r cs, composeChannel 65535 Level.g cs, composeChannel 65535 Level.b cs,
    composeChannel 65535 Level.w cs⟩

/-- Whether a JET record is applied to nozzle `n` at `x`: it covers it with an envelope above 0 (R72). -/
def State.appliedTo (s : State) (r : EffectRecord) (n : Nat) (x : ShowTime) : Bool :=
  match s.contribution .jet n x r with
  | some c => decide (0 < c.envelope)
  | none => false

end Sys2Proof.Machine
end

