-- ==== Sys2Proof/Machine/Operands.lean ====
section
/-! DEFINITION. Operand forms: what a coded byte of a command names (Table 12-3), how the fields of an effect are
taken from a message (Tables 12-4, 12-5), and how a reply's values are encoded (Table 12-2). -/

namespace Sys2Proof.Machine

/-! ### Codes carried by commands. `none` is "a code that names no value". -/

/-- A yes/no, present or enabled field (Table 12-2). -/
def yesNoOf (b : Byte) : Option Bool := if b = 0 then some false else if b = 1 then some true else none

/-- A kind or member kind. -/
def kindOf (b : Byte) : Option Kind := if b = 0 then some .jet else if b = 1 then some .light else none

/-- A mode. -/
def modeOf (b : Byte) : Option MixMode :=
  if b = 0 then some .replace else if b = 1 then some .max else if b = 2 then some .add
  else if b = 3 then some .scale else none

/-- A class. -/
def classOf (b : Byte) : Option EffectClass :=
  if b = 0 then some .showClass else if b = 1 then some .ambient else none

/-- A shape. -/
def shapeOf (b : Byte) : Option Shape :=
  if b = 0 then some .steady else if b = 1 then some .ramp else if b = 2 then some .pulse
  else if b = 3 then some .wave else if b = 4 then some .sparkle else if b = 5 then some .audio else none

/-- When a record or a deck starts (start code of EFFECT_ADD and DECK_START). -/
inductive StartCode where
  | absolute | now | beat
deriving DecidableEq, Repr

/-- A start code. -/
def startCodeOf (b : Byte) : Option StartCode :=
  if b = 0 then some .absolute else if b = 1 then some .now else if b = 2 then some .beat else none

/-- A start code of DECK_START, which knows no BEAT (R178). -/
def deckStartCodeOf (b : Byte) : Option StartCode :=
  if b = 0 then some .absolute else if b = 1 then some .now else none

/-- When an edit comes into force (edit timing). -/
inductive EditTiming where
  | now | beat | at
deriving DecidableEq, Repr

/-- An edit timing code. -/
def timingOf (b : Byte) : Option EditTiming :=
  if b = 0 then some .now else if b = 1 then some .beat else if b = 2 then some .at else none

/-- How a record is retired (retire mode). -/
inductive RetireMode where
  | fade | cut
deriving DecidableEq, Repr

/-- A retire mode code. -/
def retireModeOf (b : Byte) : Option RetireMode :=
  if b = 0 then some .fade else if b = 1 then some .cut else none

/-- A layout code. -/
def layoutOf (b : Byte) : Option Layout :=
  if b = 0 then some .dim1 else if b = 1 then some .rgb else if b = 2 then some .rgbw else none

/-- A curve code. -/
def curveOf (b : Byte) : Option Curve :=
  if b = 0 then some .linear else if b = 1 then some .square else none

/-- A stop group or presence input field: 0..7, or 255 for none (Table 12-2); the outer `none` names no value. -/
def inputOf (b : Byte) : Option (Option Nat) :=
  if b = 255 then some none else if b.toNat ≤ 7 then some (some b.toNat) else none

/-- A linked nozzle field: 0..383, or 65,535 for none; the outer `none` names no value (R146). -/
def linkedOf (h : Half) : Option (Option Nat) :=
  if h = 65535 then some none else if h.toNat ≤ 383 then some (some h.toNat) else none

/-- The level a message carries for a record of a kind: a JET record's is the first channel alone. -/
def levelOf (k : Kind) (l : WireLevel) : Level :=
  match k with
  | .jet => ⟨l.r.toNat, 0, 0, 0⟩
  | .light => ⟨l.r.toNat, l.g.toNat, l.b.toNat, l.w.toNat⟩

/-- Whether bit `b` of a field-present set names its field (Table 12-5). -/
def named (set : Half) (b : Nat) : Bool := set.getLsbD b

/-- The value of a field the set names. -/
def whenNamed {α : Type} (set : Half) (b : Nat) (v : α) : Option α := if named set b then some v else none

/-! ### Encoding of a reply's values (Table 12-2), multi-byte fields little-endian -/

/-- A one-byte field. -/
def put1 (n : Nat) : List Byte := [BitVec.ofNat 8 n]

/-- A two-byte field. -/
def put2 (n : Nat) : List Byte := [BitVec.ofNat 8 n, BitVec.ofNat 8 (n / 256)]

/-- A four-byte field. -/
def put4 (n : Nat) : List Byte :=
  [BitVec.ofNat 8 n, BitVec.ofNat 8 (n / 256), BitVec.ofNat 8 (n / 65536), BitVec.ofNat 8 (n / 16777216)]

/-- A yes/no field. -/
def putFlag (b : Bool) : List Byte := [if b then 1 else 0]

/-- A one-byte number or none (255). -/
def putSmall? (n : Option Nat) : List Byte := put1 (n.getD 255)

/-- A nozzle, fixture or slot number or none (65,535). -/
def putNumber? (n : Option Nat) : List Byte := put2 (n.getD 65535)

/-- An optional four-byte field: presence, then the value, 0 when absent (section 12.1). -/
def putOptional4 (n : Option Nat) : List Byte := putFlag n.isSome ++ put4 (n.getD 0)

/-- An optional one-byte field. -/
def putOptional1 (n : Option Nat) : List Byte := putFlag n.isSome ++ put1 (n.getD 0)

/-- A list of varying length: a one-byte count and that many entries (R204). -/
def putList {α : Type} (enc : α → List Byte) (l : List α) : List Byte := put1 l.length ++ l.flatMap enc

/-- Result codes (Table 12-3). -/
def ResultCode.code : ResultCode → Nat
  | .ok => 0 | .unknownCommand => 1 | .badLength => 2 | .badParam => 3 | .staleHandle => 4 | .tableFull => 5
  | .groupUndefined => 6 | .groupKind => 7 | .groupInUse => 8 | .duplicateMember => 9 | .slotConflict => 10
  | .noSpace => 11 | .busy => 12 | .wrongState => 13 | .wrongShowState => 14 | .siteStopped => 15
  | .notReleasable => 16 | .storeBusy => 17

/-- Show state codes. -/
def ShowState.code : ShowState → Nat
  | .stopped => 0 | .running => 1 | .held => 2 | .ending => 3

/-- Kind codes. -/
def Kind.code : Kind → Nat
  | .jet => 0 | .light => 1

/-- Mode codes. -/
def MixMode.code : MixMode → Nat
  | .replace => 0 | .max => 1 | .add => 2 | .scale => 3

/-- Class codes. -/
def EffectClass.code : EffectClass → Nat
  | .showClass => 0 | .ambient => 1

/-- Effect state codes. -/
def EffectState.code : EffectState → Nat
  | .scheduled => 0 | .active => 1 | .fading => 2

/-- Limitation flags as a bit set. -/
def Limits.code (l : Limits) : Nat :=
  (if l.zoneCap then 1 else 0) + (if l.wind then 2 else 0) + (if l.stop then 4 else 0)
    + (if l.supply then 8 else 0) + (if l.slew then 16 else 0)

/-- Pump state codes. -/
def PumpState.code : PumpState → Nat
  | .lockedOut => 0 | .idle => 1 | .queued => 2 | .starting => 3 | .running => 4 | .stopping => 5 | .fault => 6

/-- Fault cause codes. -/
def FaultCause.code : FaultCause → Nat
  | .none => 0 | .faultInput => 1 | .startTimeout => 2 | .feedbackLost => 3 | .stopTimeout => 4

/-- Wind state codes. -/
def WindState.code : WindState → Nat
  | .clear => 0 | .derated => 1 | .windHold => 2

/-- Level state codes. -/
def LevelState.code : LevelState → Nat
  | .ok => 0 | .low => 1

/-- Layout codes. -/
def Layout.code : Layout → Nat
  | .dim1 => 0 | .rgb => 1 | .rgbw => 2

/-- Curve codes. -/
def Curve.code : Curve → Nat
  | .linear => 0 | .square => 1

/-- Clip state codes; 0 is FREE. -/
def ClipState.code : ClipState → Nat
  | .loading => 1 | .ready => 2 | .retiring => 3

/-- Deck state codes. -/
def DeckState.code : DeckState → Nat
  | .empty => 0 | .cued => 1 | .waiting => 2 | .playing => 3 | .starved => 4

/-- A slot owner: its code, then index and channel (Table 12-3); a free slot carries the values for none. -/
def putOwner : SlotOwner → List Byte
  | .free => put1 0 ++ put2 65535 ++ put1 255
  | .valveHigh n => put1 1 ++ put2 n ++ put1 255
  | .valveLow n => put1 2 ++ put2 n ++ put1 255
  | .fixture f c => put1 3 ++ put2 f ++ put1 c

end Sys2Proof.Machine
end

