-- ==== Sys2Proof/Machine/Transfer.lean ====
section
/-! DEFINITION. How a command message is taken from the command pipe and answered (R190 to R193): the place in the
reply queue, the silence timer's restart, the dispatch to the owning block and the reply. Every command row is one
call of `takeCommand` with its owner's handler. -/

namespace Sys2Proof.Machine

/-- What an owning block answers: a result code and, when it is OK, a payload (R193). -/
structure Answer where
  result : ResultCode
  payload : List Byte
deriving DecidableEq, Repr

/-- A block's carrying out of a command: the state after it and its answer. -/
abbrev Handler := State → State × Answer

/-- A refused command changes nothing and is answered with a header alone. -/
def refuse (c : ResultCode) : Handler := fun s => (s, ⟨c, []⟩)

/-- An accepted command: its effect, and a payload read from the state after it. -/
def accept (effect : State → State) (payload : State → List Byte := fun _ => []) : Handler :=
  fun s => (effect s, ⟨.ok, payload (effect s)⟩)

/-- The checks of a command, in the order the owning rule lists them: the first that fails gives the result. -/
def firstFailure : List (Bool × ResultCode) → Option ResultCode
  | [] => none
  | (failed, code) :: rest => if failed then some code else firstFailure rest

/-- Refuse with the first failing check, else go on. -/
def checked (checks : List (Bool × ResultCode)) (go : Handler) : Handler :=
  match firstFailure checks with
  | some c => refuse c
  | none => go

/-- The first two checks of every configuration command (Table 10-5, note): the show STOPPED, no save in progress. -/
def configChecks (s : State) : List (Bool × ResultCode) :=
  [(s.timer.showState ≠ .stopped, .wrongShowState), (s.store.saving, .storeBusy)]

/-! ### Packets (R189, R191, R196) -/

/-- The packet size of each pipe in bytes (R189). -/
def packetSize : Nat := 64

/-- A short packet, which ends a transfer: shorter than the packet size, or of zero length (R189). -/
def isShort (packet : List Byte) : Bool := decide (packet.length < packetSize)

/-- A transfer in progress with one more packet. Bytes beyond a pipe's limit are discarded as they arrive (R192,
R196); the one byte kept beyond it tells that the transfer is over-long. -/
def withPacket (limit : Nat) (transfer : Option (List Byte)) (packet : List Byte) : List Byte :=
  (transfer.getD [] ++ packet).take (limit + 1)

/-! ### Taking a transfer (R190 to R192) -/

/-- Places held in the reply queue: the replies waiting, and the transfer in progress (R191). -/
def placesHeld (l : ShowLink) : Nat := l.replies.length + (if l.transfer.isSome then 1 else 0)

/-- The link can take a whole command transfer now: it is ATTACHED (R190), no other transfer is in progress, and a
place can be held for this one (R191). A transfer in progress goes on with its packets (COMMAND_PACKET, log
entry 6). -/
def canTake (s : State) : Bool := s.link.attached && s.link.transfer.isNone && decide (placesHeld s.link < 4)

/-- A transfer is taken: the silence timer restarts from 0 (R16, R191). -/
def State.transferTaken (s : State) : State :=
  { s with link := { s.link with transfer := none, silence := 0 } }

/-- A reply fills the place its transfer held; its header carries the show state as it then stands (R5, R193). -/
def State.pushReply (a : Answer) (s : State) : State :=
  { s with link := { s.link with
      replies := s.link.replies ++ [⟨a.result, s.timer.showState, a.payload, none, 0⟩] } }

/-- The end of a command transfer: it is taken and carried out as one event and its reply queued (R191, R192). -/
def dispatch (h : Handler) (s : State) : State :=
  let r := h s.transferTaken
  r.1.pushReply r.2

/-- A command transfer as a whole: it is taken, or its first packet is refused, or nothing arrives on a DETACHED link
or on a pipe that another transfer occupies, and nothing changes. -/
def takeCommand (h : Handler) (s : State) : State := if canTake s then dispatch h s else s

/-- A meaning's outcome: the next state. -/
def done (s : State) : Host.Outcome State Fault Refusal := .next s

end Sys2Proof.Machine
end

