-- ==== Sys2Proof/Machine/ShowTime.lean ====
section
/-! DEFINITION. Show time (chapter 1) and what a change of show state does in the Effect Scheduler (R34, R35, R49,
R50) and the Deck Mixer (R174, R176, R184), which the change reaches at once (R5). -/

namespace Sys2Proof.Machine

/-! ### The beat grid (R15) -/

/-- The next beat at or after `t` by a grid (R15). -/
def nextBeat (g : BeatGrid) (t : ShowTime) : ShowTime :=
  if atOrAfter g.anchor t then g.anchor
  else
    let k := ceilDiv ((t - g.anchor).toNat * 256) g.period.toNat
    after g.anchor (k * g.period.toNat / 256)

/-- The time BEAT resolves to: the next beat at or after now, or now when there is no grid (R15, R25, R38). -/
def State.beatTime (s : State) : ShowTime :=
  match s.timer.grid with
  | some g => nextBeat g s.timer.clock
  | none => s.timer.clock

/-! ### Freeing and ending effect records -/

/-- Freeing a record (R35): its group's reference and any reservation are released, the slot keeps its generation. -/
def State.freeRecord (i : Nat) (s : State) : State :=
  match (s.effectSlot i).record with
  | none => s
  | some r =>
    let s := s.dropRef r.params.group
    let s := s.dropRef? (r.edit.bind (·.fields.group))
    s.modifyEffectSlot i fun e => { e with record := none }

/-- A pending edit is applied to its record (R29): fields replaced and normalised, and when the edit names a new
group the old group's reference is released, the reservation becoming the record's own. -/
def State.applyEdit (i : Nat) (r : EffectRecord) (e : PendingEdit) (s : State) : State :=
  let s := match e.fields.group with
    | some _ => s.dropRef r.params.group
    | none => s
  s.modifyRecord i fun r => { r with params := (r.params.overlay e.fields).normalise, edit := none }

/-- The pending edit of a record entering FADING at `t` is settled: applied when its boundary is at or before `t`,
discarded with its reservation otherwise (R34). -/
def State.settleEdit (i : Nat) (t : ShowTime) (s : State) : State :=
  match (s.effectSlot i).record with
  | none => s
  | some r =>
    match r.edit with
    | none => s
    | some e =>
      if atOrAfter t e.boundary then s.applyEdit i r e
      else
        let s := s.dropRef? e.fields.group
        s.modifyRecord i fun r => { r with edit := none }

/-- A record enters FADING with an imposed fade from `t` at its present envelope (R33). -/
def State.imposeFade (i : Nat) (t : ShowTime) (s : State) : State :=
  match (s.effectSlot i).record with
  | none => s
  | some r =>
    let e0 := envelopeAt s.timer.showState r t
    let s := s.settleEdit i t
    s.modifyRecord i fun r => { r with state := .fading, imposed := some ⟨t, e0⟩ }

/-- One record at the entry into ENDING (R49): SCHEDULED is freed; another fades from `t` over the end fade. -/
def State.endRecord (t : ShowTime) (fade : Nat) (i : Nat) (s : State) : State :=
  match (s.effectSlot i).record with
  | none => s
  | some r =>
    if r.state = .scheduled then s.freeRecord i
    else
      let s := s.imposeFade i t
      s.modifyRecord i fun r => { r with params := { r.params with fadeOut := fade } }

/-! ### Decks becoming EMPTY -/

/-- A clip is freed: its pages become free and its slot FREE, keeping its generation (R174). -/
def State.freeClip (i : Nat) (s : State) : State :=
  let s := s.modifyClipSlot i fun e => { e with clip := none }
  { s with clips := { s.clips with owner := s.clips.owner.map fun o => if o = some i then none else o } }

/-- A deck's release of a clip: the count goes down by one, and a RETIRING clip at 0 is freed (R174). -/
def State.releaseClip (h : Half) (s : State) : State :=
  match s.lookupClip h with
  | none => s
  | some c =>
    if c.state = .retiring ∧ c.refs ≤ 1 then s.freeClip (handleSlot h)
    else s.modifyClipSlot (handleSlot h) fun e =>
      { e with clip := e.clip.map fun c => { c with refs := c.refs - 1 } }

/-- A deck's take of a clip (R174). -/
def State.takeClip (h : Half) (s : State) : State :=
  s.modifyClipSlot (handleSlot h) fun e => { e with clip := e.clip.map fun c => { c with refs := c.refs + 1 } }

/-- A deck releases the clip it holds, if any (R174). -/
def State.releaseHeld (d : Nat) (s : State) : State :=
  match (s.deck d).clip with
  | some h => s.releaseClip h
  | none => s

/-- A deck becomes EMPTY (R176). What it has given in the present period stays with the mixer. -/
def State.emptyDeck (d : Nat) (s : State) : State :=
  (s.releaseHeld d).modifyDeck d fun k => { Deck.blank with given := k.given }

/-- Whether a deck is WAITING, PLAYING or STARVED. -/
def Deck.sounding (k : Deck) : Bool := k.state = .waiting || k.state = .playing || k.state = .starved

/-- A deck at the entry into STOPPED (R184). -/
def State.stopDeck (d : Nat) (s : State) : State := if (s.deck d).sounding then s.emptyDeck d else s

/-- A deck at the entry into ENDING (R184): it ramps to silence over the fade unless its stop is pending. -/
def endDeck (fade : Nat) (k : Deck) : Deck :=
  if k.sounding && !k.stopPending then { k with target := 0, step := ceilDiv k.gain fade } else k

/-! ### Changes of show state -/

/-- The silence timer stopped and cleared (R16). -/
def State.clearSilence (s : State) : State := { s with link := { s.link with silence := 0 } }

/-- The show state becomes `sh`, and SHOW_STATE is raised once for the change (R5). -/
def State.enterShow (sh : ShowState) (s : State) : State :=
  ({ s with timer := { s.timer with showState := sh } }).raise .showState

/-- The effect table at an entry into STOPPED (R50): every record freed, both counters 0. -/
def State.clearEffects (s : State) : State :=
  let s := forEach (List.range 256) State.freeRecord s
  { s with effects := { s.effects with addCounter := 0, touchCounter := 0 } }

/-- Entering STOPPED (R6, R50, R184); a cause that finds the show STOPPED is no entry. -/
def State.enterStopped (s : State) : State :=
  if s.timer.showState = .stopped then s
  else
    let s := s.clearEffects
    let s := forEach [0, 1] State.stopDeck s
    let s := s.clearSilence
    let s := { s with timer := { s.timer with clock := 0, grid := none, endTime := none } }
    s.enterShow .stopped

/-- Entering ENDING with an end fade in sample periods (R10, R49, R184). -/
def State.enterEnding (fade : Nat) (s : State) : State :=
  let t := s.timer.clock
  let s := forEach (List.range 256) (State.endRecord t fade) s
  let s := { s with decks := { s.decks with table := s.decks.table.map (endDeck fade) } }
  let s := s.clearSilence
  let s := { s with timer := { s.timer with endTime := some (after t fade) } }
  s.enterShow .ending

/-- Ending a RUNNING or HELD show with a fade in milliseconds (R10, R17). -/
def State.endShow (fadeMs : Nat) (s : State) : State :=
  if fadeMs = 0 then s.enterStopped else s.enterEnding (periodsOfMs fadeMs)

/-- The fade in milliseconds that SHOW_END's field names (R10). -/
def endFadeMs (stored : Nat) (field : Half) : Nat := if field = 65535 then stored else min field.toNat 60000

/-- Whether the show is RUNNING or HELD. -/
def State.runningOrHeld (s : State) : Bool := s.timer.showState = .running || s.timer.showState = .held

/-! ### The commands of chapter 1 -/

/-- SHOW_START (R7). -/
def handleShowStart : Handler := fun s =>
  checked [(s.timer.showState ≠ .stopped, .wrongShowState), (s.site.stopLatch, .siteStopped)]
    (accept fun s =>
      State.enterShow .running { s.clearSilence with timer := { s.timer with clock := 0 } }) s

/-- SHOW_START begins a show from STOPPED (R7). -/
def execShowStart (s : State) : Host.Outcome State Fault Refusal := done (takeCommand handleShowStart s)

/-- SHOW_HOLD (R8). -/
def handleShowHold : Handler := fun s =>
  checked [(s.timer.showState ≠ .running, .wrongShowState)] (accept (State.enterShow .held)) s

/-- SHOW_HOLD freezes a running show (R8). -/
def execShowHold (s : State) : Host.Outcome State Fault Refusal := done (takeCommand handleShowHold s)

/-- SHOW_RESUME (R9). -/
def handleShowResume : Handler := fun s =>
  checked [(s.timer.showState ≠ .held, .wrongShowState)] (accept (State.enterShow .running)) s

/-- SHOW_RESUME releases a held show (R9). -/
def execShowResume (s : State) : Host.Outcome State Fault Refusal := done (takeCommand handleShowResume s)

/-- SHOW_END (R10). -/
def handleShowEnd (fade : Half) : Handler := fun s =>
  checked [(!s.runningOrHeld, .wrongShowState)]
    (accept fun s => s.endShow (endFadeMs s.timer.storedFade fade)) s

/-- SHOW_END ends a show with a fade (R10). -/
def execShowEnd (fade : Half) (s : State) : Host.Outcome State Fault Refusal :=
  done (takeCommand (handleShowEnd fade) s)

/-- SHOW_STOP, accepted in every show state (R12). -/
def handleShowStop : Handler := accept State.enterStopped

/-- SHOW_STOP stops the show at once (R12). -/
def execShowStop (s : State) : Host.Outcome State Fault Refusal := done (takeCommand handleShowStop s)

/-- TEMPO_SET (R14). -/
def handleTempoSet (period anchor : Quad) : Handler := fun s =>
  checked [(0 < period.toNat ∧ period.toNat < 256, .badParam)]
    (accept fun s => { s with timer := { s.timer with
      grid := if period = 0 then none else some ⟨period, anchor⟩ } }) s

/-- TEMPO_SET replaces or removes the beat grid (R14). -/
def execTempoSet (period anchor : Quad) (s : State) : Host.Outcome State Fault Refusal :=
  done (takeCommand (handleTempoSet period anchor) s)

/-- The payload of SHOW_QUERY (R18). -/
def showReport (s : State) : List Byte :=
  put1 s.timer.showState.code ++ put4 s.timer.clock.toNat
    ++ put4 (if s.timer.showState = .ending then (s.timer.endTime.getD 0).toNat else 0)
    ++ putFlag s.timer.grid.isSome
    ++ put4 ((s.timer.grid.map BeatGrid.period).getD 0).toNat ++ put4 ((s.timer.grid.map BeatGrid.anchor).getD 0).toNat
    ++ putOptional4 (s.timer.grid.map fun g => (nextBeat g s.timer.clock).toNat)
    ++ put2 s.timer.storedFade ++ put1 s.link.timeout ++ put4 s.link.silence

/-- SHOW_QUERY (R18). -/
def handleShowQuery : Handler := accept id showReport

/-- SHOW_QUERY reports the Show Timer's state (R18). -/
def execShowQuery (s : State) : Host.Outcome State Fault Refusal := done (takeCommand handleShowQuery s)

/-! ### End-of-period events -/

/-- Whether the end of ENDING is reached (R11). -/
def State.atEndTime (s : State) : Bool :=
  s.timer.showState = .ending && decide (s.timer.endTime = some s.timer.clock)

/-- The end of ENDING (R11). -/
def State.takeEndTime (s : State) : State := if s.atEndTime then s.enterStopped else s

/-- END_TIME_REACHED: in ENDING, the clock equal to the end time sends the show to STOPPED (R11). -/
def execEndTimeReached (s : State) : Host.Outcome State Fault Refusal := done s.takeEndTime

/-- Whether the silence timer counts (R16). -/
def State.silenceCounts (s : State) : Bool := s.runningOrHeld && decide (0 < s.link.timeout)

/-- Whether the silence timer has reached the timeout (R17). -/
def State.silenceExpired (s : State) : Bool :=
  s.silenceCounts && decide (s.link.timeout * 48000 ≤ s.link.silence)

/-- Expiry of the silence timer (R17): the show ends as by SHOW_END with the stored end fade. -/
def State.takeSilence (s : State) : State :=
  if s.silenceExpired then (s.endShow s.timer.storedFade).raise .linkSilence else s

/-- SILENCE_TIMER_EXPIRY (R17). -/
def execSilenceTimerExpiry (s : State) : Host.Outcome State Fault Refusal := done s.takeSilence

end Sys2Proof.Machine
end

