-- ==== Sys2Proof/Machine/Effects.lean ====
section
/-! DEFINITION. The Effect Scheduler (chapter 2): adding, editing, retiring, querying and evicting effect records,
the group table, and the transitions of a jet boundary. -/

namespace Sys2Proof.Machine

/-! ### Adding (R23 to R28) -/

/-- The coded fields of an EFFECT_ADD, decoded (R23 step 2). -/
structure AddCodes where
  kind : Kind
  mode : MixMode
  cls : EffectClass
  pinned : Bool
  shape : Shape
  start : StartCode
deriving DecidableEq, Repr

/-- The coded fields of an EFFECT_ADD; `none` when one names no value, or the group or layer is out of range
(R23 step 2). -/
def addCodes (p : EffectAddParams) : Option AddCodes :=
  match kindOf p.kind, modeOf p.mode, classOf p.cls, yesNoOf p.pinned, shapeOf p.shape, startCodeOf p.startCode with
  | some k, some m, some c, some pin, some sh, some st =>
    if p.group.toNat ≤ 63 ∧ p.layer.toNat ≤ 7 then some ⟨k, m, c, pin, sh, st⟩ else none
  | _, _, _, _, _, _ => none

/-- A shape whose period may not be 0 (R23 step 3, R36 step 4). -/
def Shape.needsPeriod (sh : Shape) : Bool := sh = .ramp || sh = .pulse || sh = .wave || sh = .sparkle

/-- Check of a group for a record of a kind (R23 step 4, R36 step 5). -/
def groupCheck (s : State) (g : Nat) (k : Kind) : Option ResultCode :=
  match (s.group g).defined with
  | none => some .groupUndefined
  | some d => if d.kind = k then none else some .groupKind

/-- A record eligible for eviction (R27). -/
def EffectRecord.evictable (r : EffectRecord) : Bool := r.state = .active && r.cls = .ambient && !r.pinned

/-- The lowest-numbered free slot (R21). -/
def State.freeEffectSlot (s : State) : Option Nat := s.effects.slots.findIdx? fun e => e.record.isNone

/-- Eligible slots with their touch stamps, in slot order. -/
def State.evictionCandidates (s : State) : List (Nat × Nat) :=
  s.effects.slots.zipIdx.filterMap fun (e, i) =>
    match e.record with
    | some r => if r.evictable then some (r.touch, i) else none
    | none => none

/-- The victim: the smallest touch stamp, the lowest-numbered slot among equals (R27). -/
def State.victim (s : State) : Option Nat := ((sortByKey Prod.fst s.evictionCandidates).head?).map Prod.snd

/-- The resolved start of a new record (R25). -/
def State.resolveStart (s : State) (c : StartCode) (t : ShowTime) : ShowTime :=
  match c with
  | .absolute => t
  | .now => s.timer.clock
  | .beat => s.beatTime

/-- The touch counter after one more stamp: it stays at its maximum (R22). -/
def nextTouch (n : Nat) : Nat := min (n + 1) 4294967295

/-- The new record (R24, R26). -/
def newRecord (s : State) (p : EffectAddParams) (c : AddCodes) : EffectRecord where
  params := EffectParams.normalise
    { kind := c.kind, group := p.group.toNat, layer := p.layer.toNat, mode := c.mode,
      start := s.resolveStart c.start p.start, duration := p.duration.toNat, fadeIn := p.fadeIn.toNat,
      fadeOut := p.fadeOut.toNat, shape := c.shape, l0 := levelOf c.kind p.l0, l1 := levelOf c.kind p.l1,
      p := p.p.toNat, w := p.w.toNat, step := p.step.toNat, seed := p.seed.toNat }
  cls := c.cls
  pinned := c.pinned
  state := .scheduled
  addSeq := s.effects.addCounter
  touch := s.effects.touchCounter
  imposed := none
  edit := none
  limits := Limits.empty
  reported := 0

/-- The new record is placed in slot `i` (R26). -/
def State.placeRecord (i : Nat) (r : EffectRecord) (s : State) : State :=
  let s := s.modifyEffectSlot i fun e => ⟨nextGeneration e.gen, some r⟩
  let s := { s with effects := { s.effects with
    addCounter := s.effects.addCounter + 1, touchCounter := nextTouch s.effects.touchCounter } }
  s.addRef r.params.group

/-- The handle of the record a slot holds. -/
def State.effectHandle (s : State) (i : Nat) : Half := handleOf i (s.effectSlot i).gen

/-- The reply to an accepted EFFECT_ADD (Table 12-8). -/
def addReply (s : State) (i : Nat) (start : ShowTime) (evicted : Half) : Answer :=
  ⟨.ok, put2 (s.effectHandle i).toNat ++ put4 start.toNat ++ put2 evicted.toNat⟩

/-- EFFECT_ADD placed in a slot, after its victim is freed when there is one (R26, R28). -/
def addAt (i : Nat) (evicted : Half) (r : EffectRecord) (s : State) : State × Answer :=
  let s' := s.placeRecord i r
  (s', addReply s' i r.params.start evicted)

/-- EFFECT_ADD (R23, R26 to R28). -/
def handleEffectAdd (p : EffectAddParams) : Handler := fun s =>
  match addCodes p with
  | none => refuse (if s.timer.showState = .ending then .wrongShowState else .badParam) s
  | some c =>
    checked
      [(s.timer.showState = .ending, .wrongShowState),
       (c.shape.needsPeriod && decide (p.p = 0), .badParam),
       (groupCheck s p.group.toNat c.kind = some .groupUndefined, .groupUndefined),
       (groupCheck s p.group.toNat c.kind = some .groupKind, .groupKind),
       (decide (s.effects.addCounter = 4294967295), .tableFull)]
      (fun s =>
        match s.freeEffectSlot with
        | some i => addAt i 0 (newRecord s p c) s
        | none =>
          match s.victim with
          | some i => addAt i (s.effectHandle i) (newRecord s p c) ((s.freeRecord i).raise .effectEvicted)
          | none => refuse .tableFull s)
      s

/-- EFFECT_ADD checks and places a new effect record (R23, R26). -/
def execEffectAdd (p : EffectAddParams) (s : State) : Host.Outcome State Fault Refusal :=
  done (takeCommand (handleEffectAdd p) s)

/-! ### Editing (R36 to R41) -/

/-- Whether the fields an edit names hold codes that name a value and numbers in their structural range, and the
set names editable fields only (R36 step 1; bits 14 and 15 are no field). -/
def editCoded (set : Half) (v : EditValues) : Bool :=
  !named set 14 && !named set 15
    && (!named set 6 || (shapeOf v.shape).isSome) && (!named set 10 || (modeOf v.mode).isSome)
    && (!named set 12 || (yesNoOf v.pinned).isSome) && (!named set 13 || (classOf v.cls).isSome)
    && (!named set 11 || decide (v.group.toNat ≤ 63)) && (!named set 9 || decide (v.layer.toNat ≤ 7))

/-- The fields an edit would stage: all but pinned and class (R38). -/
def editFields (k : Kind) (set : Half) (v : EditValues) : EditFields where
  l0 := whenNamed set 0 (levelOf k v.l0)
  l1 := whenNamed set 1 (levelOf k v.l1)
  p := whenNamed set 2 v.p.toNat
  w := whenNamed set 3 v.w.toNat
  step := whenNamed set 4 v.step.toNat
  seed := whenNamed set 5 v.seed.toNat
  shape := if named set 6 then shapeOf v.shape else none
  duration := whenNamed set 7 v.duration.toNat
  fadeOut := whenNamed set 8 v.fadeOut.toNat
  layer := whenNamed set 9 v.layer.toNat
  mode := if named set 10 then modeOf v.mode else none
  group := whenNamed set 11 v.group.toNat

/-- A new edit merged over a pending one: fields of the new one win, the others stay (R39). -/
def EditFields.merge (old new : EditFields) : EditFields where
  l0 := new.l0.or old.l0
  l1 := new.l1.or old.l1
  p := new.p.or old.p
  w := new.w.or old.w
  step := new.step.or old.step
  seed := new.seed.or old.seed
  shape := new.shape.or old.shape
  duration := new.duration.or old.duration
  fadeOut := new.fadeOut.or old.fadeOut
  layer := new.layer.or old.layer
  mode := new.mode.or old.mode
  group := new.group.or old.group

/-- The record's fields overlaid with its pending edit, whatever its boundary (R36 step 4). -/
def EffectRecord.withEdit (r : EffectRecord) : EffectParams :=
  match r.edit with
  | some e => r.params.overlay e.fields
  | none => r.params

/-- The fields that would result from a new edit (R36 step 4). -/
def EffectRecord.resulting (r : EffectRecord) (f : EditFields) : EffectParams := r.withEdit.overlay f

/-- Whether a field-present set names a field other than pinned and class (R38, R41). -/
def namesStaged (set : Half) : Bool := decide (set.extractLsb' 0 12 ≠ 0)

/-- pinned and class change on the record at acceptance, and its touch stamp is refreshed (R41). -/
def State.touchEdit (i : Nat) (set : Half) (v : EditValues) (s : State) : State :=
  let stamp := s.effects.touchCounter
  let s := { s with effects := { s.effects with touchCounter := nextTouch stamp } }
  s.modifyRecord i fun r => { r with
    touch := stamp
    pinned := if named set 12 then (yesNoOf v.pinned).getD r.pinned else r.pinned
    cls := if named set 13 then (classOf v.cls).getD r.cls else r.cls }

/-- An edit taken at once by a SCHEDULED record (R37). -/
def State.editAtOnce (i : Nat) (r : EffectRecord) (f : EditFields) (s : State) : State :=
  let s := match f.group with
    | some g => (s.addRef g).dropRef r.params.group
    | none => s
  s.modifyRecord i fun r => { r with params := (r.params.overlay f).normalise }

/-- The boundary of a staged edit (R38). -/
def State.resolveBoundary (s : State) (c : EditTiming) (t : ShowTime) : ShowTime :=
  match c with
  | .now => s.timer.clock
  | .beat => s.beatTime
  | .at => t

/-- An edit staged on an ACTIVE record, or merged into its pending edit (R38, R39). -/
def State.stageEdit (i : Nat) (r : EffectRecord) (f : EditFields) (boundary : ShowTime) (s : State) : State :=
  let s := match f.group with
    | some g => s.addRef g
    | none => s
  match r.edit with
  | none => s.modifyRecord i fun r => { r with edit := some ⟨f, boundary⟩ }
  | some e =>
    let s := if f.group.isSome then s.dropRef? e.fields.group else s
    s.modifyRecord i fun r => { r with edit := some ⟨e.fields.merge f, boundary⟩ }

/-- The reply to an accepted EFFECT_EDIT: outcome and boundary (Table 12-8). The spec gives a boundary of 0 with the
outcome APPLIED to a SCHEDULED record's edit (R38) and no figure to that of an ACTIVE record's edit that stages nothing
and finds no pending edit (R41); the model carries 0 there too (DESIGN CHOICE, log entry 35). -/
def editReply (staged : Option ShowTime) : Answer :=
  ⟨.ok, put1 (if staged.isSome then 1 else 0) ++ put4 (staged.getD 0).toNat⟩

/-- An accepted EFFECT_EDIT (R37 to R39, R41). -/
def editAccepted (i : Nat) (r : EffectRecord) (c : EditTiming) (t : ShowTime) (set : Half) (v : EditValues) :
    Handler := fun s =>
  let f := editFields r.params.kind set v
  let s' := s.touchEdit i set v
  if r.state = .scheduled then (s'.editAtOnce i r f, editReply none)
  else if namesStaged set then
    let boundary := s.resolveBoundary c t
    (s'.stageEdit i r f boundary, editReply (some boundary))
  else (s', editReply (r.edit.map (·.boundary)))

/-- EFFECT_EDIT (R36). -/
def handleEffectEdit (h : Half) (timing : Byte) (t : Quad) (set : Half) (v : EditValues) : Handler := fun s =>
  match timingOf timing, editCoded set v with
  | some c, true =>
    match s.lookupEffect h with
    | none => refuse .staleHandle s
    | some r =>
      let f := editFields r.params.kind set v
      let result := r.resulting f
      checked
        [(r.state = .fading, .wrongState),
         (result.shape.needsPeriod && decide (result.p = 0), .badParam),
         (named set 11 && decide (groupCheck s v.group.toNat r.params.kind = some .groupUndefined), .groupUndefined),
         (named set 11 && decide (groupCheck s v.group.toNat r.params.kind = some .groupKind), .groupKind)]
        (editAccepted (handleSlot h) r c t set v) s
  | _, _ => refuse .badParam s

/-- EFFECT_EDIT edits a record (R36 to R41). -/
def execEffectEdit (h : Half) (timing : Byte) (t : Quad) (set : Half) (v : EditValues) (s : State) :
    Host.Outcome State Fault Refusal :=
  done (takeCommand (handleEffectEdit h timing t set v) s)

/-! ### Retiring and reading (R33, R48) -/

/-- EFFECT_RETIRE (R33, Table 2-6). -/
def handleEffectRetire (h : Half) (mode : Byte) : Handler := fun s =>
  match retireModeOf mode with
  | none => refuse .badParam s
  | some m =>
    match s.lookupEffect h with
    | none => refuse .staleHandle s
    | some r =>
      if m = .cut ∨ r.state = .scheduled then (s.freeRecord (handleSlot h), ⟨.ok, put1 0⟩)
      else if r.state = .active then (s.imposeFade (handleSlot h) s.timer.clock, ⟨.ok, put1 1⟩)
      else (s, ⟨.ok, put1 1⟩)

/-- EFFECT_RETIRE retires a record by FADE or CUT (R33). -/
def execEffectRetire (h : Half) (mode : Byte) (s : State) : Host.Outcome State Fault Refusal :=
  done (takeCommand (handleEffectRetire h mode) s)

/-- The payload of EFFECT_QUERY (R48, Table 12-8). -/
def recordReport (r : EffectRecord) : List Byte :=
  put1 r.state.code ++ put1 r.params.kind.code ++ put1 r.params.group ++ put1 r.params.layer
    ++ put1 r.params.mode.code ++ put1 r.cls.code ++ putFlag r.pinned
    ++ put4 r.params.start.toNat ++ put4 r.addSeq ++ put4 r.touch ++ put4 r.reported
    ++ putOptional4 (r.imposed.map (·.start.toNat))
    ++ putOptional4 (r.edit.map (·.boundary.toNat)) ++ putSmall? (r.edit.bind (·.fields.group))
    ++ put1 r.limits.code

/-- EFFECT_QUERY (R48). -/
def handleEffectQuery (h : Half) : Handler := fun s =>
  match s.lookupEffect h with
  | none => refuse .staleHandle s
  | some r => accept id (fun _ => recordReport r) s

/-- EFFECT_QUERY reports a record (R48). -/
def execEffectQuery (h : Half) (s : State) : Host.Outcome State Fault Refusal :=
  done (takeCommand (handleEffectQuery h) s)

/-! ### Groups (R44, R45) -/

/-- Whether a member index lies beyond the range of a kind (R44 step 1). -/
def memberOutOfRange (k : Kind) (n : Half) : Bool :=
  match k with
  | .jet => decide (383 < n.toNat)
  | .light => decide (511 < n.toNat)

/-- GROUP_DEFINE (R44). -/
def handleGroupDefine (g kind : Byte) (members : List Half) : Handler := fun s =>
  match kindOf kind with
  | none => refuse .badParam s
  | some k =>
    checked
      [(decide (63 < g.toNat) || decide (64 < members.length) || members.any (memberOutOfRange k), .badParam),
       (decide (¬ members.Nodup), .duplicateMember),
       (decide ((s.group g.toNat).refs ≠ 0), .groupInUse)]
      (accept fun s => s.modifyGroup g.toNat fun x => { x with
        defined := if members = [] then none else some ⟨k, members.map (·.toNat)⟩ }) s

/-- GROUP_DEFINE defines, replaces or undefines a group (R44). -/
def execGroupDefine (g kind : Byte) (members : List Half) (s : State) : Host.Outcome State Fault Refusal :=
  done (takeCommand (handleGroupDefine g kind members) s)

/-- The payload of GROUP_QUERY (R45): an undefined group carries no members, kind NOZZLE and a count of 0. -/
def groupReport (x : Group) : List Byte :=
  match x.defined with
  | some d => putFlag true ++ put1 d.kind.code ++ put4 x.refs ++ putList put2 d.members
  | none => putFlag false ++ put1 0 ++ put4 0 ++ putList put2 []

/-- GROUP_QUERY (R45). -/
def handleGroupQuery (g : Byte) : Handler := fun s =>
  checked [(decide (63 < g.toNat), .badParam)] (accept id fun s => groupReport (s.group g.toNat)) s

/-- GROUP_QUERY reports a group (R45). -/
def execGroupQuery (g : Byte) (s : State) : Host.Outcome State Fault Refusal :=
  done (takeCommand (handleGroupQuery g) s)

/-! ### The transitions of a jet boundary (R29 to R32, R46) -/

/-- Step 1 of R29: a pending edit whose boundary is at or before `t` is applied. -/
def State.stepPendingEdit (t : ShowTime) (i : Nat) (s : State) : State :=
  match (s.effectSlot i).record with
  | some r =>
    match r.editAt t with
    | some e => s.applyEdit i r e
    | none => s
  | none => s

/-- Whether a SCHEDULED record's start has come at `t` (R30). -/
def EffectRecord.startReached (r : EffectRecord) (t : ShowTime) : Bool :=
  r.state = .scheduled && atOrAfter t r.params.start

/-- Step 2 of R29: a SCHEDULED record whose start is at or before `t` becomes ACTIVE (R30). -/
def State.stepStart (t : ShowTime) (i : Nat) (s : State) : State :=
  s.modifyRecord i fun r => if r.startReached t then { r with state := .active } else r

/-- The natural end time of a record (R31). -/
def naturalEnd (f : EffectParams) : ShowTime := after f.start f.duration

/-- Whether an ACTIVE record has reached its natural end at `t` (R31). -/
def EffectRecord.atNaturalEnd (r : EffectRecord) (t : ShowTime) : Bool :=
  r.state = .active && decide (r.params.duration ≠ 0) && atOrAfter t (naturalEnd r.params)

/-- Step 3 of R29: an ACTIVE record at its natural end becomes FADING without an imposed fade, and its pending edit
is settled (R31, R34). -/
def State.stepNaturalEnd (t : ShowTime) (i : Nat) (s : State) : State :=
  match (s.effectSlot i).record with
  | some r =>
    if r.atNaturalEnd t then (s.settleEdit i t).modifyRecord i fun r => { r with state := .fading } else s
  | none => s

/-- The start of a FADING record's fade (R32). -/
def EffectRecord.fadeStart (r : EffectRecord) : ShowTime :=
  match r.imposed with
  | some f => f.start
  | none => naturalEnd r.params

/-- Whether a FADING record's fade has ended at `t` (R32). -/
def EffectRecord.fadeOver (r : EffectRecord) (t : ShowTime) : Bool :=
  r.state = .fading && atOrAfter t (after r.fadeStart r.params.fadeOut)

/-- Step 4 of R29: a FADING record whose fade has ended is freed and EFFECT_ENDED raised (R32). -/
def State.stepFadeComplete (t : ShowTime) (i : Nat) (s : State) : State :=
  match (s.effectSlot i).record with
  | some r => if r.fadeOver t then (s.freeRecord i).raise .effectEnded else s
  | none => s

/-- One record at a jet boundary: the four steps in order (R29). -/
def State.boundaryRecord (t : ShowTime) (i : Nat) (s : State) : State :=
  (((s.stepPendingEdit t i).stepStart t i).stepNaturalEnd t i).stepFadeComplete t i

/-- The reported envelope of each record at `t` (R46). -/
def State.reportEnvelopes (t : ShowTime) (s : State) : State :=
  { s with effects := { s.effects with slots := s.effects.slots.map fun e =>
      { e with record := e.record.map fun r => { r with reported := envelopeAt s.timer.showState r t } } } }

/-- The scheduler at a jet boundary of a RUNNING, HELD or ENDING show (R29, R46); in STOPPED it does nothing. -/
def State.schedule (s : State) : State :=
  if s.timer.showState = .stopped then s
  else (forEach (List.range 256) (State.boundaryRecord s.timer.clock) s).reportEnvelopes s.timer.clock

/-- The scheduler's transitions of the boundary just reached, if they have not been taken yet. -/
def State.takeEffects (s : State) : State :=
  if s.due.effects then s.schedule.modifyDue fun d => { d with effects := false } else s

/-- EFFECT_BOUNDARY: each record's transitions and reported envelope (R29, R46). -/
def execEffectBoundary (s : State) : Host.Outcome State Fault Refusal := done s.takeEffects

/-! ### The rows inside the boundary

R42 takes a boundary as one, and R29 gives a record's transitions as its steps. PENDING_EDIT_APPLIED,
EFFECT_START_REACHED, NATURAL_END and FADE_COMPLETE are rows of their own, and each stands for the boundary at which its
transition happens: it takes the outstanding boundary, whole, when that boundary makes the transition it names, and
otherwise changes nothing and leaves the boundary to its own row (DESIGN CHOICE, log entry 4). An edit that comes after
such a row therefore comes after the boundary, as R42 orders the two. -/

/-- Whether the record of a slot, if there is one, meets a condition. -/
def State.recordMeets (i : Nat) (p : EffectRecord → Bool) (s : State) : Bool := (s.effectSlot i).record.any p

/-- The outstanding boundary of a RUNNING, HELD or ENDING show, taken whole when it makes a transition, which is told
from its show time and the state before it (R42, log entry 4). -/
def State.takeEffectsIf (makes : ShowTime → State → Bool) (s : State) : State :=
  if s.due.effects && decide (s.timer.showState ≠ .stopped) && makes s.timer.clock s then s.takeEffects else s

/-- PENDING_EDIT_APPLIED: the boundary whose step 1 applies the pending edit of record `i` (R29). -/
def execPendingEditApplied (i : Fin 256) (s : State) : Host.Outcome State Fault Refusal :=
  done (s.takeEffectsIf fun t => State.recordMeets i fun r => (r.editAt t).isSome)

/-- EFFECT_START_REACHED: the boundary whose step 2 makes record `i` ACTIVE (R29, R30). -/
def execEffectStartReached (i : Fin 256) (s : State) : Host.Outcome State Fault Refusal :=
  done (s.takeEffectsIf fun t s => (s.stepPendingEdit t i).recordMeets i (·.startReached t))

/-- NATURAL_END: the boundary whose step 3 makes record `i` FADING (R29, R31). -/
def execNaturalEnd (i : Fin 256) (s : State) : Host.Outcome State Fault Refusal :=
  done (s.takeEffectsIf fun t s => ((s.stepPendingEdit t i).stepStart t i).recordMeets i (·.atNaturalEnd t))

/-- FADE_COMPLETE: the boundary whose step 4 frees record `i` (R29, R32). -/
def execFadeComplete (i : Fin 256) (s : State) : Host.Outcome State Fault Refusal :=
  done (s.takeEffectsIf fun t s =>
    (((s.stepPendingEdit t i).stepStart t i).stepNaturalEnd t i).recordMeets i (·.fadeOver t))

end Sys2Proof.Machine
end

