-- ==== Sys2Proof/Machine/Link.lean ====
section
/-! DEFINITION. The Show Link (chapter 10): its states, command packets and malformed transfers, replies, notices
and the link settings. -/

namespace Sys2Proof.Machine

/-! ### Link states (R190) -/

/-- LINK_ATTACH: enumeration completes and the link becomes ATTACHED (R190). -/
def execLinkAttach (s : State) : Host.Outcome State Fault Refusal :=
  done { s with link := { s.link with attached := true } }

/-- The bits of the deliveries in progress: of the reply being sent and of a notice not yet accepted (R194). -/
def ShowLink.bitsInFlight (l : ShowLink) : Half :=
  (l.replies.foldl (fun bits r => bits ||| r.snapshot.getD 0) 0) ||| l.notice.getD 0

/-- A link reset (R190): the reply queue emptied, the command and clip transfers in progress discarded, the bits of
cut-off deliveries raised again (R194), the link DETACHED. -/
def State.resetLink (s : State) : State :=
  let bits := s.link.bitsInFlight
  ({ s with link := { s.link with
      attached := false, replies := [], transfer := none, clipTransfer := none, notice := none } }).raiseBits bits

/-- LINK_RESET: a USB bus reset or a detachment of the port (R190). -/
def execLinkReset (s : State) : Host.Outcome State Fault Refusal := done s.resetLink

/-! ### Malformed transfers (R192); packets stand in Machine/Packets.lean -/

/-- The result code the framing checks give a transfer that fails them (R192). -/
def framingFailure (transfer : List Byte) : Option ResultCode :=
  match frameTransfer transfer with
  | .command _ => none
  | .unknownCommand => some .unknownCommand
  | .badLength => some .badLength

/-- MALFORMED_COMMAND: a taken transfer that fails the framing checks is answered with a header alone and reaches
no other block (R192). A transfer that passes them is not this row's event (log entry 26). -/
def execMalformedCommand (transfer : List Byte) (s : State) : Host.Outcome State Fault Refusal :=
  done (match framingFailure transfer with
    | some code => takeCommand (refuse code) s
    | none => s)

/-! ### Replies (R193, R194, R204) -/

/-- The bytes of a reply with its snapshot (Table 12-6). -/
def Reply.bytes (r : Reply) (snapshot : Half) : List Byte :=
  put1 r.result.code ++ put1 r.showState.code ++ put2 snapshot.toNat ++ r.payload

/-- Packet `n` of a message: 64 bytes, or fewer (perhaps none) for the last (R189). -/
def packetOf (bytes : List Byte) (n : Nat) : List Byte := (bytes.drop (packetSize * n)).take packetSize

/-- The state after the show computer has or has not accepted a packet of the head reply (R193). -/
def State.replySent (r : Reply) (rest : List Reply) (snapshot : Half) (packet : List Byte) (accepted : Bool)
    (s : State) : State :=
  let r := { r with snapshot := some snapshot }
  let replies :=
    if accepted then
      if isShort packet then rest else { r with accepted := r.accepted + 1 } :: rest
    else r :: rest
  { s with link := { s.link with replies := replies, lastPacket := some packet } }

/-- A poll of the reply pipe (R193): the next packet of the head reply, whose snapshot is taken when it starts going
out, or a refusal. -/
def State.pollReply (accepted : Bool) (s : State) : State :=
  match s.link.attached, s.link.replies with
  | true, r :: rest =>
    match r.snapshot with
    | some snapshot => s.replySent r rest snapshot (packetOf (r.bytes snapshot) r.accepted) accepted
    | none =>
      let snapshot := s.link.summary
      (s.clearSummary snapshot).replySent r rest snapshot (packetOf (r.bytes snapshot) r.accepted) accepted
  | _, _ => { s with link := { s.link with lastPacket := none } }

/-- REPLY_POLL (R193); `accepted` says whether the show computer accepts the packet (log entry 8). -/
def execReplyPoll (accepted : Bool) (s : State) : Host.Outcome State Fault Refusal := done (s.pollReply accepted)

/-! ### Notices (R195) -/

/-- The state after a notice was or was not accepted. -/
def State.noticeSent (snapshot : Half) (accepted : Bool) (s : State) : State :=
  { s with link := { s.link with
      notice := if accepted then none else some snapshot, lastNotice := some snapshot } }

/-- A poll of the notice pipe (R195): the notice whose delivery is in progress, else a snapshot when the masked
summary has a bit set, else a refusal. -/
def State.pollNotice (accepted : Bool) (s : State) : State :=
  let refused := { s with link := { s.link with lastNotice := none } }
  if s.link.attached then
    match s.link.notice with
    | some snapshot => s.noticeSent snapshot accepted
    | none =>
      let snapshot := s.link.summary
      if snapshot &&& s.link.mask = 0 then refused else (s.clearSummary snapshot).noticeSent snapshot accepted
  else refused

/-- NOTICE_POLL (R195); `accepted` says whether the show computer accepts the notice (log entry 8). -/
def execNoticePoll (accepted : Bool) (s : State) : Host.Outcome State Fault Refusal := done (s.pollNotice accepted)

/-! ### Link settings and the link query (R197, R198) -/

/-- LINK_SET (R197). -/
def handleLinkSet (mask : Half) (timeout : Byte) (fade : Half) : Handler := fun s =>
  checked (configChecks s ++ [(decide (60 < timeout.toNat) || decide (60000 < fade.toNat), .badParam)])
    (accept fun s => { s with
      link := { s.link with mask := mask, timeout := timeout.toNat }
      timer := { s.timer with storedFade := fade.toNat } }) s

/-- LINK_SET replaces the notice mask, the silence timeout and the stored end fade (R197). -/
def execLinkSet (mask : Half) (timeout : Byte) (fade : Half) (s : State) : Host.Outcome State Fault Refusal :=
  done (takeCommand (handleLinkSet mask timeout fade) s)

/-- The payload of LINK_QUERY (R198). -/
def linkReport (s : State) : List Byte :=
  put2 s.link.mask.toNat ++ put1 s.link.timeout ++ put2 s.timer.storedFade ++ put4 s.link.silence
    ++ put2 s.link.summary.toNat
    ++ put2 s.link.rejection.handle.toNat ++ put4 s.link.rejection.page.toNat ++ put1 s.link.rejection.reason.code

/-- LINK_QUERY (R198). -/
def handleLinkQuery : Handler := accept id linkReport

/-- LINK_QUERY reports the link's settings (R198). -/
def execLinkQuery (s : State) : Host.Outcome State Fault Refusal := done (takeCommand handleLinkQuery s)

end Sys2Proof.Machine
end

