-- ==== Sys2Proof/Machine/Clips.lean ====
section
/-! DEFINITION. The Clip Store (sections 9.1 to 9.3): creating, loading, retiring and reading clips. Freeing a clip
and the decks' references stand in Machine/ShowTime.lean (R174). -/

namespace Sys2Proof.Machine

/-- Bytes of one page (Table 0-6). -/
def pageSize : Nat := 65536

/-- Bytes of one frame (R171). -/
def frameBytes (channels : Nat) : Nat := channels * 2

/-- Pages a clip needs (R170). -/
def pagesNeeded (length channels : Nat) : Nat := ceilDiv (length * frameBytes channels) pageSize

/-- The free pages, in ascending order (R168). -/
def State.freePages (s : State) : List Nat :=
  (List.range 2048).filter fun p => s.clips.owner.getD p none = none

/-- The lowest-numbered FREE clip slot (R170). -/
def State.freeClipSlot (s : State) : Option Nat :=
  (List.range 64).find? fun i => (s.clipSlot i).clip.isNone

/-- Slots of the clip table in use (R175). -/
def State.clipsInUse (s : State) : Nat := (s.clips.slots.filter fun e => e.clip.isSome).length

/-! ### CLIP_CREATE (R170) -/

/-- The lowest-numbered free pages that a clip takes. -/
def State.pagesTaken (s : State) (length channels : Nat) : List Nat :=
  s.freePages.take (pagesNeeded length channels)

/-- The record of a new clip. -/
def newClip (channels length : Nat) (pages : List Nat) : Clip where
  state := .loading
  channels := channels
  length := length
  pages := pages
  loaded := List.replicate pages.length false
  loadedPrefix := 0
  refs := 0

/-- A clip placed in a slot: the generation advances and the pages become the clip's. -/
def State.placeClip (i : Nat) (c : Clip) (s : State) : State :=
  let s := s.modifyClipSlot i fun e => ⟨nextGeneration e.gen, some c⟩
  { s with clips := { s.clips with owner := c.pages.foldl (fun o p => o.set p (some i)) s.clips.owner } }

/-- CLIP_CREATE (R170). -/
def handleClipCreate (channels : Byte) (length : Quad) : Handler := fun s =>
  let ch := channels.toNat
  let len := length.toNat
  let slot := s.freeClipSlot.getD 0
  let pages := s.pagesTaken len ch
  checked
    [((ch ≠ 1 && ch ≠ 2) || len = 0 || decide (67108864 < len), .badParam),
     (s.freeClipSlot.isNone, .tableFull),
     (decide (s.freePages.length < pagesNeeded len ch), .noSpace)]
    (accept (State.placeClip slot (newClip ch len pages))
      fun s => put2 (handleOf slot (s.clipSlot slot).gen).toNat ++ put4 pages.length) s

/-- CLIP_CREATE allocates a clip (R170). -/
def execClipCreate (channels : Byte) (length : Quad) (s : State) : Host.Outcome State Fault Refusal :=
  done (takeCommand (handleClipCreate channels length) s)

/-! ### CLIP_RETIRE (R174) -/

/-- CLIP_RETIRE (R174). The outcome codes are those of the clip states FREE and RETIRING (log entry 23). -/
def handleClipRetire (h : Half) : Handler := fun s =>
  match s.lookupClip h with
  | none => refuse .staleHandle s
  | some c =>
    if c.state ≠ .retiring ∧ c.refs = 0 then accept (State.freeClip (handleSlot h)) (fun _ => put1 0) s
    else
      accept (State.modifyClipSlot (handleSlot h) fun e =>
          { e with clip := e.clip.map fun c => { c with state := .retiring } })
        (fun _ => put1 ClipState.retiring.code) s

/-- CLIP_RETIRE frees a clip, or leaves that to the last deck that holds it (R174). -/
def execClipRetire (h : Half) (s : State) : Host.Outcome State Fault Refusal :=
  done (takeCommand (handleClipRetire h) s)

/-! ### CLIP_QUERY (R175) -/

/-- The memory figures (R175). -/
def memoryReport (s : State) : List Byte := put4 s.freePages.length ++ put4 s.clipsInUse

/-- The index of the lowest page not yet loaded (R175). -/
def Clip.lowestUnloaded (c : Clip) : Option Nat := c.loaded.findIdx? fun b => !b

/-- Leading pages whose loaded flags are all set (R173). -/
def Clip.leadingLoaded (c : Clip) : Nat := (c.loaded.takeWhile id).length

/-- What CLIP_QUERY says of one clip (R175). -/
def clipReport (c : Clip) : List Byte :=
  put1 c.state.code ++ put1 c.channels ++ put4 c.length
    ++ put4 c.pages.length ++ put4 (c.loaded.filter id).length
    ++ put4 c.loadedPrefix ++ putOptional4 c.lowestUnloaded ++ put4 c.refs

/-- CLIP_QUERY (R175). -/
def handleClipQuery (h : Half) : Handler := fun s =>
  if h = 0 then accept id memoryReport s
  else
    match s.lookupClip h with
    | none => refuse .staleHandle s
    | some c => accept id (fun s => memoryReport s ++ clipReport c) s

/-- CLIP_QUERY reports sample memory and a clip (R175). -/
def execClipQuery (h : Half) (s : State) : Host.Outcome State Fault Refusal :=
  done (takeCommand (handleClipQuery h) s)

/-! ### Clip blocks (R172, R173, R196) -/

/-- The header of a clip block (Table 12-7) and the data that follows it. -/
structure BlockHeader where
  handle : Half
  page : Quad
  data : List Byte
deriving DecidableEq, Repr

/-- The header of a transfer, when the transfer is long enough to hold one (Table 12-7). -/
def blockHeader (transfer : List Byte) : Option BlockHeader :=
  match transfer with
  | h0 :: h1 :: p0 :: p1 :: p2 :: p3 :: _ :: _ :: data => some ⟨halfOf h0 h1, quadOf p0 p1 p2 p3, data⟩
  | _ => none

/-- The expected size of a clip page (R171). -/
def Clip.expectedSize (c : Clip) (page : Nat) : Nat :=
  if page + 1 < c.pages.length then pageSize
  else c.length * frameBytes c.channels - (c.pages.length - 1) * pageSize

/-- A rejected block: the last-rejection record is replaced and CLIP_REJECT raised (R172, R196). -/
def State.rejectBlock (h : Half) (page : Quad) (reason : ResultCode) (s : State) : State :=
  ({ s with link := { s.link with rejection := ⟨h, page, reason⟩ } }).raise .clipReject

/-- A clip after the block of one page has been accepted (R173). -/
def Clip.load (page : Nat) (c : Clip) : Clip :=
  let c := { c with loaded := c.loaded.set page true }
  let c := { c with loadedPrefix := min c.length (c.leadingLoaded * pageSize / frameBytes c.channels) }
  if c.state = .loading ∧ c.loaded.all id = true then { c with state := .ready, loadedPrefix := c.length } else c

/-- The address in sample memory of clip page `page`'s first byte (R171). -/
def Clip.pageAddress (c : Clip) (page : Nat) : Nat := c.pages.getD page 0 * pageSize

/-- An accepted block (R173): data and flag together, the loaded prefix, and CLIP_READY for a LOADING clip whose
last page this was. -/
def State.acceptBlock (i : Nat) (c : Clip) (page : Nat) (data : List Byte) (s : State) : State :=
  let s := { s with clips := { s.clips with
    memory := SampleMemory.write s.clips.memory (c.pageAddress page) data } }
  let s := s.modifyClipSlot i fun e => { e with clip := some (c.load page) }
  s.raiseIf (c.state = .loading ∧ (c.load page).state = .ready) .clipReady

/-- The longest clip block: its header and one page (R172, R196). -/
def blockLimit : Nat := 8 + pageSize

/-- The judgement of a clip block (R172), in the order of its checks. -/
def State.judgeBlock (transfer : List Byte) (s : State) : State :=
  match blockHeader transfer with
  | none => s.rejectBlock 0 0 .badLength
  | some b =>
    if blockLimit < transfer.length then s.rejectBlock b.handle b.page .badLength
    else
      match s.lookupClip b.handle with
      | none => s.rejectBlock b.handle b.page .staleHandle
      | some c =>
        if c.state = .retiring then s.rejectBlock b.handle b.page .wrongState
        else if c.pages.length ≤ b.page.toNat then s.rejectBlock b.handle b.page .badParam
        else if b.data.length ≠ c.expectedSize b.page.toNat then s.rejectBlock b.handle b.page .badLength
        else s.acceptBlock (handleSlot b.handle) c b.page.toNat b.data

/-- A packet of the clip pipe (R189, R196): it joins the transfer in progress, and the short packet ends the transfer,
which the Clip Store then judges (R172). On a DETACHED link none arrives (R190), and a packet holds at most 64 bytes. -/
def State.clipPacket (packet : List Byte) (s : State) : State :=
  if s.link.attached && decide (packet.length ≤ packetSize) then
    let transfer := withPacket blockLimit s.link.clipTransfer packet
    if isShort packet then State.judgeBlock transfer { s with link := { s.link with clipTransfer := none } }
    else { s with link := { s.link with clipTransfer := some transfer } }
  else s

/-- CLIP_BLOCK: packets of the clip pipe arrive, the last of them as a rule the short packet at which the Clip Store
judges the block (R172, R189, R196; log entry 20). -/
def execClipBlock (packets : List (List Byte)) (s : State) : Host.Outcome State Fault Refusal :=
  done (forEach packets State.clipPacket s)

end Sys2Proof.Machine
end

