-- ==== Sys2Proof/Machine/Envelope.lean ====
section
/-! DEFINITION. The audio envelope at a jet boundary (R186). -/

namespace Sys2Proof.Machine

/-- The audio envelope after an update with a peak (R186). -/
def envelopeAfter (env decay peak : Nat) : Nat := max (min peak 8388607) (env - decay)

/-- The envelope update of a jet boundary (R186); the peak of the next boundary starts afresh. -/
def State.updateEnvelope (s : State) : State :=
  { s with decks := { s.decks with
      envelope := envelopeAfter s.decks.envelope s.decks.decay s.decks.peak, peak := 0 } }

/-- The envelope update of the jet boundary just reached, if it has not been taken yet. Every event at the
boundary sees the new figure (R186), so whatever reads it takes the update first. -/
def State.takeEnvelope (s : State) : State :=
  if s.due.envelope then s.updateEnvelope.modifyDue fun d => { d with envelope := false } else s

/-- ENVELOPE_UPDATE (R186). -/
def execEnvelopeUpdate (s : State) : Host.Outcome State Fault Refusal := .next s.takeEnvelope

end Sys2Proof.Machine
end

