-- ==== Sys2Proof/Machine/Site.lean ====
section
/-! DEFINITION. The Site Monitor (chapter 6): zones and their current caps, wind, presence and stop groups, the
emergency stop and the basin level. -/

namespace Sys2Proof.Machine

/-! ### Caps and governance (R128, R136) -/

/-- The current cap of a zone, by the first case of R136 that applies. -/
def currentCap (siteStop : Bool) (held : Nat) (z : Zone) : Nat :=
  if siteStop then 0
  else if z.latch then 0
  else match z.wind with
    | .windHold => 0
    | .derated => z.cfg.cap * (z.cfg.hard - held) / (z.cfg.hard - z.cfg.soft)
    | .clear => z.cfg.cap

/-- The current cap of zone `z` as it stands. -/
def State.cap (s : State) (z : Nat) : Nat := currentCap s.site.stopLatch s.site.heldWind (s.zone z)

/-- Whether an enabled ranged zone covers a nozzle (R128). -/
def ZoneConfig.covers (c : ZoneConfig) (n : Nat) : Bool := c.enabled && decide (c.first ≤ n ∧ n ≤ c.last)

/-- The zones that govern a nozzle (R80, R128). -/
def State.governing (s : State) (n : Nat) : List Nat :=
  let ranged := (List.range 16).filter fun z => (s.zone z).cfg.covers n
  if ranged = [] then [16] else ranged

/-! ### Presence and stop groups (R137, R138) -/

/-- Whether ranged zone `z` is enabled. -/
def State.rangedEnabled (s : State) (z : Nat) : Bool := decide (z < 16) && (s.zone z).cfg.enabled

/-- The enabled ranged zones that name a presence input (R138, first set). -/
def State.zonesOfInput (s : State) (k : Nat) : List Nat :=
  (List.range 16).filter fun z => (s.zone z).cfg.enabled && decide ((s.zone z).cfg.presence = some k)

/-- Whether a zone shares a stop group with some zone of a list. -/
def State.sharesGroup (s : State) (zs : List Nat) (z : Nat) : Bool :=
  match (s.zone z).cfg.stopGroup with
  | some g => zs.any fun y => decide ((s.zone y).cfg.stopGroup = some g)
  | none => false

/-- The zones a presence input stops: those naming it, and the enabled zones of their stop groups (R138). -/
def State.stoppedBy (s : State) (k : Nat) : List Nat :=
  let first := s.zonesOfInput k
  (List.range 16).filter fun z =>
    (s.zone z).cfg.enabled && (first.contains z || s.sharesGroup first z)

/-- Presence input `k` is active: its zones are stopped, and ZONE_STOP is raised when a latch was clear (R138). -/
def State.stopZones (k : Nat) (s : State) : State :=
  let zs := s.stoppedBy k
  let fresh := zs.any fun z => !(s.zone z).latch
  (forEach zs (fun z s => s.modifyZone z fun x => { x with latch := true }) s).raiseIf fresh .zoneStop

/-- The debounced state of a presence input. -/
def State.presence (s : State) (k : Nat) : PresenceInput := s.site.presence.getD k ⟨false, 0⟩

/-- Change a presence input's debounce. -/
def State.modifyPresence (k : Nat) (f : PresenceInput → PresenceInput) (s : State) : State :=
  { s with site := { s.site with presence := s.site.presence.modify k f } }

/-- A presence level held for 4,800 sample periods becomes the debounced state; becoming active stops zones (R137,
R138). -/
def State.takePresence (k : Nat) (s : State) : State :=
  if (s.presence k).count < 4800 then s
  else
    let level := s.pins.presence.getLsbD k
    let s := s.modifyPresence k fun _ => ⟨level, 0⟩
    if level then s.stopZones k else s

/-- PRESENCE_DEBOUNCED (R137, R138). -/
def execPresenceDebounced (k : Fin 8) (s : State) : Host.Outcome State Fault Refusal := done (s.takePresence k)

/-! ### Zone commands (R129, R130, R139) -/

/-- The configuration a ZONE_SET gives a zone; zone 16 has no enabled, range, stop group or presence (R129). -/
def zoneConfigOf (p : ZoneSetParams) : ZoneConfig :=
  if p.zone = 16 then
    { ZoneConfig.defaultZone with
      cap := p.cap.toNat, soft := p.soft.toNat, hard := p.hard.toNat, hold := p.hold.toNat }
  else
    ⟨(yesNoOf p.enabled).getD false, p.first.toNat, p.last.toNat, p.cap.toNat, p.soft.toNat, p.hard.toNat,
      p.hold.toNat, (inputOf p.stopGroup).getD none, (inputOf p.presence).getD none⟩

/-- A zone after an accepted ZONE_SET (R129): CLEAR with count 0; a ranged zone made disabled loses its latch. -/
def Zone.configure (c : ZoneConfig) (z : Zone) : Zone := ⟨c, .clear, 0, z.latch && c.enabled⟩

/-- The effect of an accepted ZONE_SET (R129). -/
def State.setZone (p : ZoneSetParams) (s : State) : State :=
  let z := p.zone.toNat
  let c := zoneConfigOf p
  let moved := decide ((s.zone z).wind ≠ .clear)
  let s := (s.modifyZone z (Zone.configure c)).raiseIf moved .windState
  match c.presence with
  | some k => if c.enabled ∧ (s.presence k).debounced = true then s.stopZones k else s
  | none => s

/-- ZONE_SET (R129). With a wind hard of 0 the wind soft is not checked at all. -/
def handleZoneSet (p : ZoneSetParams) : Handler := fun s =>
  let ranged := decide (p.zone.toNat < 16)
  checked
    (configChecks s ++
     [(decide (16 < p.zone.toNat)
        || (ranged && ((yesNoOf p.enabled).isNone || (inputOf p.stopGroup).isNone || (inputOf p.presence).isNone)),
        .badParam),
      (decide (10000 < p.cap.toNat) || decide (999 < p.hard.toNat) || decide (3600 < p.hold.toNat)
        || decide (0 < p.hard.toNat ∧ (998 < p.soft.toNat ∨ p.hard.toNat ≤ p.soft.toNat)), .badParam),
      (ranged && decide (p.enabled = 1) && (decide (383 < p.last.toNat) || decide (p.last.toNat < p.first.toNat)),
        .badParam)])
    (accept (State.setZone p)) s

/-- ZONE_SET configures a zone (R129). -/
def execZoneSet (p : ZoneSetParams) (s : State) : Host.Outcome State Fault Refusal :=
  done (takeCommand (handleZoneSet p) s)

/-- ZONE_CAP (R130). -/
def handleZoneCap (z : Byte) (cap : Half) : Handler := fun s =>
  checked [(decide (16 < z.toNat) || decide (10000 < cap.toNat), .badParam)]
    (accept fun s => s.modifyZone z.toNat fun x => { x with cfg := { x.cfg with cap := cap.toNat } }) s

/-- ZONE_CAP replaces a zone's configured cap at once (R130). -/
def execZoneCap (z : Byte) (cap : Half) (s : State) : Host.Outcome State Fault Refusal :=
  done (takeCommand (handleZoneCap z cap) s)

/-- The release set of a zone: itself and the enabled ranged zones of its stop group (R139). -/
def State.releaseSet (s : State) (z : Nat) : List Nat :=
  (List.range 16).filter fun y => decide (y = z) || ((s.zone y).cfg.enabled && s.sharesGroup [z] y)

/-- Whether the presence input of a zone is active as debounced. -/
def State.inputActive (s : State) (z : Nat) : Bool :=
  match (s.zone z).cfg.presence with
  | some k => (s.presence k).debounced
  | none => false

/-- The latches of a list of zones cleared. -/
def State.clearLatches (zs : List Nat) (s : State) : State :=
  forEach zs (fun z s => s.modifyZone z fun x => { x with latch := false }) s

/-- ZONE_RELEASE (R139). -/
def handleZoneRelease (z : Byte) : Handler := fun s =>
  let zs := s.releaseSet z.toNat
  checked
    [(decide (15 < z.toNat), .badParam),
     (!(s.zone z.toNat).cfg.enabled, .wrongState),
     (zs.any s.inputActive, .notReleasable)]
    (fun s => (s.clearLatches zs, ⟨.ok, put4 (zs.filter fun y => (s.zone y).latch).length⟩)) s

/-- ZONE_RELEASE clears the stop latches of a zone and its stop group (R139). -/
def execZoneRelease (z : Byte) (s : State) : Host.Outcome State Fault Refusal :=
  done (takeCommand (handleZoneRelease z) s)

/-! ### The emergency stop (R13, R140, R141) -/

/-- An assertion of the emergency-stop input is taken (R13, R140): the latch is set, SITE_STOP is raised and the
Show Timer enters STOPPED. -/
def State.assertStop (s : State) : State :=
  let s := { s with due := { s.due with stop := false }, pins := { s.pins with stop := true },
                    site := { s.site with stopLatch := true } }
  (s.raise .siteStop).enterStopped

/-- The assertion sampled in the last period, if it has not been taken yet. -/
def State.takeStop (s : State) : State := if s.due.stop then s.assertStop else s

/-- EMERGENCY_STOP_ASSERTION (R140): the assertion already sampled, or a sample that finds the input active when the
previous one found it inactive; with neither there is no assertion (log entry 7). -/
def execEmergencyStopAssertion (s : State) : Host.Outcome State Fault Refusal :=
  done (if s.due.stop ∨ s.pins.stop = false then s.assertStop else s)

/-- SITE_RELEASE (R141). -/
def handleSiteRelease : Handler := fun s =>
  checked [(s.pins.stop, .notReleasable)] (accept fun s => { s with site := { s.site with stopLatch := false } }) s

/-- SITE_RELEASE clears the site stop latch (R141). -/
def execSiteRelease (s : State) : Host.Outcome State Fault Refusal := done (takeCommand handleSiteRelease s)

/-! ### The basin level (R142) -/

/-- OK becomes LOW once the input has been active for 96,000 sample periods (R142). -/
def State.takeLevelLow (s : State) : State :=
  if s.site.level = .ok ∧ 96000 ≤ s.site.levelCount then
    ({ s with site := { s.site with level := .low, levelCount := 0 } }).raise .levelLow
  else s

/-- LEVEL_LOW (R142). -/
def execLevelLow (s : State) : Host.Outcome State Fault Refusal := done s.takeLevelLow

/-- LOW becomes OK once the input has been inactive for 1,440,000 sample periods (R142). -/
def State.takeLevelRestored (s : State) : State :=
  if s.site.level = .low ∧ 1440000 ≤ s.site.levelCount then
    { s with site := { s.site with level := .ok, levelCount := 0 } }
  else s

/-- LEVEL_RESTORED (R142). -/
def execLevelRestored (s : State) : Host.Outcome State Fault Refusal := done s.takeLevelRestored

/-! ### Wind (R131 to R135) -/

/-- The raw wind of a gate (R131). -/
def rawWindOf (pulses factor : Nat) : Nat := min 999 (pulses * factor / 100)

/-- The held wind after a gate (R132). -/
def heldWindOf (raw held decay : Nat) : Nat := max raw (held - decay)

/-- Whether a zone in WIND_HOLD reaches the end of its hold at a gate of held wind `w` (R134, Table 6-3). -/
def Zone.holdOver (w : Nat) (z : Zone) : Bool :=
  z.wind = .windHold && decide (w ≤ z.cfg.soft ∧ z.cfg.hold ≤ z.holdCount + 1)

/-- A zone placed at a gate of held wind `w` (Table 6-3). -/
def Zone.place (w : Nat) (z : Zone) : Zone :=
  match z.wind with
  | .windHold =>
    if z.cfg.soft < w then { z with holdCount := 0 }
    else if z.holdCount + 1 < z.cfg.hold then { z with holdCount := z.holdCount + 1 }
    else { z with wind := .clear, holdCount := 0 }
  | _ =>
    if z.cfg.hard ≤ w then { z with wind := .windHold, holdCount := 0 }
    else if z.cfg.soft < w then { z with wind := .derated, holdCount := 0 }
    else { z with wind := .clear, holdCount := 0 }

/-- Whether a gate places a zone: the default zone or an enabled ranged zone, with a wind hard above 0 (R134). -/
def Zone.heedsWind (z : Zone) : Bool := z.cfg.enabled && decide (0 < z.cfg.hard)

/-- A zone at a gate of held wind `w` (R134). -/
def Zone.atGate (w : Nat) (z : Zone) : Zone := if z.heedsWind then z.place w else z

/-- A wind gate (R131, R132, R134, R135): the count is taken and restarted, the figures formed and the zones placed;
WIND_STATE is raised once when a zone's wind state changed. -/
def State.windGate (s : State) : State :=
  let raw := rawWindOf s.site.pulses s.site.factor
  let held := heldWindOf raw s.site.heldWind s.site.decay
  let zones := s.site.zones.map (Zone.atGate held)
  let moved := decide (zones.map (·.wind) ≠ s.site.zones.map (·.wind))
  ({ s with site := { s.site with pulses := 0, rawWind := raw, heldWind := held, zones := zones } }).raiseIf
    moved .windState

/-- The wind gate just reached, if it has not been taken yet. -/
def State.takeWind (s : State) : State :=
  if s.due.wind then s.windGate.modifyDue fun d => { d with wind := false } else s

/-- WIND_GATE (R131, R132, R134). -/
def execWindGate (s : State) : Host.Outcome State Fault Refusal := done s.takeWind

/-- The held wind the gate just reached forms (R131, R132). -/
def State.gateWind (s : State) : Nat :=
  heldWindOf (rawWindOf s.site.pulses s.site.factor) s.site.heldWind s.site.decay

/-- WIND_HOLD_RELEASE: the gate at which a zone in WIND_HOLD, whose calm count reaches its hold, returns to CLEAR
(R134). The row takes the outstanding gate, whole, when that gate makes the release, so that WIND_STATE is raised once for
the gate (R135); otherwise it changes nothing (DESIGN CHOICE, log entry 4). -/
def execWindHoldRelease (n : Fin 17) (s : State) : Host.Outcome State Fault Refusal :=
  let z := s.zone n
  done (if s.due.wind && (z.heedsWind && z.holdOver s.gateWind) then s.takeWind else s)

/-- WIND_SET (R133). -/
def handleWindSet (factor : Half) (decay : Byte) : Handler := fun s =>
  checked (configChecks s ++ [(decide (10000 < factor.toNat) || decide (100 < decay.toNat), .badParam)])
    (accept fun s => { s with site := { s.site with factor := factor.toNat, decay := decay.toNat } }) s

/-- WIND_SET sets the anemometer factor and the wind decay (R133). -/
def execWindSet (factor : Half) (decay : Byte) (s : State) : Host.Outcome State Fault Refusal :=
  done (takeCommand (handleWindSet factor decay) s)

/-! ### SITE_QUERY (R144) -/

/-- A zone in SITE_QUERY's list: enabled, wind state, current cap, and for a ranged zone its latch. -/
def zoneReport (s : State) (z : Nat) : List Byte :=
  putFlag (s.zone z).cfg.enabled ++ put1 (s.zone z).wind.code ++ put2 (s.cap z)
    ++ (if z < 16 then putFlag (s.zone z).latch else [])

/-- The named zone's configuration and hold count. The fields zone 16 does not have carry free values. -/
def zoneConfigReport (s : State) (z : Nat) : List Byte :=
  let c := (s.zone z).cfg
  putFlag c.enabled
    ++ put2 (if z < 16 then c.first else (Config.defaultZoneNozzle 0).toNat)
    ++ put2 (if z < 16 then c.last else (Config.defaultZoneNozzle 1).toNat)
    ++ put2 c.cap ++ put2 c.soft ++ put2 c.hard ++ put2 c.hold
    ++ (if z < 16 then putSmall? c.stopGroup else [Config.defaultZoneInput 0])
    ++ (if z < 16 then putSmall? c.presence else [Config.defaultZoneInput 1])
    ++ put4 (s.zone z).holdCount

/-- The payload of SITE_QUERY (R144). -/
def siteReport (s : State) (z : Nat) : List Byte :=
  put2 s.site.factor ++ put1 s.site.decay ++ put2 s.site.rawWind ++ put2 s.site.heldWind ++ put4 s.site.pulses
    ++ putFlag s.site.stopLatch ++ putFlag s.pins.stop
    ++ put1 s.site.level.code ++ putFlag s.pins.basinLow ++ put4 (s.site.levelCount / 48)
    ++ (List.range 8).flatMap (fun k => putFlag (s.pins.presence.getLsbD k) ++ putFlag (s.presence k).debounced)
    ++ (List.range 17).flatMap (zoneReport s)
    ++ zoneConfigReport s z

/-- SITE_QUERY (R144). -/
def handleSiteQuery (z : Byte) : Handler := fun s =>
  checked [(decide (16 < z.toNat), .badParam)] (accept id fun s => siteReport s z.toNat) s

/-- SITE_QUERY reports the site (R144). -/
def execSiteQuery (z : Byte) (s : State) : Host.Outcome State Fault Refusal :=
  done (takeCommand (handleSiteQuery z) s)

end Sys2Proof.Machine
end

