-- ==== Sys2Proof/Machine/Decks.lean ====
section
/-! DEFINITION. The Deck Mixer (sections 9.4 and 9.5): deck commands, what a deck does in a sample period, and the
mixer. -/

namespace Sys2Proof.Machine

/-! ### Reading a frame (R171, R185) -/

/-- A signed 16-bit sample from its two bytes, little-endian (R171). -/
def sampleOf (lo hi : Byte) : Int := (halfOf lo hi).toInt

/-- The sample at an address of sample memory. -/
def sampleAt (m : List Host.Cell) (a : Nat) : Int := sampleOf (SampleMemory.read m a) (SampleMemory.read m (a + 1))

/-- Frames in one page (R171). -/
def framesPerPage (channels : Nat) : Nat := pageSize / frameBytes channels

/-- The address of a clip's frame (R171). -/
def Clip.frameAddress (c : Clip) (frame : Nat) : Nat :=
  c.pageAddress (frame / framesPerPage c.channels) + frameBytes c.channels * (frame % framesPerPage c.channels)

/-- A clip's frame; a mono clip's sample feeds both channels (R171, R185). -/
def Clip.frame (m : List Host.Cell) (c : Clip) (frame : Nat) : Stereo :=
  let a := c.frameAddress frame
  if c.channels = 1 then ⟨sampleAt m a, sampleAt m a⟩ else ⟨sampleAt m a, sampleAt m (a + 2)⟩

/-- A deck's contribution from a frame under its gain, floored (R185 step 1). -/
def deckContribution (frame : Stereo) (gain : Nat) : Stereo :=
  ⟨frame.left * (gain : Int) / 128, frame.right * (gain : Int) / 128⟩

/-! ### What a deck does in a sample period (R179) -/

/-- The clip a deck holds. -/
def State.deckClip (s : State) (d : Nat) : Option Clip := (s.deck d).clip.bind s.lookupClip

/-- The length of the clip a deck holds. -/
def State.deckLength (s : State) (d : Nat) : Nat := ((s.deckClip d).map Clip.length).getD 0

/-- The loaded prefix of the clip a deck holds. -/
def State.deckPrefix (s : State) (d : Nat) : Nat := ((s.deckClip d).map Clip.loadedPrefix).getD 0

/-- Whether the decks move: RUNNING or ENDING (R179). -/
def State.decksRun (s : State) : Bool := s.timer.showState = .running || s.timer.showState = .ending

/-- A WAITING deck whose start has come (R180). -/
def State.deckBegins (s : State) (d : Nat) : Bool :=
  (s.deck d).state = .waiting && atOrAfter s.timer.clock (s.deck d).start

/-- A deck ends: it becomes EMPTY and DECK_ENDED is raised (R176, R180, R181, R183). -/
def State.endDeckNow (d : Nat) (s : State) : State := (s.emptyDeck d).raise .deckEnded

/-- The position a deck begins at (R180). -/
def State.beginPosition (s : State) (d : Nat) : Nat :=
  (s.deck d).cue + (s.timer.clock - (s.deck d).start).toNat

/-- The beginning step (R180). -/
def State.beginDeck (d : Nat) (s : State) : State :=
  if s.deckBegins d then
    let p := s.beginPosition d
    if s.deckLength d ≤ p then s.endDeckNow d
    else s.modifyDeck d fun k => { k with state := .playing, position := p }
  else s

/-- The frame step and the position step (R181): what is given for the period, starvation, and the advance, the
deck ending once it has played its last frame. -/
def State.playDeck (d : Nat) (s : State) : State :=
  let k := s.deck d
  if k.state = .playing ∨ k.state = .starved then
    let starves := decide (s.deckPrefix d ≤ k.position)
    let given := match s.deckClip d with
      | some c => if starves then Stereo.zero else deckContribution (c.frame s.clips.memory k.position) k.gain
      | none => Stereo.zero
    let s := s.raiseIf (starves && k.state = .playing) .deckStarved
    let s := s.modifyDeck d fun k =>
      { k with state := if starves then .starved else .playing, position := k.position + 1, given := given }
    if k.position + 1 = s.deckLength d then s.endDeckNow d else s
  else s

/-- The gain moved one step toward its target (R182). -/
def Deck.moveGain (k : Deck) : Deck :=
  { k with gain := if k.gain < k.target then min k.target (k.gain + k.step) else max k.target (k.gain - k.step) }

/-- One deck in one sample period: beginning, frame, position, gain (R179). -/
def State.processDeck (d : Nat) (s : State) : State :=
  let s := s.modifyDeck d fun k => { k with given := Stereo.zero }
  let s := s.beginDeck d
  let s := s.playDeck d
  s.modifyDeck d Deck.moveGain

/-- Whether the decks' processing of the present sample period is still to come (R179). -/
def State.deckPeriodDue (s : State) : Bool := s.decksRun && !s.due.decksDone

/-- The events of the last period's end that end the show, taken: an emergency stop sampled in it, the expiry of the
silence timer and the end time (R11, R13, R17). -/
def State.takeShowEnds (s : State) : State := s.takeStop.takeSilence.takeEndTime

/-- The decks' processing in the present sample period, once (R179). What ended the show at the end of the last period
comes first: the end time, for one, stops the show at the end of the period that reaches it (R11), and that show's decks
give nothing in the next (DEDUCED, log entry 37). A SHOW_HOLD taken between it and the period's
SAMPLE_PERIOD finds positions and gains already moved, while the clock stays and the period's frame is silent: the
music then resumes one frame ahead of the clock. R184 leaves that order open (DESIGN CHOICE, log entry 19). -/
def State.takeDeckPeriod (s : State) : State :=
  if s.deckPeriodDue then
    let s := s.takeShowEnds
    if s.decksRun then (forEach [0, 1] State.processDeck s).modifyDue fun d => { d with decksDone := true } else s
  else s

/-- DECK_PERIOD (R179). -/
def execDeckPeriod (s : State) : Host.Outcome State Fault Refusal := done s.takeDeckPeriod

/-- Whether the decks' processing in the present sample period begins deck `d` (R179, R180). -/
def State.periodBegins (d : Nat) (s : State) : Bool :=
  s.deckPeriodDue && (s.takeShowEnds.decksRun && s.takeShowEnds.deckBegins d)

/-- DECK_BEGIN: the sample period in which deck `d` begins (R180). R179 takes a deck's steps one after another in a
period, so the row takes the decks' processing, whole, when it begins the deck, and otherwise changes nothing (DESIGN
CHOICE, log entry 4). -/
def execDeckBegin (d : Fin 2) (s : State) : Host.Outcome State Fault Refusal :=
  done (if s.periodBegins d then s.takeDeckPeriod else s)

/-- A deck whose stop is pending and whose gain has come to 0 (R183). -/
def Deck.stopComplete (k : Deck) : Bool := k.stopPending && decide (k.gain = 0)

/-- The completion of a pending stop at the end of the period (R183). -/
def State.takeDeckStop (d : Nat) (s : State) : State := if (s.deck d).stopComplete then s.endDeckNow d else s

/-- DECK_STOP_COMPLETE (R183). -/
def execDeckStopComplete (d : Fin 2) (s : State) : Host.Outcome State Fault Refusal := done (s.takeDeckStop d)

/-! ### The deck commands -/

/-- The first check of every deck command (R176). -/
def badDeck (d : Byte) : Bool × ResultCode := (decide (1 < d.toNat), .badParam)

/-- DECK_CUE (R177). -/
def handleDeckCue (d : Byte) (h : Half) (cue : Quad) : Handler := fun s =>
  let clip := s.lookupClip h
  checked
    [badDeck d,
     ((s.deck d.toNat).sounding, .busy),
     (clip.isNone, .staleHandle),
     (clip.any fun c => c.state = .retiring, .wrongState),
     (clip.any fun c => c.length ≤ cue.toNat, .badParam)]
    (accept fun s =>
      ((s.releaseHeld d.toNat).takeClip h).modifyDeck d.toNat fun k =>
        { k with state := .cued, clip := some h, cue := cue.toNat }) s

/-- DECK_CUE loads a clip onto a deck (R177). -/
def execDeckCue (d : Byte) (h : Half) (cue : Quad) (s : State) : Host.Outcome State Fault Refusal :=
  done (takeCommand (handleDeckCue d h cue) s)

/-- DECK_START (R178). -/
def handleDeckStart (d code : Byte) (start : Quad) : Handler := fun s =>
  let t := if deckStartCodeOf code = some .now then s.timer.clock else start
  checked
    [(decide (1 < d.toNat) || (deckStartCodeOf code).isNone, .badParam),
     (s.timer.showState = .ending, .wrongShowState),
     ((s.deck d.toNat).state ≠ .cued, .wrongState)]
    (accept (State.modifyDeck d.toNat fun k => { k with state := .waiting, start := t }) fun _ => put4 t.toNat) s

/-- DECK_START sets a cued deck waiting for its show time (R178). -/
def execDeckStart (d code : Byte) (start : Quad) (s : State) : Host.Outcome State Fault Refusal :=
  done (takeCommand (handleDeckStart d code start) s)

/-- A ramp in milliseconds as taken (R182, R183). -/
def rampMs (ramp : Half) : Nat := min ramp.toNat 60000

/-- What a DECK_STOP does to its deck (R183). -/
def State.stopDeckBy (d ramp : Nat) (s : State) : State :=
  let k := s.deck d
  match k.state with
  | .empty => s
  | .cued => s.emptyDeck d
  | .waiting => s.emptyDeck d
  | .playing | .starved =>
    if ramp = 0 ∨ k.gain = 0 then s.endDeckNow d
    else s.modifyDeck d fun k =>
      { k with target := 0, step := ceilDiv k.gain (periodsOfMs ramp), stopPending := true }

/-- DECK_STOP (R183). -/
def handleDeckStop (d : Byte) (ramp : Half) : Handler := fun s =>
  checked [badDeck d]
    (accept (State.stopDeckBy d.toNat (rampMs ramp)) fun s => put1 (s.deck d.toNat).state.code) s

/-- DECK_STOP stops a deck, at once or by a ramp (R183). -/
def execDeckStop (d : Byte) (ramp : Half) (s : State) : Host.Outcome State Fault Refusal :=
  done (takeCommand (handleDeckStop d ramp) s)

/-- The distance between two figures. -/
def distance (a b : Nat) : Nat := max a b - min a b

/-- What a DECK_GAIN does to its deck (R182). -/
def Deck.setGain (target ramp : Nat) (k : Deck) : Deck :=
  if ramp = 0 then { k with target := target, gain := target, step := 0 }
  else { k with target := target, step := ceilDiv (distance target k.gain) (periodsOfMs ramp) }

/-- DECK_GAIN (R182). -/
def handleDeckGain (d : Byte) (target ramp : Half) : Handler := fun s =>
  checked [badDeck d, ((s.deck d.toNat).stopPending, .busy)]
    (accept (State.modifyDeck d.toNat (Deck.setGain (min target.toNat 32768) (rampMs ramp)))) s

/-- DECK_GAIN sets where a deck's gain goes and how fast (R182). -/
def execDeckGain (d : Byte) (target ramp : Half) (s : State) : Host.Outcome State Fault Refusal :=
  done (takeCommand (handleDeckGain d target ramp) s)

/-- The payload of DECK_QUERY (R188). -/
def deckReport (d : Nat) (s : State) : List Byte :=
  let k := s.deck d
  put1 k.state.code ++ put2 (k.clip.getD 0).toNat
    ++ put4 k.cue ++ put4 k.start.toNat ++ put4 k.position
    ++ put2 k.gain ++ put2 k.target ++ put2 k.step ++ putFlag k.stopPending
    ++ put4 (s.deckLength d) ++ put4 (s.deckPrefix d)
    ++ put2 s.decks.master ++ put4 s.decks.decay ++ put4 s.decks.envelope

/-- DECK_QUERY (R188); the envelope it reports is that of the last jet boundary. -/
def handleDeckQuery (d : Byte) : Handler := fun s =>
  checked [badDeck d] (accept State.takeEnvelope (deckReport d.toNat)) s

/-- DECK_QUERY reports a deck (R188). -/
def execDeckQuery (d : Byte) (s : State) : Host.Outcome State Fault Refusal :=
  done (takeCommand (handleDeckQuery d) s)

/-- AUDIO_SET (R185): both figures as taken. The new master counts from the next sample period on: the frame of the
present one is formed with the master it began with (DEDUCED, log entry 29). The new decay takes effect from the next
jet boundary, so an update still to come for the last one is taken first. -/
def handleAudioSet (master : Half) (decay : Quad) : Handler := fun s =>
  accept
    (fun s =>
      let s := s.takeEnvelope
      { s with decks := { s.decks with master := min master.toNat 32768, decay := min decay.toNat 8388607 } })
    (fun s => put2 s.decks.master ++ put4 s.decks.decay) s

/-- AUDIO_SET replaces the master volume and the envelope decay (R185). -/
def execAudioSet (master : Half) (decay : Quad) (s : State) : Host.Outcome State Fault Refusal :=
  done (takeCommand (handleAudioSet master decay) s)

/-! ### The mixer (R185) -/

/-- A signed figure limited to the range of an output sample (R185 step 4). -/
def saturate (x : Int) : Int := max (-8388608) (min 8388607 x)

/-- One output channel from the two contributions (R185 steps 2 to 4). -/
def mixSample (a b : Int) (master : Nat) : Int := saturate ((a + b) * (master : Int) / 32768)

/-- The output frame of the present sample period, under the master volume of that period (R184, R185). -/
def State.outputFrame (s : State) : Stereo :=
  if s.timer.showState = .held then Stereo.zero
  else
    let a := (s.deck 0).given
    let b := (s.deck 1).given
    ⟨mixSample a.left b.left s.decks.masterNow, mixSample a.right b.right s.decks.masterNow⟩

/-- The mixer's part of a sample period: the output frame goes out and enters the peak (R185, R186), what the decks gave
is used up, and the master volume last set becomes the one of the next period (R185). -/
def State.mix (s : State) : State :=
  let o := s.outputFrame
  { s with decks := { s.decks with
      out := o
      masterNow := s.decks.master
      peak := max s.decks.peak (max o.left.natAbs o.right.natAbs)
      table := s.decks.table.map fun k => { k with given := Stereo.zero } } }

end Sys2Proof.Machine
end

