-- ==== Sys2Proof/Machine/Lines.lean ====
section
/-! DEFINITION. The Slot Line Unit (chapter 8): writes into a back image, the frame start, the slot owner map, the
line commands and the end of a frame's gap. -/

namespace Sys2Proof.Machine

/-! ### Frame figures (R160, R162) -/

/-- Frame length in bit times (R162). -/
def frameBitTimes (c : LineConfig) : Nat := 12 * (c.slots + 1) + c.gap

/-- System clocks of one bit time (R160). -/
def bitClocks (c : LineConfig) : Nat := 16 * (c.divider + 1)

/-- System clocks of one frame (R160, R162). -/
def frameClocks (c : LineConfig) : Nat := frameBitTimes c * bitClocks c

/-- The bit rate in bit/s, floored (R160, R167). -/
def bitRate (c : LineConfig) : Nat := 3000000 / (c.divider + 1)

/-! ### Images (R164, R165) -/

/-- Values for slots of one line: slot number and value. -/
abbrev SlotValues := List (Nat × Byte)

/-- Slot values put into an image. -/
def putSlots (image : List Byte) (values : SlotValues) : List Byte :=
  values.foldl (fun im v => im.set (v.1 - 1) v.2) image

/-- One write into a line's back image, taken whole; it sets the fresh flag (R164). -/
def Line.write (values : SlotValues) (l : Line) : Line :=
  { l with back := putSlots l.back values, fresh := true }

/-- A write of some slots of line `n`; no slots make no write (R164). -/
def State.writeSlots (n : Nat) (values : SlotValues) (s : State) : State :=
  if values = [] then s else s.modifyLine n (Line.write values)

/-- A frame start (R162, R163, R165): the figures in force become the frame's, the back image is taken when fresh
and otherwise a held frame is counted, and the frame counter advances once the address character has its value. -/
def Line.startFrame (l : Line) : Line :=
  { l with
    run := l.cfg
    sending := true
    address := l.frames.truncate 8
    front := if l.fresh then l.back else l.front
    fresh := false
    held := if l.fresh then l.held else l.held + 1
    frames := l.frames + 1 }

/-! ### The slot owner map (R166) -/

/-- The slots an owner takes on a line: slot number and entry of the map. -/
abbrev Claims := List (Nat × SlotOwner)

/-- The claims of a nozzle's valve (Table 8-4). -/
def valveClaims (n : Nat) (c : NozzleConfig) : Claims := [(c.first, .valveHigh n), (c.first + 1, .valveLow n)]

/-- The channels a layout's slots carry, in slot order: 0 R, 1 G, 2 B, 3 W (Table 7-3). -/
def Layout.channels : Layout → List Nat
  | .dim1 => [3]
  | .rgb => [0, 1, 2]
  | .rgbw => [0, 1, 2, 3]

/-- The slots a fixture occupies, in slot order (R145). -/
def fixtureSlots (c : FixtureConfig) : List Nat := (List.range c.layout.channels.length).map (c.first + ·)

/-- The claims of a fixture (Table 8-4). -/
def fixtureClaims (f : Nat) (c : FixtureConfig) : Claims :=
  (fixtureSlots c).zip (c.layout.channels.map (SlotOwner.fixture f))

/-- Whether an entry of the map belongs to nozzle `n`'s valve. -/
def SlotOwner.isValveOf (n : Nat) : SlotOwner → Bool
  | .valveHigh m => m = n
  | .valveLow m => m = n
  | _ => false

/-- Whether an entry of the map belongs to fixture `f`. -/
def SlotOwner.isFixture (f : Nat) : SlotOwner → Bool
  | .fixture g _ => g = f
  | _ => false

/-- The owner of a slot of a line. -/
def Line.owner (l : Line) (slot : Nat) : SlotOwner := l.owners.getD (slot - 1) .free

/-- Entries of the map set for a list of claims. -/
def Line.claim (cs : Claims) (l : Line) : Line :=
  { l with owners := cs.foldl (fun os c => os.set (c.1 - 1) c.2) l.owners }

/-- Entries of the map freed for a list of claims. -/
def Line.unclaim (cs : Claims) (l : Line) : Line := l.claim (cs.map fun c => (c.1, .free))

/-- Slots of a line that are owned, in ascending order. -/
def Line.owned (l : Line) : List Nat :=
  (List.range 512).filterMap fun i => if l.owners.getD i .free = .free then none else some (i + 1)

/-- Whether slot `slot` of a line is owned by anything an owner test does not accept. -/
def State.conflict (s : State) (line slot : Nat) (mine : SlotOwner → Bool) : Bool :=
  let o := (s.line line).owner slot
  o ≠ .free && !mine o

/-! ### LINE_SET, LINE_QUERY (R159, R163, R167) -/

/-- The configuration a LINE_SET carries. -/
def lineConfigOf (p : LineSetParams) (enabled : Bool) : LineConfig :=
  ⟨enabled, p.divider.toNat, p.slots.toNat, p.gap.toNat⟩

/-- The effect of an accepted LINE_SET on its line (R159, R163): an OFF line left configured and enabled starts its
first frame at once. -/
def Line.configure (c : LineConfig) (l : Line) : Line :=
  let l := { l with cfg := c }
  if l.sending = false ∧ c.enabled = true ∧ c.slots ≠ 0 then { l.startFrame with clocks := 0 } else l

/-- LINE_SET (R159). -/
def handleLineSet (p : LineSetParams) : Handler := fun s =>
  let slots := p.slots.toNat
  checked
    (configChecks s ++
     [(decide (3 < p.line.toNat) || (yesNoOf p.enabled).isNone || p.divider = 0
        || decide ((1 ≤ slots ∧ slots ≤ 7) ∨ 512 < slots) || decide (p.gap.toNat < 2)
        || (decide (slots = 0) && decide (p.enabled = 1)), .badParam),
      ((s.line p.line.toNat).owned.any (slots < ·), .badParam)])
    (accept fun s => s.modifyLine p.line.toNat
      (Line.configure (lineConfigOf p ((yesNoOf p.enabled).getD false)))) s

/-- LINE_SET configures a slot line (R159, R163). -/
def execLineSet (p : LineSetParams) (s : State) : Host.Outcome State Fault Refusal :=
  done (takeCommand (handleLineSet p) s)

/-- One slot of a LINE_QUERY: front value, back value, owner (R167). -/
def slotReport (l : Line) (slot : Nat) : List Byte :=
  [l.front.getD (slot - 1) 0, l.back.getD (slot - 1) 0] ++ putOwner (l.owner slot)

/-- The payload of LINE_QUERY (R167). The bit rate and the frame length are those of the line's configuration, also
while the frame in progress was begun under another one, and for an unconfigured line (12 + G bit times): the spec says
only "its bit rate" and "its frame length" (DESIGN CHOICE, log entry 32). -/
def lineReport (l : Line) (first count : Nat) : List Byte :=
  putFlag l.cfg.enabled ++ put1 l.cfg.divider ++ put2 l.cfg.slots ++ put1 l.cfg.gap
    ++ putFlag l.sending ++ put4 (bitRate l.cfg) ++ put4 (frameBitTimes l.cfg) ++ putFlag l.fresh
    ++ put4 l.frames.toNat ++ put4 l.held.toNat
    ++ put4 l.owned.length ++ put2 (l.owned.getLast?.getD 0)
    ++ (List.range (min count (513 - first))).flatMap fun i => slotReport l (first + i)

/-- LINE_QUERY (R167). -/
def handleLineQuery (n : Byte) (first : Half) (count : Byte) : Handler := fun s =>
  checked
    [(decide (3 < n.toNat) || first = 0 || decide (512 < first.toNat) || decide (64 < count.toNat), .badParam)]
    (accept id fun s => lineReport (s.line n.toNat) first.toNat count.toNat) s

/-- LINE_QUERY reports a line (R167). -/
def execLineQuery (n : Byte) (first : Half) (count : Byte) (s : State) : Host.Outcome State Fault Refusal :=
  done (takeCommand (handleLineQuery n first count) s)

/-! ### The end of a frame's gap (R163) -/

/-- Whether the frame in progress has reached the end of its gap. -/
def Line.atGapEnd (l : Line) : Bool := l.sending && decide (frameClocks l.run ≤ l.clocks)

/-- The end of a frame's gap: the next frame starts under the configuration then in force, or a disabled line
becomes OFF (R163). The clocks run past the gap's end belong to the next frame (R162). -/
def Line.gapEnd (l : Line) : Line :=
  if l.atGapEnd then
    if l.cfg.enabled then { l.startFrame with clocks := l.clocks - frameClocks l.run }
    else { l with sending := false, clocks := 0 }
  else l

/-- The end of line `n`'s gap. -/
def State.takeGapEnd (n : Nat) (s : State) : State := s.modifyLine n Line.gapEnd

/-- LINE_GAP_END: at the end of a frame's gap the next frame starts, or the line goes OFF (R163). -/
def execLineGapEnd (n : Fin 4) (s : State) : Host.Outcome State Fault Refusal := done (s.takeGapEnd n)

end Sys2Proof.Machine
end

