-- ==== Sys2Proof/Machine/Nozzles.lean ====
section
/-! DEFINITION. The Nozzle Engine (chapter 4): configuring a nozzle, reading it, and the jet frame with its stages
compose, cap, flow, demand and scaling, valve target, slew, publish, forecast and report (Table 4-3). -/

namespace Sys2Proof.Machine

/-! ### Flows and heights -/

/-- The flow that a height calls for from a nozzle of coefficient `k`: floor(K isqrt(256 h) / 4096) (R73, R82). -/
def flowAt (k h : Nat) : Nat := k * isqrt (h * 256) / 4096

/-- The derived maximum flow of a nozzle (R73). -/
def NozzleConfig.maxFlow (c : NozzleConfig) : Nat := flowAt c.coefficient c.maxHeight

/-- The effective height at a valve position (R89). -/
def effectiveHeight (maxHeight v : Nat) : Nat := maxHeight * v * v / 1000000

/-- The valve target for a scaled flow (R86). -/
def valveTargetOf (scaled qmax : Nat) : Nat := if qmax = 0 then 0 else min 1000 (scaled * 1000 / qmax)

/-- The valve position one frame on, moved toward its target by at most the slew (R87). -/
def slewed (v target slew : Nat) : Nat :=
  if v + slew < target then v + slew
  else if target + slew < v then v - slew
  else target

/-- Whether the target lies more than the slew away (R87). -/
def slewLimited (v target slew : Nat) : Bool := decide (v + slew < target ∨ target + slew < v)

/-- The valve position as a 16-bit slot pair (R90). -/
def valveWord (v : Nat) : Nat := v * 65535 / 1000

/-! ### Compose and cap (R79 to R81) -/

/-- The evaluation time of a nozzle in a frame of show time `t` (R79). -/
def leadTime (t : ShowTime) (leadMs : Nat) : ShowTime := after t (periodsOfMs leadMs)

/-- The cap of nozzle `n` (R80): 0 in STOPPED, else the smallest of Hn and the caps of the governing zones. -/
def State.nozzleCap (s : State) (n : Nat) (maxHeight : Nat) : Nat :=
  if s.timer.showState = .stopped then 0
  else (s.governing n).foldl (fun c z => min c (s.cap z)) maxHeight

/-- The reason flag of a nozzle cut back to `cap` (R81), as a set with at most one flag. -/
def State.reason (s : State) (n composed cap : Nat) : Limits :=
  let zs := s.governing n
  if composed ≤ cap then Limits.empty
  else if s.site.stopLatch || zs.any (fun z => (s.zone z).latch) then { Limits.empty with stop := true }
  else if zs.any (fun z => decide (s.cap z = cap) && decide ((s.zone z).wind ≠ .clear)) then
    { Limits.empty with wind := true }
  else { Limits.empty with zoneCap := true }

/-- Stages compose, cap and flow of a present nozzle (R79 to R82). -/
def State.composeStage (s : State) (n : Nat) (z : Nozzle) : Nozzle :=
  let c := s.composeNozzle n (leadTime s.timer.clock z.cfg.lead)
  let cap := s.nozzleCap n z.cfg.maxHeight
  { z with live := { z.live with
      composed := c, cap := cap, target := min c cap, flow := flowAt z.cfg.coefficient (min c cap)
      flags := s.reason n c cap } }

/-! ### Demand and scaling (R83 to R85) -/

/-- The sum of a figure over the present nozzles of a manifold. -/
def sumOver (m : Nat) (f : Nozzle → Nat) (table : List Nozzle) : Nat :=
  ((table.filter fun z => z.cfg.present && decide (z.cfg.manifold = m)).map f).sum

/-- The scaling factor of a manifold (R83). -/
def scalingFactor (supply demand : Nat) : Nat := if supply < demand then supply * 65536 / demand else 65536

/-- Stages scaling to publish of a present nozzle whose manifold has factor `f` (R84 to R89). -/
def scaleStage (f : Nat) (z : Nozzle) : Nozzle :=
  let scaled := z.live.flow * f / 65536
  let target := valveTargetOf scaled z.cfg.maxFlow
  let v := slewed z.live.valve target z.cfg.slew
  { z with live := { z.live with
      scaledFlow := scaled
      scaledHeight := z.live.target * f * f / 4294967296
      valveTarget := target
      valve := v
      effective := effectiveHeight z.cfg.maxHeight v
      flags := { z.live.flags with
        supply := decide (f < 65536) && decide (0 < z.live.flow)
        slew := slewLimited z.live.valve target z.cfg.slew } } }

/-! ### Forecast (R91) -/

/-- The forecast flow of nozzle `n` for its manifold's pump lead (R91). -/
def State.forecastFlow (s : State) (n : Nat) (z : Nozzle) : Nat :=
  let x := after (leadTime s.timer.clock z.cfg.lead) (periodsOfMs (s.manifold z.cfg.manifold).cfg.lead)
  flowAt z.cfg.coefficient (min (s.composeNozzle n x) (s.nozzleCap n z.cfg.maxHeight))

/-- The forecast of manifold `m` over a nozzle table (R91). -/
def State.forecastOf (s : State) (m : Nat) (table : List Nozzle) : Nat :=
  ((table.zipIdx.filter fun zi => zi.1.cfg.present && decide (zi.1.cfg.manifold = m)).map
    fun zi => s.forecastFlow zi.2 zi.1).sum

/-! ### The jet frame (R78) -/

/-- A stage applied to the present nozzles of a table. -/
def onPresent (f : Nat → Nozzle → Nozzle) (table : List Nozzle) : List Nozzle :=
  table.zipIdx.map fun zi => if zi.1.cfg.present then f zi.2 zi.1 else zi.1

/-- The nozzle table after compose, cap and flow. -/
def State.composedTable (s : State) : List Nozzle := onPresent s.composeStage s.nozzles.table

/-- The frame record of manifold `m`, from the table after the flow stage (R83, R91). -/
def State.frameOf (s : State) (table : List Nozzle) (m : Nat) : FrameRecord :=
  let demand := sumOver m (·.live.flow) table
  let supply := (s.manifold m).supply
  ⟨demand, supply, scalingFactor supply demand, s.forecastOf m table⟩

/-- The frame records of the eight manifolds. -/
def State.newFrames (s : State) : List FrameRecord := (List.range 8).map (s.frameOf s.composedTable)

/-- The nozzle table a jet frame leaves. -/
def State.newTable (s : State) : List Nozzle :=
  let frames := s.newFrames
  onPresent (fun _ z => scaleStage (frames.getD z.cfg.manifold FrameRecord.blank).factor z) s.composedTable

/-- The valve slots of line `l` that a nozzle table gives (R90). -/
def valveSlots (l : Nat) (table : List Nozzle) : SlotValues :=
  (table.filter fun z => z.cfg.present && decide (z.cfg.line = l)).flatMap fun z =>
    let p := valveWord z.live.valve
    [(z.cfg.first, BitVec.ofNat 8 (p / 256)), (z.cfg.first + 1, BitVec.ofNat 8 p)]

/-- The union of two sets of flags. -/
def Limits.union (a b : Limits) : Limits :=
  ⟨a.zoneCap || b.zoneCap, a.wind || b.wind, a.stop || b.stop, a.supply || b.supply, a.slew || b.slew⟩

/-- The limitation summary of a JET record (R47, R93): the flags of the present nozzles it was applied to in the
compose stage of state `s`, from the table the frame left. -/
def State.summaryOf (s : State) (table : List Nozzle) (r : EffectRecord) : Limits :=
  table.zipIdx.foldl (fun acc zi =>
    if zi.1.cfg.present && s.appliedTo r zi.2 (leadTime s.timer.clock zi.1.cfg.lead) then
      acc.union zi.1.live.flags
    else acc) Limits.empty

/-- The summaries handed to the Effect Scheduler (R93); a LIGHT record's stays empty (R47). -/
def State.summarise (s : State) (table : List Nozzle) (slots : List EffectSlot) : List EffectSlot :=
  slots.map fun e => { e with record := e.record.map fun r =>
    if r.params.kind = .jet then { r with limits := s.summaryOf table r } else r }

/-- The demand reports handed to the Pump Controller (R92, R105). -/
def report (frames : List FrameRecord) (ms : List Manifold) : List Manifold :=
  ms.zipIdx.map fun mi =>
    let f := frames.getD mi.2 FrameRecord.blank
    { mi.1 with demand := f.demand, forecast := f.forecast }

/-- A jet frame, taken whole (R78). Its demand report replaces the Pump Controller's figures at once, so a pump update of
the same boundary that is taken after the frame uses it. R105 says so; R78 says that the report then arrives after the
update. R2 leaves the value a block reads to the chapter of the reading block, which is R105's (DEDUCED, log
entry 36). -/
def State.jetFrame (s : State) : State :=
  let table := s.newTable
  let frames := s.newFrames
  let short := frames.any fun f => decide (f.factor < 65536)
  let s' := { s with
    nozzles := { s.nozzles with table := table, frames := frames }
    pumps := { s.pumps with manifolds := report frames s.pumps.manifolds }
    effects := { s.effects with slots := s.summarise table s.effects.slots } }
  (forEach (List.range 4) (fun l s => s.writeSlots l (valveSlots l table)) s').raiseIf short .supplyLimited

/-- The jet frame of the boundary just reached, after the envelope and the scheduler's transitions of the same
boundary (R78), if it has not been taken yet. -/
def State.takeJet (s : State) : State :=
  if s.due.jet then (s.takeEnvelope.takeEffects.jetFrame).modifyDue fun d => { d with jet := false } else s

/-- JET_FRAME (R78). -/
def execJetFrame (s : State) : Host.Outcome State Fault Refusal := done s.takeJet

/-! ### NOZZLE_SET and NOZZLE_QUERY (R75 to R77) -/

/-- The configuration a NOZZLE_SET with present yes carries. -/
def nozzleConfigOf (p : NozzleSetParams) : NozzleConfig :=
  ⟨true, p.manifold.toNat, p.maxHeight.toNat, p.coefficient.toNat, p.lead.toNat, p.slew.toNat, p.line.toNat,
    p.first.toNat⟩

/-- Field ranges of a present nozzle, and its slots within the line's slot count (R75 step 4). -/
def nozzleFieldsBad (s : State) (c : NozzleConfig) : Bool :=
  decide (7 < c.manifold) || decide (c.maxHeight = 0 ∨ 10000 < c.maxHeight) || decide (c.coefficient = 0)
    || decide (2000 < c.lead) || decide (c.slew = 0 ∨ 1000 < c.slew) || decide (3 < c.line)
    || decide (c.first = 0 ∨ 511 < c.first) || decide ((s.line c.line).cfg.slots < c.first + 1)

/-- Slots released on one line and taken on another, in one step (R76, R147, R166). -/
def State.moveClaims (old new : Option (Nat × Claims)) (s : State) : State :=
  let s := match old with
    | some (l, cs) => s.modifyLine l (Line.unclaim cs)
    | none => s
  match new with
  | some (l, cs) => s.modifyLine l (Line.claim cs)
  | none => s

/-- The line and claims a nozzle of a configuration has: none when absent. -/
def nozzleClaim (n : Nat) (c : NozzleConfig) : Option (Nat × Claims) :=
  if c.present then some (c.line, valveClaims n c) else none

/-- The effect of an accepted NOZZLE_SET (R76). -/
def State.setNozzle (n : Nat) (c : NozzleConfig) (s : State) : State :=
  let old := (s.nozzle n).cfg
  let s := s.moveClaims (nozzleClaim n old) (nozzleClaim n c)
  s.modifyNozzle n fun z => { cfg := c, live := if c.present then z.live else NozzleLive.zero }

/-- NOZZLE_SET (R75). -/
def handleNozzleSet (p : NozzleSetParams) : Handler := fun s =>
  let n := p.nozzle.toNat
  let present := decide (p.present = 1)
  let old := s.nozzle n
  let c := if present then nozzleConfigOf p else { old.cfg with present := false }
  let moves := !present || decide (c.line ≠ old.cfg.line ∨ c.first ≠ old.cfg.first)
  checked
    (configChecks s ++
     [(decide (383 < n) || (yesNoOf p.present).isNone, .badParam),
      (present && nozzleFieldsBad s c, .badParam),
      (old.cfg.present && decide (0 < old.live.valve) && moves, .busy),
      (present && (s.conflict c.line c.first (SlotOwner.isValveOf n)
        || s.conflict c.line (c.first + 1) (SlotOwner.isValveOf n)), .slotConflict)])
    (accept (State.setNozzle n c)) s

/-- NOZZLE_SET configures a nozzle (R75, R76). -/
def execNozzleSet (p : NozzleSetParams) (s : State) : Host.Outcome State Fault Refusal :=
  done (takeCommand (handleNozzleSet p) s)

/-- The payload of NOZZLE_QUERY (R77). -/
def nozzleReport (s : State) (n : Nat) : List Byte :=
  let c := (s.nozzle n).cfg
  let l := (s.nozzle n).live
  let f := s.frame c.manifold
  putFlag c.present ++ put1 c.manifold ++ put2 c.maxHeight ++ put2 c.coefficient ++ put2 c.lead ++ put2 c.slew
    ++ put1 c.line ++ put2 c.first ++ put4 c.maxFlow
    ++ put2 l.composed ++ put2 l.cap ++ put2 l.target ++ put4 l.flow ++ put4 l.scaledFlow ++ put2 l.scaledHeight
    ++ put2 l.valveTarget ++ put2 l.valve ++ put2 l.effective ++ put1 l.flags.code
    ++ put4 f.demand ++ put4 f.supply ++ put4 f.factor ++ put4 f.forecast

/-- NOZZLE_QUERY (R77). -/
def handleNozzleQuery (n : Half) : Handler := fun s =>
  checked [(decide (383 < n.toNat), .badParam)] (accept id fun s => nozzleReport s n.toNat) s

/-- NOZZLE_QUERY reports a nozzle (R77). -/
def execNozzleQuery (n : Half) (s : State) : Host.Outcome State Fault Refusal :=
  done (takeCommand (handleNozzleQuery n) s)

end Sys2Proof.Machine
end

