-- ==== Sys2Proof/Machine/Lights.lean ====
section
/-! DEFINITION. The Light Engine (chapter 7): configuring and reading a fixture, the master level and the light
computation with its stages compose, follow, master, curve and write (Table 7-4). -/

namespace Sys2Proof.Machine

/-! ### The stages (R150 to R154) -/

/-- The follow factor of a fixture that follows its jet (R151). -/
def followFactor (s : State) (c : FixtureConfig) : Nat :=
  match c.linked with
  | some n =>
    let z := s.nozzle n
    if z.cfg.present then min 65536 (z.live.effective * 65536 / z.cfg.maxHeight) else 0
  | none => 0

/-- The follow factor, `none` when not applied (R151). -/
def followOf (s : State) (c : FixtureConfig) : Option Nat := if c.follow then some (followFactor s c) else none

/-- A channel through the follow stage (R151). -/
def followChannel (factor : Option Nat) (v : Nat) : Nat :=
  match factor with
  | some f => v * f / 65536
  | none => v

/-- A channel through the master stage (R152). -/
def masterChannel (master v : Nat) : Nat := v * master / 65535

/-- A channel through the curve stage (R154). -/
def Curve.apply : Curve → Nat → Nat
  | .linear, v => v / 256
  | .square, v => v * v / 16842495

/-- Channel `i` of a level: 0 R, 1 G, 2 B, 3 W. -/
def Level.channel (l : Level) : Nat → Nat
  | 0 => l.r
  | 1 => l.g
  | 2 => l.b
  | _ => l.w

/-- The slot value a composed channel becomes (R151, R152, R154). -/
def slotValue (c : FixtureConfig) (factor : Option Nat) (master v : Nat) : Byte :=
  BitVec.ofNat 8 (c.curve.apply (masterChannel master (followChannel factor v)))

/-- One present fixture in a light computation (R149 to R154). -/
def State.lightFixture (s : State) (n : Nat) (x : Fixture) : Fixture :=
  let composed := s.composeFixture n s.timer.clock
  let factor := followOf s x.cfg
  { x with
    composed := composed
    factor := factor
    values := x.cfg.layout.channels.map fun i => slotValue x.cfg factor s.lights.master (composed.channel i) }

/-- The fixture table a light computation leaves. -/
def State.litTable (s : State) : List Fixture :=
  s.lights.table.zipIdx.map fun xi => if xi.1.cfg.present then s.lightFixture xi.2 xi.1 else xi.1

/-- The fixture slots of line `l` that a fixture table gives (R155). -/
def lightSlots (l : Nat) (table : List Fixture) : SlotValues :=
  (table.filter fun x => x.cfg.present && decide (x.cfg.line = l)).flatMap fun x =>
    (fixtureSlots x.cfg).zip x.values

/-- A light computation, taken whole (R149). -/
def State.lightCompute (s : State) : State :=
  let table := s.litTable
  forEach (List.range 4) (fun l s => s.writeSlots l (lightSlots l table))
    { s with lights := { s.lights with table := table } }

/-- The light computation of the boundary just reached, after the envelope and the scheduler's transitions of the
same boundary (R149), if it has not been taken yet. -/
def State.takeLight (s : State) : State :=
  if s.due.light then (s.takeEnvelope.takeEffects.lightCompute).modifyDue fun d => { d with light := false } else s

/-- LIGHT_COMPUTATION (R149). -/
def execLightComputation (s : State) : Host.Outcome State Fault Refusal := done s.takeLight

/-! ### FIXTURE_SET, FIXTURE_QUERY, LIGHT_MASTER (R146 to R148, R153) -/

/-- The configuration a FIXTURE_SET with present yes carries, when its codes name values (R146 step 4). -/
def fixtureConfigOf (p : FixtureSetParams) : Option FixtureConfig :=
  match layoutOf p.layout, linkedOf p.linked, yesNoOf p.follow, curveOf p.curve with
  | some l, some n, some f, some c =>
    if p.line.toNat ≤ 3 ∧ 1 ≤ p.first.toNat ∧ p.first.toNat ≤ 512 then
      some ⟨true, p.line.toNat, p.first.toNat, l, n, f, c⟩
    else none
  | _, _, _, _ => none

/-- The last slot of a fixture (R146 step 5). -/
def FixtureConfig.lastSlot (c : FixtureConfig) : Nat := c.first + c.layout.channels.length - 1

/-- The line and claims a fixture of a configuration has: none when absent. -/
def fixtureClaim (f : Nat) (c : FixtureConfig) : Option (Nat × Claims) :=
  if c.present then some (c.line, fixtureClaims f c) else none

/-- The old slots of a fixture that its new configuration does not keep (R147). -/
def releasedSlots (old new : FixtureConfig) : List Nat :=
  if old.present then
    (fixtureSlots old).filter fun i => !(new.present && decide (new.line = old.line) && (fixtureSlots new).contains i)
  else []

/-- The slot values of a fixture whose live fields are 0. -/
def zeroValues (c : FixtureConfig) : List Byte := List.replicate c.layout.channels.length 0

/-- A fixture after an accepted FIXTURE_SET (R147): present to present keeps the live fields. -/
def Fixture.configure (c : FixtureConfig) (x : Fixture) : Fixture :=
  if x.cfg.present && c.present then { x with cfg := c } else ⟨c, ⟨0, 0, 0, 0⟩, none, zeroValues c⟩

/-- The effect of an accepted FIXTURE_SET (R147): slots taken and released, released ones written 0. -/
def State.setFixture (n : Nat) (c : FixtureConfig) (s : State) : State :=
  let old := (s.fixture n).cfg
  let s := s.moveClaims (fixtureClaim n old) (fixtureClaim n c)
  let s := s.writeSlots old.line ((releasedSlots old c).map fun i => (i, 0))
  s.modifyFixture n (Fixture.configure c)

/-- FIXTURE_SET (R146). -/
def handleFixtureSet (p : FixtureSetParams) : Handler := fun s =>
  let n := p.fixture.toNat
  let present := decide (p.present = 1)
  let old := (s.fixture n).cfg
  let c := if present then (fixtureConfigOf p).getD old else { old with present := false }
  checked
    (configChecks s ++
     [(decide (511 < n) || (yesNoOf p.present).isNone, .badParam),
      (present && (fixtureConfigOf p).isNone, .badParam),
      (present && decide (512 < c.lastSlot), .slotConflict),
      (present && decide ((s.line c.line).cfg.slots < c.lastSlot), .badParam),
      (present && (fixtureSlots c).any (fun i => s.conflict c.line i (SlotOwner.isFixture n)), .slotConflict)])
    (accept (State.setFixture n c)) s

/-- FIXTURE_SET configures a fixture (R146, R147). -/
def execFixtureSet (p : FixtureSetParams) (s : State) : Host.Outcome State Fault Refusal :=
  done (takeCommand (handleFixtureSet p) s)

/-- The payload of FIXTURE_QUERY (R148). -/
def fixtureReport (s : State) (n : Nat) : List Byte :=
  let x := s.fixture n
  putFlag x.cfg.present ++ put1 x.cfg.line ++ put2 x.cfg.first ++ put1 x.cfg.layout.code
    ++ putNumber? x.cfg.linked ++ putFlag x.cfg.follow ++ put1 x.cfg.curve.code
    ++ put2 x.composed.r ++ put2 x.composed.g ++ put2 x.composed.b ++ put2 x.composed.w
    ++ putOptional4 x.factor ++ putList (fun v => [v]) x.values ++ put2 s.lights.master

/-- FIXTURE_QUERY (R148). -/
def handleFixtureQuery (n : Half) : Handler := fun s =>
  checked [(decide (511 < n.toNat), .badParam)] (accept id fun s => fixtureReport s n.toNat) s

/-- FIXTURE_QUERY reports a fixture (R148). -/
def execFixtureQuery (n : Half) (s : State) : Host.Outcome State Fault Refusal :=
  done (takeCommand (handleFixtureQuery n) s)

/-- LIGHT_MASTER, accepted in every state (R153). -/
def handleLightMaster (level : Half) : Handler :=
  accept (fun s => { s with lights := { s.lights with master := level.toNat } }) fun s => put2 s.lights.master

/-- LIGHT_MASTER replaces the master light level (R153). -/
def execLightMaster (level : Half) (s : State) : Host.Outcome State Fault Refusal :=
  done (takeCommand (handleLightMaster level) s)

end Sys2Proof.Machine
end

