-- ==== Sys2Proof/Machine/Pumps.lean ====
section
/-! DEFINITION. The Pump Controller (chapter 5): the pump update with its stages (Table 5-5), the pump state
machine (Table 5-6), and the commands on manifolds and pumps. -/

namespace Sys2Proof.Machine

/-! ### Changes of state (R104, R111) -/

/-- A pump in a new state (R104): on entry into a state other than STARTING or RUNNING the speeds are 0, and the
state timer starts from 0. -/
def Pump.enter (st : PumpState) (p : Pump) : Pump :=
  if st = .starting then { p with state := st, command := p.cfg.minSpeed, timer := 0 }
  else if st = .running then { p with state := st, timer := 0 }
  else { p with state := st, command := 0, target := 0, timer := 0 }

/-- Pump `n` changes state by `f`; PUMP_STATE is raised (R111). -/
def State.changePump (n : Nat) (f : Pump → Pump) (s : State) : State := (s.modifyPump n f).raise .pumpState

/-- Pump `n` leaves the start queue; the others keep their order (R110, R116, R121). -/
def State.unqueue (n : Nat) (s : State) : State :=
  { s with pumps := { s.pumps with queue := s.pumps.queue.filter (· ≠ n) } }

/-- Pump `n` enters FAULT with a cause, leaving the queue if it was in it; PUMP_STATE and PUMP_FAULT are raised
(R110, R111). -/
def State.faultPump (n : Nat) (c : FaultCause) (s : State) : State :=
  ((s.unqueue n).changePump n fun p => { p.enter .fault with cause := c, mark := false }).raise .pumpFault

/-! ### Sample and input transitions (R106 to R110) -/

/-- The channels' inputs sampled (R104, R106). -/
def State.samplePumps (s : State) : State :=
  { s with pumps := { s.pumps with table := s.pumps.table.zipIdx.map fun pi =>
      { pi.1 with feedback := s.pins.feedback.getLsbD pi.2, fault := s.pins.fault.getLsbD pi.2 } } }

/-- The timer of a pump has reached a timeout in milliseconds (R107, R109). -/
def Pump.timedOut (ms : Nat) (p : Pump) : Bool := decide (periodsOfMs ms ≤ p.timer)

/-- A STARTING pump that shows neither mark, fault nor feedback and has used its start timeout up (R107 case 4). -/
def Pump.startTimedOut (p : Pump) : Bool :=
  p.state = .starting && !p.mark && !p.fault && !p.feedback && p.timedOut p.cfg.startTimeout

/-- A STOPPING pump without a fault whose feedback is still active and which has used its stop timeout up (R109
case 3). -/
def Pump.stopTimedOut (p : Pump) : Bool :=
  p.state = .stopping && !p.fault && p.feedback && p.timedOut p.cfg.stopTimeout

/-- The examination of one pump at the input transitions stage (R107 to R110); it acts on present pumps
(Table 5-5). -/
def State.examine (n : Nat) (s : State) : State :=
  let p := s.pump n
  if !p.cfg.present then s
  else match p.state with
    | .starting =>
      if p.mark then s.changePump n (Pump.enter .stopping)
      else if p.fault then s.faultPump n .faultInput
      else if p.feedback then s.changePump n (Pump.enter .running)
      else if p.timedOut p.cfg.startTimeout then s.faultPump n .startTimeout
      else s
    | .running =>
      if p.mark then s.changePump n (Pump.enter .stopping)
      else if p.fault then s.faultPump n .faultInput
      else if !p.feedback then s.faultPump n .feedbackLost
      else s
    | .stopping =>
      if p.fault then s.faultPump n .faultInput
      else if !p.feedback then
        s.changePump n fun p => { p.enter (if p.mark then .lockedOut else .idle) with mark := false }
      else if p.timedOut p.cfg.stopTimeout then s.faultPump n .stopTimeout
      else s
    | .idle => if p.fault then s.faultPump n .faultInput else s
    | .queued => if p.fault then s.faultPump n .faultInput else s
    | .lockedOut => s
    | .fault => s

/-! ### Suspension (R112) -/

/-- The suspension condition: the site stop latch set, or the basin level LOW (R112). -/
def State.suspensionHolds (s : State) : Bool := s.site.stopLatch || decide (s.site.level = .low)

/-- One pump at the entry into suspension (R112). -/
def State.suspendPump (n : Nat) (s : State) : State :=
  match (s.pump n).state with
  | .queued => (s.unqueue n).changePump n (Pump.enter .idle)
  | .starting => s.changePump n (Pump.enter .stopping)
  | .running => s.changePump n (Pump.enter .stopping)
  | _ => s

/-- The suspension stage of an update (R112). -/
def State.suspension (s : State) : State :=
  if s.suspensionHolds then
    if s.pumps.suspended then s
    else
      let s := forEach (List.range 16) State.suspendPump s
      { s with pumps := { s.pumps with
          suspended := true, manifolds := s.pumps.manifolds.map fun m => { m with destage := none } } }
  else { s with pumps := { s.pumps with suspended := false } }

/-! ### Staging (R113 to R118) -/

/-- The needed flow of a manifold (R113). -/
def Manifold.neededFlow (m : Manifold) : Nat := ceilDiv (max m.demand m.forecast * (1000 + m.cfg.headroom)) 1000

/-- The present pumps of a manifold in ascending rank (R101, R106). -/
def State.pumpsOf (s : State) (m : Nat) : List Nat :=
  sortByKey (fun n => (s.pump n).cfg.rank)
    ((List.range 16).filter fun n => (s.pump n).cfg.present && decide ((s.pump n).cfg.manifold = m))

/-- A pump is available: not in FAULT or LOCKED_OUT (R114). -/
def Pump.available (p : Pump) : Bool := p.state ≠ .fault && p.state ≠ .lockedOut

/-- The shortest leading part of a list of pumps whose rated flows sum to at least `need`, or the whole list
(R114). -/
def State.leadingPart (s : State) : Nat → List Nat → List Nat
  | 0, _ => []
  | _, [] => []
  | need + 1, n :: rest => n :: s.leadingPart (need + 1 - (s.pump n).cfg.rated) rest

/-- The target set of a manifold for a needed flow (R114). -/
def State.targetSet (s : State) (m need : Nat) : List Nat :=
  s.leadingPart need ((s.pumpsOf m).filter fun n => (s.pump n).available)

/-- N and the target set of a manifold, formed afresh (R113, R114). -/
def State.stageTargets (m : Nat) (s : State) : State :=
  let need := (s.manifold m).neededFlow
  let targets := s.targetSet m need
  s.modifyManifold m fun x => { x with needed := need, targets := targets }

/-- The pumps that are STOPPING; the update that finds one of them stopped leaves it IDLE, and the next update queues
it (R109, R114). -/
def State.stoppingPumps (s : State) : List Nat :=
  (List.range 16).filter fun n => decide ((s.pump n).state = .stopping)

/-- An IDLE pump joins the tail of the start queue (R115), unless it was STOPPING when this update began: R114 says that
the update after it stops finds it IDLE in the set and queues it, where R106 and R115 could be read as queueing it at
once (DEDUCED, log entry 33). -/
def State.joinQueue (stopped : List Nat) (n : Nat) (s : State) : State :=
  if (s.pump n).state = .idle ∧ n ∉ stopped then
    ({ s with pumps := { s.pumps with queue := s.pumps.queue ++ [n] } }).changePump n (Pump.enter .queued)
  else s

/-- A QUEUED pump outside the target set leaves the queue (R116). -/
def State.cancelOutside (targets : List Nat) (n : Nat) (s : State) : State :=
  if (s.pump n).state = .queued ∧ n ∉ targets then (s.unqueue n).changePump n (Pump.enter .idle) else s

/-- The pumps of a manifold that run or start but lie outside its target set, in ascending rank (R117). -/
def State.outside (s : State) (m : Nat) : List Nat :=
  (s.pumpsOf m).filter fun n =>
    decide (n ∉ (s.manifold m).targets) && ((s.pump n).state = .starting || (s.pump n).state = .running)

/-- The RUNNING pump outside the target set with the largest rank (R117). -/
def State.destageVictim (s : State) (m : Nat) : Option Nat :=
  ((s.outside m).filter fun n => decide ((s.pump n).state = .running)).getLast?

/-- The destage timer of a manifold set. -/
def State.setDestage (m : Nat) (t : Option Nat) (s : State) : State :=
  s.modifyManifold m fun x => { x with destage := t }

/-- The pump a manifold destages now (R117): its timer runs and has reached the delay, a pump stands to be stopped, and
staging is not suspended. -/
def State.destageNext (s : State) (m : Nat) : Option Nat :=
  match (s.manifold m).destage with
  | some n =>
    if s.pumps.suspended = false ∧ periodsOfMs (s.manifold m).cfg.destage ≤ n then
      s.destageVictim m
    else none
  | none => none

/-- A destage: pump `p` stops and the timer restarts from 0 (R117). -/
def State.destagePump (m p : Nat) (s : State) : State :=
  (s.changePump p (Pump.enter .stopping)).setDestage m (some 0)

/-- The destage timer of a manifold at an update (R117). -/
def State.stageDestage (m : Nat) (s : State) : State :=
  if s.outside m = [] then s.setDestage m none
  else match (s.manifold m).destage with
    | none => s.setDestage m (some 0)
    | some _ =>
      match s.destageNext m with
      | some p => s.destagePump m p
      | none => s

/-- The RUNNING pumps of a manifold. -/
def State.runningOf (s : State) (m : Nat) : List Nat :=
  (List.range 16).filter fun n =>
    (s.pump n).cfg.present && decide ((s.pump n).cfg.manifold = m) && decide ((s.pump n).state = .running)

/-- The common speed target σ of a manifold (R118). -/
def State.commonSpeed (s : State) (m : Nat) : Nat :=
  let r := ((s.runningOf m).map fun n => (s.pump n).cfg.rated).sum
  if r = 0 then 0 else min 1000 (ceilDiv ((s.manifold m).needed * 1000) r)

/-- A speed command moved toward its target by at most a step (R118). -/
def moveSpeed (command target step : Nat) : Nat :=
  if command + step < target then command + step
  else if target + step < command then command - step
  else target

/-- A RUNNING pump's speeds at an update with common target σ (R118). -/
def Pump.ramp (sigma : Nat) (p : Pump) : Pump :=
  let t := max sigma p.cfg.minSpeed
  { p with target := t, command := moveSpeed p.command t (ceilDiv p.cfg.ramp 10) }

/-- The speeds of a manifold's RUNNING pumps (R118). -/
def State.stageSpeeds (m : Nat) (s : State) : State :=
  forEach (s.runningOf m) (fun n s' => s'.modifyPump n (Pump.ramp (s.commonSpeed m))) s

/-- The queue changes of a manifold's staging: pumps of the set join, pumps outside it leave (R115, R116). -/
def State.stageQueue (stopped : List Nat) (m : Nat) (s : State) : State :=
  let targets := (s.manifold m).targets
  let s := if s.pumps.suspended then s else forEach targets (State.joinQueue stopped) s
  forEach (s.pumpsOf m) (State.cancelOutside targets) s

/-- The staging of one manifold (R113 to R118), at an update that began with the pumps `stopped` STOPPING. -/
def State.stage (stopped : List Nat) (m : Nat) (s : State) : State :=
  let s := (s.stageTargets m).stageQueue stopped m
  let s := if s.pumps.suspended then s else s.stageDestage m
  s.stageSpeeds m

/-! ### Start arbitration and publication (R119, R120) -/

/-- The start interval has passed since the last grant, or no grant has been made (R119). -/
def State.intervalPassed (s : State) : Bool :=
  match s.pumps.lastGrant with
  | none => true
  | some g => decide (periodsOfMs s.pumps.startInterval ≤ (s.timer.device - g).toNat)

/-- The STARTING pump of the site, if any (R119, R125). -/
def State.startingPump (s : State) : Option Nat :=
  (List.range 16).find? fun n => decide ((s.pump n).state = .starting)

/-- The pump the site start arbiter grants now: the head of the queue, when its three conditions hold and staging is
not suspended (R119). -/
def State.grantNext (s : State) : Option Nat :=
  if s.pumps.suspended = false ∧ s.startingPump = none ∧ s.intervalPassed = true then
    s.pumps.queue.head?
  else none

/-- A grant: pump `n` leaves the head of the queue and becomes STARTING, and the time is recorded (R119). -/
def State.grantPump (n : Nat) (s : State) : State :=
  ({ s with pumps := { s.pumps with queue := s.pumps.queue.tail, lastGrant := some s.timer.device } }).changePump n
    (Pump.enter .starting)

/-- The start arbitration stage: at most one grant (R119). -/
def State.grant (s : State) : State :=
  match s.grantNext with
  | some n => s.grantPump n
  | none => s

/-- The supply a manifold's RUNNING pumps deliver (R120). -/
def State.supplyOf (s : State) (m : Nat) : Nat :=
  ((s.runningOf m).map fun n => (s.pump n).cfg.rated * (s.pump n).command / 1000).sum

/-- Publication of every manifold's supply (R120). -/
def State.publish (s : State) : State :=
  { s with pumps := { s.pumps with manifolds := s.pumps.manifolds.zipIdx.map fun mi =>
      { mi.1 with supply := s.supplyOf mi.2 } } }

/-! ### The pump update (R106) -/

/-- The first three stages of a pump update: sample, input transitions and suspension (Table 5-5). -/
def State.updateInputs (s : State) : State :=
  (forEach (List.range 16) State.examine s.samplePumps).suspension

/-- A pump update up to the end of its staging stage (Table 5-5). -/
def State.updateStaged (s : State) : State :=
  forEach (List.range 8) (State.stage s.stoppingPumps) s.updateInputs

/-- A pump update, taken whole, its stages in the order of Table 5-5 (R106). -/
def State.pumpUpdate (s : State) : State := s.updateStaged.grant.publish

/-- The pump update just reached, if it has not been taken yet. -/
def State.takePumps (s : State) : State :=
  if s.due.pump then s.pumpUpdate.modifyDue fun d => { d with pump := false } else s

/-- PUMP_UPDATE (R106). -/
def execPumpUpdate (s : State) : Host.Outcome State Fault Refusal := done s.takePumps

/-! ### The rows inside the update

R106 takes an update whole. PUMP_START_TIMEOUT, PUMP_STOP_TIMEOUT, DESTAGE and START_GRANT are rows of their own, and
each stands for the update at which its transition happens: it takes the outstanding update, whole, when that update
makes the transition it names, and otherwise changes nothing and leaves the update to its own row (DESIGN CHOICE, log
entry 4). -/

/-- The outstanding update, taken whole when it makes a transition (R106, log entry 4). -/
def State.takePumpsIf (makes : Bool) (s : State) : State := if s.due.pump && makes then s.takePumps else s

/-- PUMP_START_TIMEOUT: the update at which pump `n` is found STARTING with its start timeout used up (R107 case 4). -/
def execPumpStartTimeout (n : Fin 16) (s : State) : Host.Outcome State Fault Refusal :=
  let p := s.samplePumps.pump n
  done (s.takePumpsIf (p.cfg.present && p.startTimedOut))

/-- PUMP_STOP_TIMEOUT: the update at which pump `n` is found STOPPING with its stop timeout used up (R109 case 3). -/
def execPumpStopTimeout (n : Fin 16) (s : State) : Host.Outcome State Fault Refusal :=
  let p := s.samplePumps.pump n
  done (s.takePumpsIf (p.cfg.present && p.stopTimedOut))

/-- DESTAGE: the update at which manifold `m`, on the target set that the update itself forms, stops a pump (R117). -/
def execDestage (m : Fin 8) (s : State) : Host.Outcome State Fault Refusal :=
  done (s.takePumpsIf ((s.updateInputs.stageTargets m).destageNext m).isSome)

/-- START_GRANT: the update at which the site start arbiter, once staging is done, grants the head of the queue
(R119). -/
def execStartGrant (s : State) : Host.Outcome State Fault Refusal :=
  done (s.takePumpsIf s.updateStaged.grantNext.isSome)

/-! ### Configuration (R100, R102, R103) -/

/-- MANIFOLD_SET (R100). -/
def handleManifoldSet (p : ManifoldSetParams) : Handler := fun s =>
  checked
    (configChecks s ++
     [(decide (7 < p.manifold.toNat) || decide (10000 < p.lead.toNat) || decide (500 < p.headroom.toNat)
        || decide (60000 < p.destage.toNat), .badParam)])
    (accept fun s => s.modifyManifold p.manifold.toNat fun m =>
      { m with cfg := ⟨p.lead.toNat, p.headroom.toNat, p.destage.toNat⟩ }) s

/-- MANIFOLD_SET configures a manifold (R100). -/
def execManifoldSet (p : ManifoldSetParams) (s : State) : Host.Outcome State Fault Refusal :=
  done (takeCommand (handleManifoldSet p) s)

/-- Field ranges of a present pump (R102 step 4). -/
def pumpFieldsBad (p : PumpSetParams) : Bool :=
  decide (7 < p.manifold.toNat) || decide (15 < p.rank.toNat)
    || decide (p.rated.toNat = 0 ∨ 20000 < p.rated.toNat)
    || decide (p.minSpeed.toNat < 100 ∨ 900 < p.minSpeed.toNat) || decide (p.ramp.toNat < 10 ∨ 1000 < p.ramp.toNat)
    || decide (p.startTimeout.toNat < 500 ∨ 30000 < p.startTimeout.toNat)
    || decide (p.stopTimeout.toNat < 500 ∨ 60000 < p.stopTimeout.toNat)

/-- Whether another present pump of a manifold has a rank (R102 step 6). -/
def State.rankTaken (s : State) (n m rank : Nat) : Bool :=
  (List.range 16).any fun k =>
    decide (k ≠ n) && (s.pump k).cfg.present
      && decide ((s.pump k).cfg.manifold = m ∧ (s.pump k).cfg.rank = rank)

/-- The configuration a PUMP_SET gives: with present no the fields after it are not read (R102, R203). -/
def pumpConfigOf (p : PumpSetParams) (old : PumpConfig) : PumpConfig :=
  if p.present = 1 then
    ⟨true, p.manifold.toNat, p.rank.toNat, p.rated.toNat, p.minSpeed.toNat, p.ramp.toNat, p.startTimeout.toNat,
      p.stopTimeout.toNat⟩
  else { old with present := false }

/-- PUMP_SET (R102). -/
def handlePumpSet (p : PumpSetParams) : Handler := fun s =>
  let n := p.pump.toNat
  let present := decide (p.present = 1)
  checked
    (configChecks s ++
     [(decide (15 < n) || (yesNoOf p.present).isNone, .badParam),
      (present && pumpFieldsBad p, .badParam),
      (decide ((s.pump n).state ≠ .lockedOut), .wrongState),
      (present && s.rankTaken n p.manifold.toNat p.rank.toNat, .badParam)])
    (accept fun s => s.modifyPump n fun x => { x with cfg := pumpConfigOf p x.cfg, cause := .none }) s

/-- PUMP_SET configures a LOCKED_OUT pump (R102). -/
def execPumpSet (p : PumpSetParams) (s : State) : Host.Outcome State Fault Refusal :=
  done (takeCommand (handlePumpSet p) s)

/-- START_SET (R103). -/
def handleStartSet (interval : Half) : Handler := fun s =>
  checked (configChecks s ++ [(decide (30000 < interval.toNat), .badParam)])
    (accept fun s => { s with pumps := { s.pumps with startInterval := interval.toNat } }) s

/-- START_SET sets the site start interval (R103). -/
def execStartSet (interval : Half) (s : State) : Host.Outcome State Fault Refusal :=
  done (takeCommand (handleStartSet interval) s)

/-! ### Commands on pump states (R121 to R123) -/

/-- The reply of the three commands: state and lockout mark after the command (section 5.4). -/
def pumpStateReport (n : Nat) (s : State) : List Byte := put1 (s.pump n).state.code ++ putFlag (s.pump n).mark

/-- The effect of PUMP_LOCKOUT on a pump, by its state (R121). -/
def State.lockOut (n : Nat) (s : State) : State :=
  match (s.pump n).state with
  | .idle => s.changePump n (Pump.enter .lockedOut)
  | .queued => (s.unqueue n).changePump n (Pump.enter .lockedOut)
  | .starting => s.modifyPump n fun p => { p with mark := true }
  | .running => s.modifyPump n fun p => { p with mark := true }
  | .stopping => s.modifyPump n fun p => { p with mark := true }
  | .fault => s.changePump n fun p => { p.enter .lockedOut with cause := .none }
  | .lockedOut => s

/-- PUMP_LOCKOUT (R121). -/
def handlePumpLockout (n : Byte) : Handler := fun s =>
  checked [(decide (15 < n.toNat), .badParam)] (accept (State.lockOut n.toNat) (pumpStateReport n.toNat)) s

/-- PUMP_LOCKOUT locks a pump out at once or marks it (R121). -/
def execPumpLockout (n : Byte) (s : State) : Host.Outcome State Fault Refusal :=
  done (takeCommand (handlePumpLockout n) s)

/-- A pump's fault input or running feedback is active as it stands (R122, R123). -/
def State.channelActive (s : State) (n : Nat) : Bool := s.pins.fault.getLsbD n || s.pins.feedback.getLsbD n

/-- PUMP_RELEASE (R122). -/
def handlePumpRelease (n : Byte) : Handler := fun s =>
  checked
    [(decide (15 < n.toNat), .badParam),
     (decide ((s.pump n.toNat).state ≠ .lockedOut) || !(s.pump n.toNat).cfg.present, .wrongState),
     (s.channelActive n.toNat, .notReleasable)]
    (accept (State.changePump n.toNat (Pump.enter .idle)) (pumpStateReport n.toNat)) s

/-- PUMP_RELEASE returns a LOCKED_OUT pump to IDLE (R122). -/
def execPumpRelease (n : Byte) (s : State) : Host.Outcome State Fault Refusal :=
  done (takeCommand (handlePumpRelease n) s)

/-- PUMP_CLEAR (R123). -/
def handlePumpClear (n : Byte) : Handler := fun s =>
  checked
    [(decide (15 < n.toNat), .badParam),
     (decide ((s.pump n.toNat).state ≠ .fault), .wrongState),
     (s.channelActive n.toNat, .notReleasable)]
    (accept (State.changePump n.toNat fun p => { p.enter .idle with cause := .none }) (pumpStateReport n.toNat)) s

/-- PUMP_CLEAR returns a FAULT pump to IDLE (R123). -/
def execPumpClear (n : Byte) (s : State) : Host.Outcome State Fault Refusal :=
  done (takeCommand (handlePumpClear n) s)

/-! ### Queries (R124, R125) -/

/-- Whether the run output of a pump is on (R104). -/
def Pump.runOutput (p : Pump) : Bool := p.state = .starting || p.state = .running

/-- The speed reference of a pump (R104). -/
def Pump.speedReference (p : Pump) : Nat := if p.runOutput then p.command else 0

/-- The state timer PUMP_QUERY reports, in milliseconds (R124). -/
def Pump.timerMs (p : Pump) : Nat := if p.state = .starting ∨ p.state = .stopping then p.timer / 48 else 0

/-- The payload of PUMP_QUERY (R124). Table 12-2 names no kind for a place in the start queue; the model gives it as
an optional one-byte field, a place being 0..15 (DEDUCED, log entry 11). -/
def pumpReport (s : State) (n : Nat) : List Byte :=
  let p := s.pump n
  putFlag p.cfg.present ++ put1 p.cfg.manifold ++ put1 p.cfg.rank ++ put2 p.cfg.rated ++ put2 p.cfg.minSpeed
    ++ put2 p.cfg.ramp ++ put2 p.cfg.startTimeout ++ put2 p.cfg.stopTimeout
    ++ put1 p.state.code ++ putFlag p.mark ++ put1 p.cause.code ++ putFlag p.runOutput
    ++ put2 p.command ++ put2 p.target ++ putFlag p.feedback ++ putFlag p.fault ++ put4 p.timerMs
    ++ putOptional1 (s.pumps.queue.idxOf? n)

/-- PUMP_QUERY (R124). -/
def handlePumpQuery (n : Byte) : Handler := fun s =>
  checked [(decide (15 < n.toNat), .badParam)] (accept id fun s => pumpReport s n.toNat) s

/-- PUMP_QUERY reports a pump (R124). -/
def execPumpQuery (n : Byte) (s : State) : Host.Outcome State Fault Refusal :=
  done (takeCommand (handlePumpQuery n) s)

/-- The payload of MANIFOLD_QUERY (R125). The spec gives a stopped destage timer no count; the model reports an elapsed
count of 0 for it (DESIGN CHOICE, log entry 24). -/
def manifoldReport (s : State) (m : Nat) : List Byte :=
  let x := s.manifold m
  put2 x.cfg.lead ++ put2 x.cfg.headroom ++ put2 x.cfg.destage ++ put4 x.demand ++ put4 x.forecast
    ++ put4 x.needed ++ putList put1 x.targets ++ put4 x.supply
    ++ putFlag x.destage.isSome ++ put4 (x.destage.getD 0 / 48)
    ++ put2 s.pumps.startInterval ++ putFlag s.pumps.suspended ++ putFlag s.intervalPassed
    ++ putSmall? s.startingPump ++ putList put1 s.pumps.queue

/-- MANIFOLD_QUERY (R125). -/
def handleManifoldQuery (m : Byte) : Handler := fun s =>
  checked [(decide (7 < m.toNat), .badParam)] (accept id fun s => manifoldReport s m.toNat) s

/-- MANIFOLD_QUERY reports a manifold and the site start figures (R125). -/
def execManifoldQuery (m : Byte) (s : State) : Host.Outcome State Fault Refusal :=
  done (takeCommand (handleManifoldQuery m) s)

end Sys2Proof.Machine
end

