-- ==== Sys2Proof/Machine/Store.lean ====
section
/-! DEFINITION. The Configuration Store and start-up (chapter 11). -/

namespace Sys2Proof.Machine

/-! ### Saving (R199, R200) -/

/-- Every item of Table 11-1 as it stands in its owning block (R200). -/
def State.siteConfig (s : State) : SiteConfig where
  nozzles := s.nozzles.table.map (·.cfg)
  manifolds := s.pumps.manifolds.map (·.cfg)
  pumps := s.pumps.table.map (·.cfg)
  startInterval := s.pumps.startInterval
  zones := s.site.zones.map (·.cfg)
  factor := s.site.factor
  decay := s.site.decay
  fixtures := s.lights.table.map (·.cfg)
  lines := s.lines.map (·.cfg)
  timeout := s.link.timeout
  storedFade := s.timer.storedFade

/-- The image is valid: its marker is present and its check value matches (R199). -/
def ConfigStore.valid (c : ConfigStore) : Bool := c.marker && c.checkMatches

/-- STORE_SAVE (R200). -/
def handleStoreSave : Handler := fun s =>
  checked (configChecks s)
    (accept fun s => { s with store := { s.store with
      snapshot := s.siteConfig, marker := false, saving := true, count := 0 } }) s

/-- STORE_SAVE begins a save (R200). -/
def execStoreSave (s : State) : Host.Outcome State Fault Refusal := done (takeCommand handleStoreSave s)

/-- Sample periods a save takes (R200). -/
def savePeriods : Nat := 43200

/-- Completion of a save: the image holds the snapshot and its check value, the marker is written last, and
STORE_DONE is raised (R200). -/
def State.takeSave (s : State) : State :=
  if s.store.saving && decide (savePeriods ≤ s.store.count) then
    ({ s with store := { s.store with
      image := s.store.snapshot, marker := true, checkMatches := true, saving := false, count := 0 } }).raise .storeDone
  else s

/-- SAVE_COMPLETION (R200). -/
def execSaveCompletion (s : State) : Host.Outcome State Fault Refusal := done s.takeSave

/-- The payload of STORE_QUERY (R202). R202 rounds the time until completion up, where Table 12-2 calls a time to
completion floored; the model follows R202, which owns the value (DEDUCED, log entry 34). -/
def storeReport (s : State) : List Byte :=
  putFlag s.store.saving
    ++ put4 (if s.store.saving then ceilDiv (savePeriods - s.store.count) 48 else 0)
    ++ putFlag s.store.valid
    ++ put1 (if s.store.loadedValid then 0 else 1)

/-- STORE_QUERY (R202). -/
def handleStoreQuery : Handler := accept id storeReport

/-- STORE_QUERY reports the Configuration Store (R202). -/
def execStoreQuery (s : State) : Host.Outcome State Fault Refusal := done (takeCommand handleStoreQuery s)

/-! ### Start-up (R201) -/

/-- The items start-up loads: those of a valid image, else the site defaults (R201 step 1). -/
def ConfigStore.loaded (c : ConfigStore) : SiteConfig := if c.valid then c.image else SiteConfig.defaults

/-- The claims of the present nozzles of a configuration on line `l` (R166). -/
def nozzleClaimsOn (l : Nat) (ns : List NozzleConfig) : Claims :=
  ns.zipIdx.flatMap fun ci => if ci.1.present ∧ ci.1.line = l then valveClaims ci.2 ci.1 else []

/-- The claims of the present fixtures of a configuration on line `l` (R166). -/
def fixtureClaimsOn (l : Nat) (fs : List FixtureConfig) : Claims :=
  fs.zipIdx.flatMap fun ci => if ci.1.present ∧ ci.1.line = l then fixtureClaims ci.2 ci.1 else []

/-- A line at the end of start-up: its owner map built (R201 step 2) and, when configured and enabled, in its first
frame (R163, R201 step 4). -/
def startLine (c : SiteConfig) (l : Nat) (lc : LineConfig) : Line :=
  let line := (Line.off lc).claim (nozzleClaimsOn l c.nozzles ++ fixtureClaimsOn l c.fixtures)
  if lc.enabled ∧ lc.slots ≠ 0 then line.startFrame else line

/-- The state start-up leaves on a part whose Configuration Store is `store` (R201, with the full-reset rule of each
block). Sample memory is forgotten (log entry 10). -/
def startUp (store : ConfigStore) : State :=
  let c := store.loaded
  { pending := []
    due := Due.none
    pins := Inputs.idle
    timer := ⟨.stopped, 0, 0, none, none, c.storedFade⟩
    effects := ⟨List.replicate 256 EffectSlot.blank, List.replicate 64 Group.blank, 0, 0⟩
    nozzles := ⟨c.nozzles.map fun n => ⟨n, NozzleLive.zero⟩, List.replicate 8 FrameRecord.blank, 0⟩
    pumps := ⟨c.manifolds.map fun m => ⟨m, 0, 0, 0, [], 0, none⟩, c.pumps.map Pump.fresh, [], c.startInterval, none,
      true, 0⟩
    site := ⟨c.zones.map Zone.fresh, 0, none, 0, 0, c.factor, c.decay, List.replicate 8 ⟨false, 0⟩, false, .low, 0, 0⟩
    lights := ⟨c.fixtures.map fun f => ⟨f, ⟨0, 0, 0, 0⟩, none, zeroValues f⟩, 65535, 0⟩
    lines := c.lines.zipIdx.map fun li => startLine c li.2 li.1
    clips := ⟨List.replicate 64 ClipSlot.blank, List.replicate 2048 none, []⟩
    decks := ⟨List.replicate 2 Deck.blank, 32768, 32768, 83886, 0, 0, Stereo.zero⟩
    link := ⟨false, [], none, none, 0, none, 0, ⟨0, 0, .ok⟩, 0, c.timeout, none, none⟩
    store := ⟨store.image, store.marker, store.checkMatches, false, 0, SiteConfig.defaults, store.valid⟩ }

/-- FULL_RESET: power-on or the reset pin, then start-up (R201). The commands that wait in the queue stay (log
entry 27). -/
def execFullReset (s : State) : Host.Outcome State Fault Refusal := done { startUp s.store with pending := s.pending }

end Sys2Proof.Machine
end

