-- ==== Sys2Proof/Machine/Period.lean ====
section
/-! DEFINITION. The sample period (R1): what is outstanding from the last boundary is settled, the decks and the
mixer do their part, the inputs are sampled, every count advances and the boundaries reached are noted. -/

namespace Sys2Proof.Machine

/-! ### Settling what is outstanding (R2, log entry 3) -/

/-- Every event of the last boundary and of the end of the last period that no command has taken yet, in the order
of log entry 3. -/
def State.settle (s : State) : State :=
  let s := forEach (List.range 4) State.takeGapEnd s
  let s := s.takeEnvelope
  let s := forEach (List.range 8) State.takePresence s
  let s := s.takeStop
  let s := s.takeLevelLow.takeLevelRestored
  let s := s.takeSilence.takeEndTime
  let s := s.takeEffects
  let s := s.takeWind
  let s := s.takePumps
  let s := s.takeJet.takeLight
  s.takeSave

/-! ### Sampling the inputs (R131, R137, R140, R142) -/

/-- The pulse count after a sample of the anemometer (R131). -/
def countPulse (previous : Option Bool) (level : Bool) (pulses : Nat) : Nat :=
  if previous = some false ∧ level = true then min 65535 (pulses + 1) else pulses

/-- A presence input after a sample (R137). -/
def PresenceInput.sample (level : Bool) (p : PresenceInput) : PresenceInput :=
  { p with count := if level = p.debounced then 0 else p.count + 1 }

/-- The level count after a sample of the basin input (R142). -/
def countLevel (state : LevelState) (low : Bool) (count : Nat) : Nat :=
  match state with
  | .ok => if low then count + 1 else 0
  | .low => if low then 0 else count + 1

/-- The inputs of a sample period taken in. -/
def State.sampleInputs (i : Inputs) (s : State) : State :=
  { s with
    due := { s.due with stop := s.due.stop || (i.stop && !s.pins.stop) }
    site := { s.site with
      pulses := countPulse s.site.lastAnemometer i.anemometer s.site.pulses
      lastAnemometer := some i.anemometer
      presence := s.site.presence.zipIdx.map fun pk => pk.1.sample (i.presence.getLsbD pk.2)
      levelCount := countLevel s.site.level i.basinLow s.site.levelCount }
    pins := i }

/-! ### Counting the period (R1, R2, R3) -/

/-- A phase count one sample period on (R2). -/
def nextPhase (interval phase : Nat) : Nat := if phase + 1 = interval then 0 else phase + 1

/-- A pump's state timer one sample period on (R107, R109). -/
def Pump.count (p : Pump) : Pump :=
  if p.state = .starting ∨ p.state = .stopping then { p with timer := p.timer + 1 } else p

/-- A manifold's destage timer one sample period on (R117). -/
def Manifold.count (m : Manifold) : Manifold := { m with destage := m.destage.map (· + 1) }

/-- A line one sample period on: 1000 system clocks (R160). -/
def Line.count (l : Line) : Line := if l.sending then { l with clocks := l.clocks + 1000 } else l

/-- The show clock at the end of a sample period (R3). -/
def ShowTimer.count (t : ShowTimer) : ShowTimer :=
  { t with
    device := t.device + 1
    clock := match t.showState with
      | .running => t.clock + 1
      | .ending => t.clock + 1
      | .held => t.clock
      | .stopped => 0 }

/-- Every count of the part one sample period on: the clocks, the timers and the phase counts, with the boundaries
reached noted as outstanding (R1, R2, R3, R16, R200). -/
def State.countPeriod (s : State) : State :=
  let jet := nextPhase 480 s.nozzles.phase
  let light := nextPhase 960 s.lights.phase
  let pump := nextPhase 4800 s.pumps.phase
  let wind := nextPhase 48000 s.site.phase
  { s with
    timer := s.timer.count
    nozzles := { s.nozzles with phase := jet }
    lights := { s.lights with phase := light }
    pumps := { s.pumps with
      phase := pump, table := s.pumps.table.map Pump.count, manifolds := s.pumps.manifolds.map Manifold.count }
    site := { s.site with phase := wind }
    lines := s.lines.map Line.count
    link := { s.link with silence := if s.silenceCounts then s.link.silence + 1 else s.link.silence }
    store := { s.store with count := if s.store.saving then s.store.count + 1 else s.store.count }
    due := { s.due with
      envelope := s.due.envelope || decide (jet = 0), effects := s.due.effects || decide (jet = 0)
      jet := s.due.jet || decide (jet = 0), light := s.due.light || decide (light = 0)
      pump := s.due.pump || decide (pump = 0), wind := s.due.wind || decide (wind = 0)
      decksDone := false } }

/-- A sample period (R1). -/
def State.samplePeriod (i : Inputs) (s : State) : State :=
  let s := s.settle.takeDeckPeriod.mix
  let s := forEach [0, 1] State.takeDeckStop s
  (s.sampleInputs i).countPeriod

/-- SAMPLE_PERIOD (R1). -/
def execSamplePeriod (i : Inputs) (s : State) : Host.Outcome State Fault Refusal := done (s.samplePeriod i)

end Sys2Proof.Machine
end

