-- ==== Sys2Proof/Machine/Packets.lean ====
section
/-! DEFINITION. The packets of the command pipe (R189, R191): COMMAND_PACKET, and which handler owns each command that
a transfer can carry (Table 10-5). -/

namespace Sys2Proof.Machine

/-- The handler that owns a command (Table 10-5); `none` for a row that is no command message. -/
def handlerOf : Instr → Option Handler
  | .showStart => some handleShowStart
  | .showHold => some handleShowHold
  | .showResume => some handleShowResume
  | .showEnd fade => some (handleShowEnd fade)
  | .showStop => some handleShowStop
  | .tempoSet period anchor => some (handleTempoSet period anchor)
  | .showQuery => some handleShowQuery
  | .effectAdd params => some (handleEffectAdd params)
  | .effectEdit handle timing atTime present values => some (handleEffectEdit handle timing atTime present values)
  | .effectRetire handle mode => some (handleEffectRetire handle mode)
  | .effectQuery handle => some (handleEffectQuery handle)
  | .groupDefine group kind members => some (handleGroupDefine group kind members)
  | .groupQuery group => some (handleGroupQuery group)
  | .nozzleSet params => some (handleNozzleSet params)
  | .nozzleQuery nozzle => some (handleNozzleQuery nozzle)
  | .manifoldSet params => some (handleManifoldSet params)
  | .manifoldQuery manifold => some (handleManifoldQuery manifold)
  | .pumpSet params => some (handlePumpSet params)
  | .pumpQuery pump => some (handlePumpQuery pump)
  | .pumpRelease pump => some (handlePumpRelease pump)
  | .pumpLockout pump => some (handlePumpLockout pump)
  | .pumpClear pump => some (handlePumpClear pump)
  | .startSet interval => some (handleStartSet interval)
  | .zoneSet params => some (handleZoneSet params)
  | .zoneCap zone cap => some (handleZoneCap zone cap)
  | .zoneRelease zone => some (handleZoneRelease zone)
  | .siteRelease => some handleSiteRelease
  | .windSet factor decay => some (handleWindSet factor decay)
  | .siteQuery zone => some (handleSiteQuery zone)
  | .fixtureSet params => some (handleFixtureSet params)
  | .fixtureQuery fixture => some (handleFixtureQuery fixture)
  | .lightMaster level => some (handleLightMaster level)
  | .lineSet params => some (handleLineSet params)
  | .lineQuery line first count => some (handleLineQuery line first count)
  | .clipCreate channels length => some (handleClipCreate channels length)
  | .clipRetire handle => some (handleClipRetire handle)
  | .clipQuery handle => some (handleClipQuery handle)
  | .deckCue deck handle cue => some (handleDeckCue deck handle cue)
  | .deckStart deck startCode start => some (handleDeckStart deck startCode start)
  | .deckStop deck ramp => some (handleDeckStop deck ramp)
  | .deckGain deck target ramp => some (handleDeckGain deck target ramp)
  | .deckQuery deck => some (handleDeckQuery deck)
  | .audioSet master decay => some (handleAudioSet master decay)
  | .linkSet mask timeout fade => some (handleLinkSet mask timeout fade)
  | .linkQuery => some handleLinkQuery
  | .storeSave => some handleStoreSave
  | .storeQuery => some handleStoreQuery
  | _ => none

/-- The longest command message (R192). -/
def messageLimit : Nat := 512

/-- The handler of a transfer that has ended: the owner of the command it carries, or the refusal of the framing checks
(R192). -/
def handlerOfTransfer (transfer : List Byte) : Handler :=
  match frameTransfer transfer with
  | .command c => (handlerOf c).getD (refuse .unknownCommand)
  | .unknownCommand => refuse .unknownCommand
  | .badLength => refuse .badLength

/-- Whether the command pipe accepts a packet (R190, R191): on an ATTACHED link, one of a transfer in progress always,
a first packet while fewer than four places are held. A packet holds at most 64 bytes (R189). -/
def acceptsPacket (packet : List Byte) (s : State) : Bool :=
  s.link.attached && decide (packet.length ≤ packetSize)
    && (s.link.transfer.isSome || decide (placesHeld s.link < 4))

/-- COMMAND_PACKET: a packet of the command pipe arrives (R189, R191). The first of a transfer holds a place in the
reply queue, or is refused; a further one joins the transfer; the short packet ends it, and it is taken. -/
def execCommandPacket (s : State) (packet : List Byte) : Host.Outcome State Fault Refusal :=
  done (if acceptsPacket packet s then
      let transfer := withPacket messageLimit s.link.transfer packet
      if isShort packet then dispatch (handlerOfTransfer transfer) s
      else { s with link := { s.link with transfer := some transfer } }
    else s)

end Sys2Proof.Machine
end

