-- ==== Sys2Proof/Machine/Dispatch.lean ====
section
/-! DEFINITION. The dispatch: one arm per command, each one call of its meaning. -/

namespace Sys2Proof.Machine

/-- The effect of a command on everything but the queue. -/
def exec (i : Instr) (s : State) : Host.Outcome State Fault Refusal :=
  match i with
  | .fullReset => Sys2Proof.Machine.execFullReset s
  | .linkAttach => Sys2Proof.Machine.execLinkAttach s
  | .linkReset => Sys2Proof.Machine.execLinkReset s
  | .samplePeriod inputs => Sys2Proof.Machine.execSamplePeriod inputs s
  | .commandPacket packet => Sys2Proof.Machine.execCommandPacket s packet
  | .malformedCommand transfer => Sys2Proof.Machine.execMalformedCommand transfer s
  | .replyPoll accepted => Sys2Proof.Machine.execReplyPoll accepted s
  | .noticePoll accepted => Sys2Proof.Machine.execNoticePoll accepted s
  | .clipBlock packets => Sys2Proof.Machine.execClipBlock packets s
  | .showStart => Sys2Proof.Machine.execShowStart s
  | .showHold => Sys2Proof.Machine.execShowHold s
  | .showResume => Sys2Proof.Machine.execShowResume s
  | .showEnd fade => Sys2Proof.Machine.execShowEnd fade s
  | .showStop => Sys2Proof.Machine.execShowStop s
  | .tempoSet period anchor => Sys2Proof.Machine.execTempoSet period anchor s
  | .showQuery => Sys2Proof.Machine.execShowQuery s
  | .endTimeReached => Sys2Proof.Machine.execEndTimeReached s
  | .silenceTimerExpiry => Sys2Proof.Machine.execSilenceTimerExpiry s
  | .effectAdd params => Sys2Proof.Machine.execEffectAdd params s
  | .effectEdit handle timing atTime present values => Sys2Proof.Machine.execEffectEdit handle timing atTime present values s
  | .effectRetire handle mode => Sys2Proof.Machine.execEffectRetire handle mode s
  | .effectQuery handle => Sys2Proof.Machine.execEffectQuery handle s
  | .groupDefine group kind members => Sys2Proof.Machine.execGroupDefine group kind members s
  | .groupQuery group => Sys2Proof.Machine.execGroupQuery group s
  | .effectBoundary => Sys2Proof.Machine.execEffectBoundary s
  | .pendingEditApplied slot => Sys2Proof.Machine.execPendingEditApplied slot s
  | .effectStartReached slot => Sys2Proof.Machine.execEffectStartReached slot s
  | .naturalEnd slot => Sys2Proof.Machine.execNaturalEnd slot s
  | .fadeComplete slot => Sys2Proof.Machine.execFadeComplete slot s
  | .jetFrame => Sys2Proof.Machine.execJetFrame s
  | .envelopeUpdate => Sys2Proof.Machine.execEnvelopeUpdate s
  | .lightComputation => Sys2Proof.Machine.execLightComputation s
  | .nozzleSet params => Sys2Proof.Machine.execNozzleSet params s
  | .nozzleQuery nozzle => Sys2Proof.Machine.execNozzleQuery nozzle s
  | .pumpUpdate => Sys2Proof.Machine.execPumpUpdate s
  | .pumpStartTimeout pump => Sys2Proof.Machine.execPumpStartTimeout pump s
  | .pumpStopTimeout pump => Sys2Proof.Machine.execPumpStopTimeout pump s
  | .destage manifold => Sys2Proof.Machine.execDestage manifold s
  | .startGrant => Sys2Proof.Machine.execStartGrant s
  | .manifoldSet params => Sys2Proof.Machine.execManifoldSet params s
  | .manifoldQuery manifold => Sys2Proof.Machine.execManifoldQuery manifold s
  | .pumpSet params => Sys2Proof.Machine.execPumpSet params s
  | .pumpQuery pump => Sys2Proof.Machine.execPumpQuery pump s
  | .pumpRelease pump => Sys2Proof.Machine.execPumpRelease pump s
  | .pumpLockout pump => Sys2Proof.Machine.execPumpLockout pump s
  | .pumpClear pump => Sys2Proof.Machine.execPumpClear pump s
  | .startSet interval => Sys2Proof.Machine.execStartSet interval s
  | .windGate => Sys2Proof.Machine.execWindGate s
  | .windHoldRelease zone => Sys2Proof.Machine.execWindHoldRelease zone s
  | .presenceDebounced input => Sys2Proof.Machine.execPresenceDebounced input s
  | .emergencyStopAssertion => Sys2Proof.Machine.execEmergencyStopAssertion s
  | .levelLow => Sys2Proof.Machine.execLevelLow s
  | .levelRestored => Sys2Proof.Machine.execLevelRestored s
  | .zoneSet params => Sys2Proof.Machine.execZoneSet params s
  | .zoneCap zone cap => Sys2Proof.Machine.execZoneCap zone cap s
  | .zoneRelease zone => Sys2Proof.Machine.execZoneRelease zone s
  | .siteRelease => Sys2Proof.Machine.execSiteRelease s
  | .windSet factor decay => Sys2Proof.Machine.execWindSet factor decay s
  | .siteQuery zone => Sys2Proof.Machine.execSiteQuery zone s
  | .fixtureSet params => Sys2Proof.Machine.execFixtureSet params s
  | .fixtureQuery fixture => Sys2Proof.Machine.execFixtureQuery fixture s
  | .lightMaster level => Sys2Proof.Machine.execLightMaster level s
  | .lineSet params => Sys2Proof.Machine.execLineSet params s
  | .lineQuery line first count => Sys2Proof.Machine.execLineQuery line first count s
  | .lineGapEnd line => Sys2Proof.Machine.execLineGapEnd line s
  | .clipCreate channels length => Sys2Proof.Machine.execClipCreate channels length s
  | .clipRetire handle => Sys2Proof.Machine.execClipRetire handle s
  | .clipQuery handle => Sys2Proof.Machine.execClipQuery handle s
  | .deckCue deck handle cue => Sys2Proof.Machine.execDeckCue deck handle cue s
  | .deckStart deck startCode start => Sys2Proof.Machine.execDeckStart deck startCode start s
  | .deckStop deck ramp => Sys2Proof.Machine.execDeckStop deck ramp s
  | .deckGain deck target ramp => Sys2Proof.Machine.execDeckGain deck target ramp s
  | .deckQuery deck => Sys2Proof.Machine.execDeckQuery deck s
  | .audioSet master decay => Sys2Proof.Machine.execAudioSet master decay s
  | .deckPeriod => Sys2Proof.Machine.execDeckPeriod s
  | .deckBegin deck => Sys2Proof.Machine.execDeckBegin deck s
  | .deckStopComplete deck => Sys2Proof.Machine.execDeckStopComplete deck s
  | .linkSet mask timeout fade => Sys2Proof.Machine.execLinkSet mask timeout fade s
  | .linkQuery => Sys2Proof.Machine.execLinkQuery s
  | .storeSave => Sys2Proof.Machine.execStoreSave s
  | .storeQuery => Sys2Proof.Machine.execStoreQuery s
  | .saveCompletion => Sys2Proof.Machine.execSaveCompletion s

end Sys2Proof.Machine
end

