-- ==== Sys2Proof/Machine/Step.lean ====
section
/-! DEFINITION. One step: the command at the front of the queue (log entry 1), and the host's way of placing a
command there (log entry 2). -/

namespace Sys2Proof.Machine

/-- One step: the command at the front of the queue is carried out on the state with the queue's rest; with nothing
waiting the part idles (log entry 1). -/
def step (s : State) : Host.Outcome State Fault Refusal :=
  match s.pending with
  | [] => .next s
  | i :: rest => exec i { s with pending := rest }

/-- The state with the command a table word spells at the front of its queue; a word that spells none changes
nothing (log entry 2). -/
def State.withFetchWord (s : State) (nbits w : Nat) : State :=
  match decodeTableWord nbits w with
  | some i => { s with pending := i :: s.pending }
  | none => s

end Sys2Proof.Machine
end

