-- ==== Sys2Proof/Machine/Pins.lean ====
section
/-! DEFINITION. The signals the part drives, as functions of its state: run outputs and speed references (R104),
slot-line outputs (R161, R162) and the audio words (R187). -/

namespace Sys2Proof.Machine

/-- The run output of pump channel `n` (R104). -/
def State.runOutput (s : State) (n : Nat) : Bool := (s.pump n).runOutput

/-- The speed reference of pump channel `n` in per mille (R104). -/
def State.speedReference (s : State) (n : Nat) : Nat := (s.pump n).speedReference

/-! ### Slot lines; mark is `true`, space is `false` -/

/-- One character of a line: its value and its kind bit (R161). -/
structure Character where
  value : Byte
  kind : Bool
deriving DecidableEq, Repr

/-- The level of a character in bit time 0..11 (Table 8-3). -/
def Character.level (c : Character) (bit : Nat) : Bool :=
  if bit = 0 then false else if bit ≤ 8 then c.value.getLsbD (bit - 1) else if bit = 9 then c.kind else true

/-- Character `n` of the frame in progress: the address character, then the slot characters (R162). -/
def Line.character (l : Line) (n : Nat) : Character :=
  if n = 0 then ⟨l.address, true⟩ else ⟨l.front.getD (n - 1) 0, false⟩

/-- The level of a line in bit time `bit` of the frame in progress (R161, R162). -/
def Line.levelAt (l : Line) (bit : Nat) : Bool :=
  if bit < 12 * (l.run.slots + 1) then (l.character (bit / 12)).level (bit % 12) else true

/-- The level of a line's output as the state stands; a line that is OFF stands at mark (R161). -/
def Line.output (l : Line) : Bool := if l.sending then l.levelAt (l.clocks / bitClocks l.run) else true

/-! ### The audio output (R187) -/

/-- The 32 bits of one channel: 24 of the sample, most significant first, then 8 zeros (R187). -/
def channelBits (sample : Int) : List Bool :=
  ((List.range 24).map fun i => (BitVec.ofInt 24 sample).getMsbD i) ++ List.replicate 8 false

/-- The 64 bits of one word-clock period: left, then right (R187). -/
def State.audioBits (s : State) : List Bool := channelBits s.decks.out.left ++ channelBits s.decks.out.right

end Sys2Proof.Machine
end

