-- ==== Sys2Proof/WellFormed.lean ====
section
/-! DEFINITION. Which terms of `Instr` stand for something the part can meet: a command message that the encoder of
chapter 12 can carry whole, a malformed transfer that is malformed, and packets of at most 64 bytes. -/

namespace Sys2Proof

/-- A level field without a value. -/
def WireLevel.zero : WireLevel := ⟨0, 0, 0, 0⟩

/-- EFFECT_ADD carries one channel of each level for kind 0 (Table 12-4). -/
def EffectAddParams.wellFormed (p : EffectAddParams) : Bool :=
  p.kind ≠ 0 || (p.l0.heightOnly && p.l1.heightOnly)

/-- The values of the fields a field-present set does not name are 0: they are not carried (Table 12-5). -/
def EditValues.wellFormed (set : Half) (v : EditValues) : Bool :=
  (set.getLsbD 0 || v.l0 = WireLevel.zero) && (set.getLsbD 1 || v.l1 = WireLevel.zero)
    && (set.getLsbD 2 || v.p = 0) && (set.getLsbD 3 || v.w = 0)
    && (set.getLsbD 4 || v.step = 0) && (set.getLsbD 5 || v.seed = 0)
    && (set.getLsbD 6 || v.shape = 0) && (set.getLsbD 7 || v.duration = 0)
    && (set.getLsbD 8 || v.fadeOut = 0) && (set.getLsbD 9 || v.layer = 0)
    && (set.getLsbD 10 || v.mode = 0) && (set.getLsbD 11 || v.group = 0)
    && (set.getLsbD 12 || v.pinned = 0) && (set.getLsbD 13 || v.cls = 0)

/-- Whether a transfer passes the framing checks of R192. -/
def Framed.isCommand : Framed → Bool
  | .command _ => true
  | .unknownCommand => false
  | .badLength => false

/-- A packet of a pipe: at most 64 bytes (R189). -/
def isPacket (packet : List Byte) : Bool := decide (packet.length ≤ 64)

/-- Well-formed commands and events. GROUP_DEFINE names at most 254 indices, the most that a message of 512 bytes
holds (R203, Table 0-6); MALFORMED_COMMAND carries a transfer that fails the framing checks (R192); packets have at
most 64 bytes (R189). -/
def Instr.wellFormed : Instr → Bool
  | .commandPacket packet => isPacket packet
  | .clipBlock packets => packets.all isPacket
  | .malformedCommand transfer => !(frameTransfer transfer).isCommand
  | .effectAdd p => p.wellFormed
  | .effectEdit _ _ _ set v => v.wellFormed set
  | .groupDefine _ _ members => decide (members.length ≤ 254)
  | .fullReset | .linkAttach | .linkReset | .samplePeriod _
  | .replyPoll _ | .noticePoll _ | .showStart | .showHold | .showResume | .showEnd _ | .showStop
  | .tempoSet _ _ | .showQuery | .endTimeReached | .silenceTimerExpiry | .effectRetire _ _ | .effectQuery _
  | .groupQuery _ | .effectBoundary | .pendingEditApplied _ | .effectStartReached _ | .naturalEnd _
  | .fadeComplete _ | .jetFrame | .envelopeUpdate | .lightComputation | .nozzleSet _ | .nozzleQuery _
  | .pumpUpdate | .pumpStartTimeout _ | .pumpStopTimeout _ | .destage _ | .startGrant | .manifoldSet _
  | .manifoldQuery _ | .pumpSet _ | .pumpQuery _ | .pumpRelease _ | .pumpLockout _ | .pumpClear _ | .startSet _
  | .windGate | .windHoldRelease _ | .presenceDebounced _ | .emergencyStopAssertion | .levelLow
  | .levelRestored | .zoneSet _ | .zoneCap _ _ | .zoneRelease _ | .siteRelease | .windSet _ _ | .siteQuery _
  | .fixtureSet _ | .fixtureQuery _ | .lightMaster _ | .lineSet _ | .lineQuery _ _ _ | .lineGapEnd _
  | .clipCreate _ _ | .clipRetire _ | .clipQuery _ | .deckCue _ _ _ | .deckStart _ _ _ | .deckStop _ _
  | .deckGain _ _ _ | .deckQuery _ | .audioSet _ _ | .deckPeriod | .deckBegin _ | .deckStopComplete _
  | .linkSet _ _ _ | .linkQuery | .storeSave | .storeQuery | .saveCompletion => true

end Sys2Proof
end

