-- ==== Sys2Proof/Safety.lean ====
section
/-! DEFINITION. What a good state of the part is, in the terms the claims use: table sizes (Table 0-6) and the
invariants that the rules of the spec promise of every reachable state. Each is decidable. -/

namespace Sys2Proof.Machine

/-! ### Sizes (Table 0-6) -/

/-- The item lists of a site configuration have the sizes of Table 11-1. -/
abbrev SiteConfig.sized (c : SiteConfig) : Prop :=
  c.nozzles.length = 384 ∧ c.manifolds.length = 8 ∧ c.pumps.length = 16 ∧ c.zones.length = 17
    ∧ c.fixtures.length = 512 ∧ c.lines.length = 4

/-- A line's images and owner map have 512 entries. -/
abbrev Line.sized (l : Line) : Prop := l.front.length = 512 ∧ l.back.length = 512 ∧ l.owners.length = 512

/-- Every table has the size of Table 0-6. -/
abbrev State.sized (s : State) : Prop :=
  s.effects.slots.length = 256 ∧ s.effects.groups.length = 64
    ∧ s.nozzles.table.length = 384 ∧ s.nozzles.frames.length = 8
    ∧ s.pumps.manifolds.length = 8 ∧ s.pumps.table.length = 16
    ∧ s.site.zones.length = 17 ∧ s.site.presence.length = 8
    ∧ s.lights.table.length = 512
    ∧ s.lines.length = 4 ∧ (∀ l ∈ s.lines, l.sized)
    ∧ s.clips.slots.length = 64 ∧ s.clips.owner.length = 2048
    ∧ s.decks.table.length = 2
    ∧ s.store.image.sized ∧ s.store.snapshot.sized

/-! ### The show state (R6, R16, R36, R50) -/

/-- What the show state promises of the Show Timer, the silence timer and the effect table: STOPPED reads clock 0
and holds SCHEDULED records only; ENDING has an end time and FADING records only; the silence timer is 0 unless the
show is RUNNING or HELD. -/
abbrev State.showOk (s : State) : Prop :=
  s.sized
    ∧ (s.timer.showState = .stopped → s.timer.clock = 0)
    ∧ (s.timer.endTime.isSome = true ↔ s.timer.showState = .ending)
    ∧ (s.runningOrHeld = false → s.link.silence = 0)
    ∧ (s.timer.showState = .stopped → ∀ r ∈ s.records, r.state = .scheduled)
    ∧ (s.timer.showState = .ending → ∀ r ∈ s.records, r.state = .fading)

/-! ### Groups and counters (R22, R43) -/

/-- The group a record reserves for its pending edit. -/
def EffectRecord.reserved (r : EffectRecord) : Option Nat := r.edit.bind (·.fields.group)

/-- How many references a record makes to a group: as its own, and as the new group of its pending edit (R43). -/
def EffectRecord.refsTo (g : Nat) (r : EffectRecord) : Nat :=
  (if r.params.group = g then 1 else 0) + (if r.reserved = some g then 1 else 0)

/-- The references the effect table makes to a group (R43). -/
def State.refsTo (s : State) (g : Nat) : Nat := (s.records.map (EffectRecord.refsTo g)).sum

/-- The reference counts agree with the effect table (R43), and every group named is 0..63. -/
abbrev State.groupsOk (s : State) : Prop :=
  s.sized
    ∧ (∀ g < 64, (s.group g).refs = s.refsTo g)
    ∧ (∀ r ∈ s.records, r.params.group < 64 ∧ ∀ g ∈ r.reserved, g < 64)

/-- The add sequences of the records are pairwise distinct and below the add counter, and both counters are 32-bit
figures (R22). -/
abbrev State.addSeqOk (s : State) : Prop :=
  s.sized ∧ (s.records.map (·.addSeq)).Nodup ∧ (∀ r ∈ s.records, r.addSeq < s.effects.addCounter)
    ∧ s.effects.addCounter ≤ 4294967295 ∧ s.effects.touchCounter ≤ 4294967295

/-! ### Pumps (R101, R112, R119, R120) -/

/-- The start queue holds exactly the QUEUED pumps, each once; at most one pump is STARTING; an absent pump is
LOCKED_OUT; in suspension no pump is QUEUED, STARTING or RUNNING (R101, R112, R119). -/
abbrev State.pumpsOk (s : State) : Prop :=
  s.sized
    ∧ s.pumps.queue.Nodup
    ∧ (∀ n ∈ s.pumps.queue, n < 16)
    ∧ (∀ n < 16, n ∈ s.pumps.queue ↔ (s.pump n).state = .queued)
    ∧ (∀ a < 16, ∀ b < 16, (s.pump a).state = .starting → (s.pump b).state = .starting → a = b)
    ∧ (∀ n < 16, (s.pump n).cfg.present = false → (s.pump n).state = .lockedOut)
    ∧ (s.pumps.suspended = true →
        ∀ n < 16, (s.pump n).state ≠ .queued ∧ (s.pump n).state ≠ .starting ∧ (s.pump n).state ≠ .running)

/-- The published supply of every manifold agrees with its RUNNING pumps (R120). -/
abbrev State.supplyOk (s : State) : Prop := s.sized ∧ ∀ m < 8, (s.manifold m).supply = s.supplyOf m

/-! ### Clips and decks (R168 to R176) -/

/-- The decks that hold the clip of slot `i` (R174). -/
def State.holders (s : State) (i : Nat) : Nat :=
  (s.decks.table.filter fun k => decide (k.clip.map handleSlot = some i)).length

/-- A clip of slot `i` as R170 to R174 keep it; a RETIRING one is held by some deck, so that the last release frees
it. -/
abbrev State.clipOk (s : State) (i : Nat) (c : Clip) : Prop :=
  (c.channels = 1 ∨ c.channels = 2) ∧ 1 ≤ c.length ∧ c.length ≤ 67108864
    ∧ c.pages.length = pagesNeeded c.length c.channels
    ∧ c.pages.Pairwise (· < ·)
    ∧ (∀ p ∈ c.pages, p < 2048 ∧ s.clips.owner.getD p none = some i)
    ∧ c.loaded.length = c.pages.length
    ∧ c.loadedPrefix = min c.length (c.leadingLoaded * pageSize / frameBytes c.channels)
    ∧ c.refs = s.holders i
    ∧ (c.state = .retiring → 0 < c.refs)

/-- Clips, pages, decks and sample memory agree: every owned page is in its owner's page list, a deck is EMPTY
exactly when it holds no clip, and a held clip is in the table (R168, R174, R176). -/
abbrev State.clipsOk (s : State) : Prop :=
  s.sized
    ∧ (∀ i < 64, ∀ c ∈ (s.clipSlot i).clip, s.clipOk i c)
    ∧ (∀ p < 2048, ∀ i ∈ s.clips.owner.getD p none, ∃ c ∈ (s.clipSlot i).clip, p ∈ c.pages)
    ∧ (∀ k ∈ s.decks.table, (k.state = .empty ↔ k.clip = none) ∧ ∀ h ∈ k.clip, (s.lookupClip h).isSome = true)
    ∧ SampleMemory.wf s.clips.memory

/-! ### Levels, wind states and valves (R24, R69, R88, R134) -/

/-- Each channel of a level is a 16-bit figure. -/
abbrev Level.half (l : Level) : Prop := l.r ≤ 65535 ∧ l.g ≤ 65535 ∧ l.b ≤ 65535 ∧ l.w ≤ 65535

/-- The levels of a record and of its pending edit are 16-bit figures, and the e0 of its imposed fade is at most
65,536. -/
abbrev EffectRecord.levelsOk (r : EffectRecord) : Prop :=
  r.params.l0.half ∧ r.params.l1.half
    ∧ (∀ e ∈ r.edit, (∀ l ∈ e.fields.l0, l.half) ∧ ∀ l ∈ e.fields.l1, l.half)
    ∧ ∀ f ∈ r.imposed, f.e0 ≤ 65536

/-- What an evaluation reads lies in its range: the levels of every record, and the audio envelope (R186). -/
abbrev State.levelsOk (s : State) : Prop := (∀ r ∈ s.records, r.levelsOk) ∧ s.decks.envelope ≤ 8388607

/-- A zone that a gate does not place stays CLEAR with count 0, and a DERATED zone's limits stand on both sides of
the held wind (R134). -/
abbrev Zone.windOk (held : Nat) (z : Zone) : Prop :=
  (z.heedsWind = false → z.wind = .clear ∧ z.holdCount = 0)
    ∧ (z.wind = .derated → z.cfg.soft < held ∧ held < z.cfg.hard)

/-- Every zone's wind state agrees with the held wind. -/
abbrev State.windOk (s : State) : Prop := ∀ z ∈ s.site.zones, z.windOk s.site.heldWind

/-- Every valve position lies in 0..1000, and an absent nozzle's live fields are 0 (R76, R88). -/
abbrev State.valvesOk (s : State) : Prop :=
  ∀ z ∈ s.nozzles.table, z.live.valve ≤ 1000 ∧ (z.cfg.present = false → z.live = NozzleLive.zero)

/-! ### The slot owner map (R166) -/

/-- A slot owner map agrees with the nozzles and the fixtures: each present one owns its slots, an owned slot belongs
to a present one, and it lies within its line's slot count (R166). -/
abbrev OwnerMapOk (nozzle : Nat → NozzleConfig) (fixture : Nat → FixtureConfig) (slots : Nat → Nat)
    (owner : Nat → Nat → SlotOwner) : Prop :=
  (∀ n < 384, (nozzle n).present = true →
      (nozzle n).line < 4 ∧ 1 ≤ (nozzle n).first ∧ (nozzle n).first ≤ 511
      ∧ owner (nozzle n).line (nozzle n).first = .valveHigh n
      ∧ owner (nozzle n).line ((nozzle n).first + 1) = .valveLow n)
    ∧ (∀ f < 512, (fixture f).present = true →
        (fixture f).line < 4 ∧ 1 ≤ (fixture f).first
        ∧ (fixture f).first + (fixture f).layout.channels.length ≤ 513
        ∧ ∀ k < (fixture f).layout.channels.length,
          owner (fixture f).line ((fixture f).first + k) = .fixture f ((fixture f).layout.channels.getD k 0))
    ∧ ∀ l < 4, ∀ i < 513, 1 ≤ i → owner l i ≠ .free → i ≤ slots l ∧
        ((∃ n < 384, (nozzle n).present = true ∧ (nozzle n).line = l
            ∧ (((nozzle n).first = i ∧ owner l i = .valveHigh n)
              ∨ ((nozzle n).first + 1 = i ∧ owner l i = .valveLow n)))
          ∨ ∃ f < 512, (fixture f).present = true ∧ (fixture f).line = l
            ∧ ∃ k < (fixture f).layout.channels.length, (fixture f).first + k = i
              ∧ owner l i = .fixture f ((fixture f).layout.channels.getD k 0))

/-- The map a full reset builds from a site configuration is such a map (R166). -/
abbrev SiteConfig.ownersOk (c : SiteConfig) : Prop :=
  OwnerMapOk (fun n => c.nozzles.getD n NozzleConfig.blank) (fun f => c.fixtures.getD f FixtureConfig.blank)
    (fun l => (c.lines.getD l LineConfig.blank).slots)
    fun l => (startLine c l (c.lines.getD l LineConfig.blank)).owner

/-- The slot owner map agrees with the configured nozzles and fixtures, and so will the map built from the image or
from the snapshot of a save (R166). -/
abbrev State.ownersOk (s : State) : Prop :=
  s.sized
    ∧ OwnerMapOk (fun n => (s.nozzle n).cfg) (fun f => (s.fixture f).cfg) (fun l => (s.line l).cfg.slots)
      (fun l => (s.line l).owner)
    ∧ s.store.image.ownersOk ∧ s.store.snapshot.ownersOk

/-! ### The Show Link (R189, R190, R191, R193) -/

/-- At most four places are held; only the reply at the head can have begun to go out; a DETACHED link holds
nothing in progress; a transfer in progress has brought one full packet at least, and no more of it is kept than tells
that it is over-long (R189, R190, R191, R193, R196). -/
abbrev State.linkOk (s : State) : Prop :=
  placesHeld s.link ≤ 4
    ∧ (∀ r ∈ s.link.replies.tail, r.snapshot = none ∧ r.accepted = 0)
    ∧ (s.link.attached = false →
        s.link.replies = [] ∧ s.link.transfer = none ∧ s.link.clipTransfer = none ∧ s.link.notice = none)
    ∧ (∀ bytes ∈ s.link.transfer, 64 ≤ bytes.length ∧ bytes.length ≤ 513)
    ∧ (∀ bytes ∈ s.link.clipTransfer, 64 ≤ bytes.length ∧ bytes.length ≤ 65545)

/-! ### The whole -/

/-- A good state: every invariant of this file holds. -/
abbrev State.good (s : State) : Prop :=
  s.showOk ∧ s.groupsOk ∧ s.addSeqOk ∧ s.pumpsOk ∧ s.supplyOk ∧ s.clipsOk ∧ s.levelsOk ∧ s.windOk ∧ s.valvesOk
    ∧ s.ownersOk ∧ s.linkOk

/-- A safe step: it answers a next state (this model stops nowhere), and keeps a good state good. -/
def safeStep (s : State) : Prop := ∃ t, step s = .next t ∧ (s.good → t.good)

/-! ### What a taken command leaves on the link -/

/-- A state once a command transfer has been taken and answered (R16, R191, R193): no transfer is open, the silence
timer is at 0, and one reply has joined the queue, with the show state as it stands. -/
def State.answered (code : ResultCode) (payload : List Byte) (s : State) : State :=
  { s with link := { s.link with
      transfer := none
      silence := 0
      replies := s.link.replies ++ [⟨code, s.timer.showState, payload, none, 0⟩] } }

/-! ### Kinds of command, and what a boundary makes of one record -/

/-- The configuration commands (section 10.7). -/
def isConfiguration : Instr → Bool
  | .nozzleSet _ => true
  | .manifoldSet _ => true
  | .pumpSet _ => true
  | .startSet _ => true
  | .zoneSet _ => true
  | .windSet _ _ => true
  | .fixtureSet _ => true
  | .lineSet _ => true
  | .linkSet _ _ _ => true
  | _ => false

/-- The link can take a whole command transfer: it is ATTACHED, no other transfer is in progress, and fewer than four
places are held (R190, R191). -/
abbrev State.ready (s : State) : Prop :=
  s.link.attached = true ∧ s.link.transfer = none ∧ s.link.replies.length < 4

/-- Configuration is open: the link is ready, the show STOPPED and no save in progress. -/
abbrev State.configurable (s : State) : Prop :=
  s.ready ∧ s.timer.showState = .stopped ∧ s.store.saving = false

/-- A record's parameters once its pending edit has been settled at `t`: with the edit, when its boundary is at or
before `t`; as they are, when the edit is discarded or there is none (R34). -/
def EffectRecord.settled (r : EffectRecord) (t : ShowTime) : EffectParams :=
  match r.editAt t with
  | some e => (r.params.overlay e.fields).normalise
  | none => r.params

/-- A record that enters FADING at `t` with an imposed fade (R33, R34). -/
def EffectRecord.faded (sh : ShowState) (t : ShowTime) (r : EffectRecord) : EffectRecord :=
  { r with params := r.settled t, state := .fading, edit := none, imposed := some ⟨t, envelopeAt sh r t⟩ }

/-- What the entry into ENDING at `t` makes of one record: a SCHEDULED one is freed, another fades over the end
fade (R49). -/
def EffectRecord.ended (sh : ShowState) (t : ShowTime) (fade : Nat) (r : EffectRecord) : Option EffectRecord :=
  if r.state = .scheduled then none
  else some { r.faded sh t with params := { r.settled t with fadeOut := fade } }

/-- What the four steps of R29 and the report of R46 make of one record at a boundary of show time `t`; `none` when
its fade is over and it is freed. -/
def EffectRecord.atBoundary (sh : ShowState) (t : ShowTime) (r : EffectRecord) : Option EffectRecord :=
  let r := { r with params := r.settled t, edit := if (r.editAt t).isSome then none else r.edit }
  let r := if r.state = .scheduled ∧ atOrAfter t r.params.start = true then { r with state := .active } else r
  let r := if r.atNaturalEnd t then { r with state := .fading, edit := none } else r
  if r.fadeOver t then none else some { r with reported := envelopeAt sh r t }

/-- The blocks outside the Effect Scheduler and the Show Link are as they were. -/
abbrev State.sameOutsideEffects (s t : State) : Prop :=
  t.due = s.due ∧ t.pins = s.pins ∧ t.timer = s.timer ∧ t.nozzles = s.nozzles ∧ t.pumps = s.pumps ∧ t.site = s.site
    ∧ t.lights = s.lights ∧ t.lines = s.lines ∧ t.clips = s.clips ∧ t.decks = s.decks ∧ t.store = s.store

/-- The group references agree with the effect table after a change that found them agreeing with it (R43). -/
abbrev State.refsFollow (s t : State) : Prop := s.groupsOk → ∀ g < 64, (t.group g).refs = t.refsTo g

/-- The WAITING, PLAYING and STARVED decks that hold the clip of slot `i` (R184). -/
def State.soundingHolders (s : State) (i : Nat) : Nat :=
  (s.decks.table.filter fun k => k.sounding && decide (k.clip.map handleSlot = some i)).length

/-- A clip slot once `n` decks have released its clip: the count goes down by `n`, and a RETIRING clip whose count
reaches 0 is freed, its generation kept (R174). -/
def ClipSlot.released (n : Nat) (e : ClipSlot) : ClipSlot :=
  { e with clip := e.clip.bind fun c =>
      if c.state = .retiring ∧ c.refs ≤ n then none else some { c with refs := c.refs - n } }

/-- `t` is `s` once every sounding deck has released its clip (R174, R184): the slots as `ClipSlot.released` says, and
a page free exactly when it was free or its clip has been freed. -/
abbrev State.clipsReleased (s t : State) : Prop :=
  (∀ i < 64, t.clipSlot i = (s.clipSlot i).released (s.soundingHolders i))
    ∧ ∀ p < 2048, t.clips.owner.getD p none =
        (s.clips.owner.getD p none).bind fun i => if (t.clipSlot i).clip.isSome then some i else none

/-- `t` is what an entry of `s` into STOPPED leaves (R6, R50, R184): the Show Timer's figures cleared, every record
freed with its generation kept, the reference counts down by the references freed and the counters 0, the sounding
decks EMPTY and their clips released, SHOW_STATE raised; group kinds and lists, sample memory, every other clip and
every other block are as they were. -/
abbrev State.stopsAs (s t : State) : Prop :=
  t.timer = { s.timer with showState := .stopped, clock := 0, grid := none, endTime := none }
    ∧ t.effects.slots = s.effects.slots.map (fun e => { e with record := none })
    ∧ t.effects.addCounter = 0 ∧ t.effects.touchCounter = 0
    ∧ t.effects.groups.map (·.defined) = s.effects.groups.map (·.defined)
    ∧ (∀ g < 64, (t.group g).refs = (s.group g).refs - s.refsTo g)
    ∧ t.decks = { s.decks with table := s.decks.table.map fun k =>
        if k.sounding then { Deck.blank with given := k.given } else k }
    ∧ t.clips.memory = s.clips.memory ∧ (s.clipsOk → s.clipsReleased t)
    ∧ t.link = { (s.raise .showState).link with silence := 0 }
    ∧ t.pending = s.pending ∧ t.due = s.due ∧ t.pins = s.pins ∧ t.nozzles = s.nozzles ∧ t.pumps = s.pumps
    ∧ t.site = s.site ∧ t.lights = s.lights ∧ t.lines = s.lines ∧ t.store = s.store

/-- `t` is what an entry of `s` into ENDING with an end fade in sample periods leaves (R10, R49, R184). -/
abbrev State.endsAs (fade : Nat) (s t : State) : Prop :=
  t.timer = { s.timer with showState := .ending, endTime := some (s.timer.clock + BitVec.ofNat 32 fade) }
    ∧ t.effects.slots = s.effects.slots.map (fun e =>
        { e with record := e.record.bind (EffectRecord.ended s.timer.showState s.timer.clock fade) })
    ∧ t.effects.addCounter = s.effects.addCounter ∧ t.effects.touchCounter = s.effects.touchCounter
    ∧ t.effects.groups.map (·.defined) = s.effects.groups.map (·.defined) ∧ s.refsFollow t
    ∧ t.decks = { s.decks with table := s.decks.table.map fun k =>
        if k.sounding && !k.stopPending then { k with target := 0, step := ceilDiv k.gain fade } else k }
    ∧ t.clips = s.clips
    ∧ t.link = { (s.raise .showState).link with silence := 0 }
    ∧ t.pending = s.pending ∧ t.due = s.due ∧ t.pins = s.pins ∧ t.nozzles = s.nozzles ∧ t.pumps = s.pumps
    ∧ t.site = s.site ∧ t.lights = s.lights ∧ t.lines = s.lines ∧ t.store = s.store

/-- Nothing is outstanding in `s` (log entry 3): no boundary event, no gap end, no debounced input, no stop, no
change of level, no expiry, no end time and no finished save waits to be taken. -/
abbrev State.quiet (s : State) : Prop :=
  s.due.envelope = false ∧ s.due.effects = false ∧ s.due.jet = false ∧ s.due.light = false ∧ s.due.pump = false
    ∧ s.due.wind = false ∧ s.due.stop = false
    ∧ (∀ l ∈ s.lines, l.atGapEnd = false)
    ∧ (∀ p ∈ s.site.presence, p.count < 4800)
    ∧ (s.site.level = .ok → s.site.levelCount < 96000) ∧ (s.site.level = .low → s.site.levelCount < 1440000)
    ∧ s.silenceExpired = false ∧ s.atEndTime = false
    ∧ (s.store.saving = true → s.store.count < savePeriods)

end Sys2Proof.Machine
end

