-- ==== Sys2Proof/Certificates/Slice0/Obligations.lean ====
section
/-! DEFINITION. The statements for the provers. A taken command's result is written as the state it leaves, with
`State.answered` for what its taking and answering leave on the link (R16, R191, R193), so that each such statement
is the command's frame as well: what the written state does not change, the command does not change. -/

section
open Sys2Proof Sys2Proof.Machine

/-! ### The queue and the link -/

/-- The command at the front of the queue is carried out on the state with the queue's rest; with an empty queue the
part idles (the model's own convention, log entry 1). -/
def Obligations.StepTakesTheFront : Prop :=
  (∀ (c : Instr) (rest : List Instr) (s : State),
    step { s with pending := c :: rest } = exec c { s with pending := rest })
  ∧ ∀ s : State, s.pending = [] → step s = .next s

/-- Every command completes in every state, and keeps what waits in the queue (log entry 1). -/
def Obligations.ExecKeepsTheQueue : Prop :=
  ∀ (c : Instr) (s : State), ∃ t : State, exec c s = .next t ∧ t.pending = s.pending

/-- A whole command transfer that the link cannot take, because it is DETACHED, four places are held or another
transfer is in progress, changes nothing (R190, R191). COMMAND_PACKET brings a transfer packet by packet (R189, R191,
R192): its first packet holds a place or is refused, a full packet leaves it in progress, and at the short packet, one
of fewer than 64 bytes, it is taken: answered with its framing result, or carried out as the command it carries. That
the rows of the commands stand for whole transfers is the model's reading (DESIGN CHOICE, log entry 6). -/
def Obligations.CommandTransfers : Prop :=
  (∀ (c : Instr) (s : State),
    ((encodeCommand c).isSome = true ∨ ∃ transfer, c = .malformedCommand transfer) → ¬ s.ready →
      exec c s = .next s)
  ∧ ∀ (packet : List Byte) (s : State),
    let bytes := (s.link.transfer.getD [] ++ packet).take 513
    let closed := { s with link := { s.link with transfer := none } }
    (s.link.attached = false ∨ 64 < packet.length ∨ (s.link.transfer = none ∧ 4 ≤ s.link.replies.length) →
      exec (.commandPacket packet) s = .next s)
    ∧ (s.link.attached = true → s.link.transfer ≠ none ∨ s.link.replies.length < 4 →
        (packet.length = 64 → exec (.commandPacket packet) s =
          .next { s with link := { s.link with transfer := some bytes } })
        ∧ (packet.length < 64 →
            (frameTransfer bytes = .badLength → exec (.commandPacket packet) s = .next (s.answered .badLength []))
            ∧ (frameTransfer bytes = .unknownCommand →
                exec (.commandPacket packet) s = .next (s.answered .unknownCommand []))
            ∧ ∀ c, frameTransfer bytes = .command c → s.link.replies.length < 4 →
                exec (.commandPacket packet) s = exec c closed))

/-- Every query is answered OK with its report, or refused by its own check, and changes nothing else (R18, R45, R48,
R77, R124, R125, R144, R148, R167, R175, R188, R198, R202). The report is read once the transfer is taken, so the
silence timer it shows is 0 (R16, R191; DEDUCED, log entry 21); DECK_QUERY takes an outstanding envelope update first
(log entry 3). The payloads are the model's report functions (some widths DEDUCED, among them the one byte of a place
in the start queue, log entry 11; zone 16's missing fields free, log entry 12; a stopped destage timer's count 0,
DESIGN CHOICE, log entry 24; a line's bit rate and frame length those of its configuration, DESIGN CHOICE, log entry
32; the time to a save's completion rounded up, DEDUCED, log entry 34). -/
def Obligations.QueriesReport : Prop :=
  ∀ s : State, s.ready →
    exec .showQuery s = .next (s.answered .ok (showReport s.transferTaken))
    ∧ exec .linkQuery s = .next (s.answered .ok (linkReport s.transferTaken))
    ∧ exec .storeQuery s = .next (s.answered .ok (storeReport s))
    ∧ (∀ h, exec (.effectQuery h) s = .next
        (match s.lookupEffect h with
          | some r => s.answered .ok (recordReport r)
          | none => s.answered .staleHandle []))
    ∧ (∀ g, exec (.groupQuery g) s = .next
        (if g.toNat ≤ 63 then s.answered .ok (groupReport (s.group g.toNat)) else s.answered .badParam []))
    ∧ (∀ n, exec (.nozzleQuery n) s = .next
        (if n.toNat ≤ 383 then s.answered .ok (nozzleReport s n.toNat) else s.answered .badParam []))
    ∧ (∀ m, exec (.manifoldQuery m) s = .next
        (if m.toNat ≤ 7 then s.answered .ok (manifoldReport s m.toNat) else s.answered .badParam []))
    ∧ (∀ n, exec (.pumpQuery n) s = .next
        (if n.toNat ≤ 15 then s.answered .ok (pumpReport s n.toNat) else s.answered .badParam []))
    ∧ (∀ z, exec (.siteQuery z) s = .next
        (if z.toNat ≤ 16 then s.answered .ok (siteReport s z.toNat) else s.answered .badParam []))
    ∧ (∀ f, exec (.fixtureQuery f) s = .next
        (if f.toNat ≤ 511 then s.answered .ok (fixtureReport s f.toNat) else s.answered .badParam []))
    ∧ (∀ l first count, exec (.lineQuery l first count) s = .next
        (if l.toNat ≤ 3 ∧ 1 ≤ first.toNat ∧ first.toNat ≤ 512 ∧ count.toNat ≤ 64 then
          s.answered .ok (lineReport (s.line l.toNat) first.toNat count.toNat)
        else s.answered .badParam []))
    ∧ (∀ h, exec (.clipQuery h) s = .next
        (if h = 0 then s.answered .ok (memoryReport s)
        else match s.lookupClip h with
          | some c => s.answered .ok (memoryReport s ++ clipReport c)
          | none => s.answered .staleHandle []))
    ∧ (∀ d, exec (.deckQuery d) s = .next
        (if d.toNat ≤ 1 then s.takeEnvelope.answered .ok (deckReport d.toNat s.takeEnvelope)
        else s.answered .badParam []))

/-- A configuration command, and STORE_SAVE, is refused with WRONG_SHOW_STATE unless the show is STOPPED, then with
STORE_BUSY while a save is in progress; it changes nothing else (R75, R100, R102, R103, R129, R133, R146, R159, R197,
R200). -/
def Obligations.ConfigurationNeedsStoppedAndIdle : Prop :=
  ∀ (c : Instr) (s : State), isConfiguration c = true ∨ c = .storeSave → s.ready →
    (s.timer.showState ≠ .stopped → exec c s = .next (s.answered .wrongShowState []))
    ∧ (s.timer.showState = .stopped → s.store.saving = true → exec c s = .next (s.answered .storeBusy []))

/-! ### Show time -/

/-- SHOW_START, SHOW_HOLD and SHOW_RESUME in every show state (R5, R7, R8, R9). -/
def Obligations.ShowCommandOutcomes : Prop :=
  ∀ s : State, s.ready →
    exec .showStart s = .next
      (if s.timer.showState ≠ .stopped then s.answered .wrongShowState []
      else if s.site.stopLatch then s.answered .siteStopped []
      else ({ s with timer := { s.timer with showState := .running, clock := 0 } }.raise .showState).answered .ok [])
    ∧ exec .showHold s = .next
      (if s.timer.showState = .running then
        ({ s with timer := { s.timer with showState := .held } }.raise .showState).answered .ok []
      else s.answered .wrongShowState [])
    ∧ exec .showResume s = .next
      (if s.timer.showState = .held then
        ({ s with timer := { s.timer with showState := .running } }.raise .showState).answered .ok []
      else s.answered .wrongShowState [])

/-- SHOW_END: refused unless RUNNING or HELD; a fade of 0 enters STOPPED, another enters ENDING with its end time
(R10, R49, R184). That a record's pending edit is settled before its fade out becomes the end fade is DEDUCED (log
entry 30). -/
def Obligations.ShowEndOutcomes : Prop :=
  ∀ (fade : Half) (s : State), s.ready → s.sized →
    let ms := if fade = 65535 then s.timer.storedFade else min fade.toNat 60000
    (s.runningOrHeld = false → exec (.showEnd fade) s = .next (s.answered .wrongShowState []))
    ∧ (s.runningOrHeld = true → ms = 0 →
        ∃ t : State, exec (.showEnd fade) s = .next (t.answered .ok []) ∧ s.stopsAs t)
    ∧ (s.runningOrHeld = true → 0 < ms →
        ∃ t : State, exec (.showEnd fade) s = .next (t.answered .ok []) ∧ s.endsAs (ms * 48) t)

/-- SHOW_STOP is accepted in every show state; it enters STOPPED, and in STOPPED it changes nothing (R6, R12, R50). -/
def Obligations.ShowStopOutcomes : Prop :=
  ∀ s : State, s.ready → s.sized →
    (s.timer.showState = .stopped → exec .showStop s = .next (s.answered .ok []))
    ∧ (s.timer.showState ≠ .stopped → ∃ t : State, exec .showStop s = .next (t.answered .ok []) ∧ s.stopsAs t)

/-- END_TIME_REACHED stops an ENDING show whose clock equals its end time (R6, R11, R50, R184); SILENCE_TIMER_EXPIRY
ends a RUNNING or HELD show whose silence timer has reached its timeout, with the stored end fade, and raises
LINK_SILENCE (R10, R17, R49, R184). That a record's pending edit is settled before its fade out becomes the end fade
is DEDUCED (log entry 30). With nothing to take the two rows do nothing (DESIGN CHOICE, log entry 3). -/
def Obligations.EndTimeAndSilence : Prop :=
  ∀ s : State, s.sized →
    (s.timer.showState = .ending → s.timer.endTime = some s.timer.clock →
      ∃ t : State, exec .endTimeReached s = .next t ∧ s.stopsAs t)
    ∧ (s.timer.showState ≠ .ending ∨ s.timer.endTime ≠ some s.timer.clock → exec .endTimeReached s = .next s)
    ∧ (s.runningOrHeld = true → 0 < s.link.timeout → s.link.timeout * 48000 ≤ s.link.silence →
      (s.timer.storedFade = 0 → ∃ t : State, exec .silenceTimerExpiry s = .next (t.raise .linkSilence) ∧ s.stopsAs t)
      ∧ (0 < s.timer.storedFade → ∃ t : State, exec .silenceTimerExpiry s = .next (t.raise .linkSilence)
          ∧ s.endsAs (s.timer.storedFade * 48) t))
    ∧ (s.runningOrHeld = false ∨ s.link.timeout = 0 ∨ s.link.silence < s.link.timeout * 48000 →
      exec .silenceTimerExpiry s = .next s)

/-- EMERGENCY_STOP_ASSERTION sets the site stop latch, raises SITE_STOP and enters STOPPED (R13, R140). That the row
is an assertion when one was sampled or the input stood inactive, and nothing otherwise, is the model's reading of the
row (DESIGN CHOICE, log entry 7). -/
def Obligations.EmergencyStopStopsTheSite : Prop :=
  ∀ s : State, s.sized →
    let u := { s with due := { s.due with stop := false }, pins := { s.pins with stop := true },
                      site := { s.site with stopLatch := true } }.raise .siteStop
    (s.due.stop = true ∨ s.pins.stop = false → s.timer.showState = .stopped →
      exec .emergencyStopAssertion s = .next u)
    ∧ (s.due.stop = true ∨ s.pins.stop = false → s.timer.showState ≠ .stopped →
      ∃ t : State, exec .emergencyStopAssertion s = .next t ∧ u.stopsAs t)
    ∧ (s.due.stop = false → s.pins.stop = true → exec .emergencyStopAssertion s = .next s)

/-- The next beat (R15): the acceptance time without a grid; the anchor when it is at or after `t`; otherwise the beat
of the least index at or after `t`, fewer than ceil(P / 256) sample periods after it. -/
def Obligations.NextBeatIsTheLeastBeat : Prop :=
  (∀ s : State, s.timer.grid = none → s.beatTime = s.timer.clock)
  ∧ (∀ (s : State) (g : BeatGrid), s.timer.grid = some g → s.beatTime = nextBeat g s.timer.clock)
  ∧ ∀ (g : BeatGrid) (t : ShowTime), 256 ≤ g.period.toNat →
    (atOrAfter g.anchor t = true → nextBeat g t = g.anchor)
    ∧ (atOrAfter g.anchor t = false →
        let d := (t - g.anchor).toNat
        let k := ceilDiv (d * 256) g.period.toNat
        1 ≤ d ∧ d ≤ 2147483648 ∧ d * 256 ≤ 2 ^ 39 ∧ k * g.period.toNat < 2 ^ 39 + 2 ^ 32
        ∧ nextBeat g t = g.anchor + BitVec.ofNat 32 (k * g.period.toNat / 256)
        ∧ (∀ j < k, j * g.period.toNat / 256 < d) ∧ d ≤ k * g.period.toNat / 256
        ∧ atOrAfter (nextBeat g t) t = true
        ∧ (nextBeat g t - t).toNat < ceilDiv g.period.toNat 256)
    ∧ (g.period.toNat = 256 → atOrAfter g.anchor t = false → nextBeat g t = t)

/-! ### The effect table -/

/-- The refusals of EFFECT_ADD and EFFECT_EDIT in the order of their checks; a refused one changes nothing (R20, R23,
R36). -/
def Obligations.EffectRefusals : Prop :=
  ∀ s : State, s.ready →
    (∀ p, s.timer.showState = .ending → exec (.effectAdd p) s = .next (s.answered .wrongShowState []))
    ∧ (∀ p, s.timer.showState ≠ .ending → addCodes p = none → exec (.effectAdd p) s = .next (s.answered .badParam []))
    ∧ (∀ p c, s.timer.showState ≠ .ending → addCodes p = some c →
        (c.shape.needsPeriod = true → p.p = 0 → exec (.effectAdd p) s = .next (s.answered .badParam []))
        ∧ (c.shape.needsPeriod = false ∨ p.p ≠ 0 →
            ((s.group p.group.toNat).defined = none →
              exec (.effectAdd p) s = .next (s.answered .groupUndefined []))
            ∧ ∀ d, (s.group p.group.toNat).defined = some d →
                (d.kind ≠ c.kind → exec (.effectAdd p) s = .next (s.answered .groupKind []))
                ∧ (d.kind = c.kind → s.effects.addCounter = 4294967295 →
                    exec (.effectAdd p) s = .next (s.answered .tableFull []))
                ∧ (d.kind = c.kind → s.effects.addCounter ≠ 4294967295 →
                    (∀ e ∈ s.effects.slots, ∃ r, e.record = some r ∧ r.evictable = false) →
                    exec (.effectAdd p) s = .next (s.answered .tableFull []))))
    ∧ (∀ h timing time set v, timingOf timing = none ∨ editCoded set v = false →
        exec (.effectEdit h timing time set v) s = .next (s.answered .badParam []))
    ∧ (∀ h timing time set v, (timingOf timing).isSome = true → editCoded set v = true → s.lookupEffect h = none →
        exec (.effectEdit h timing time set v) s = .next (s.answered .staleHandle []))
    ∧ (∀ h timing time set v r, (timingOf timing).isSome = true → editCoded set v = true → s.lookupEffect h = some r →
        (r.state = .fading → exec (.effectEdit h timing time set v) s = .next (s.answered .wrongState []))
        ∧ (r.state ≠ .fading →
            let result := r.resulting (editFields r.params.kind set v)
            (result.shape.needsPeriod = true → result.p = 0 →
              exec (.effectEdit h timing time set v) s = .next (s.answered .badParam []))
            ∧ (result.shape.needsPeriod = false ∨ result.p ≠ 0 → named set 11 = true →
                ((s.group v.group.toNat).defined = none →
                  exec (.effectEdit h timing time set v) s = .next (s.answered .groupUndefined []))
                ∧ ∀ d, (s.group v.group.toNat).defined = some d → d.kind ≠ r.params.kind →
                  exec (.effectEdit h timing time set v) s = .next (s.answered .groupKind []))))

/-- An EFFECT_ADD that passes every check is placed: in the lowest-numbered free slot, or else in the slot of the
eligible record with the smallest touch stamp (lowest slot among equals), which is freed with EFFECT_EVICTED (R21,
R22, R26, R27, R28). The record's start is resolved at acceptance (R25) and its fields are normalised (R24). The reply
carries the new handle, the start and the victim's handle or 0. That a JET record's level stands in the first channel,
with 0 in the others, is a DESIGN CHOICE (log entry 24). -/
def Obligations.EffectAddPlaces : Prop :=
  ∀ (p : EffectAddParams) (c : AddCodes) (d : GroupDef) (i : Nat) (s : State),
    s.ready → s.sized → i < 256 → s.timer.showState ≠ .ending → addCodes p = some c →
    (c.shape.needsPeriod = false ∨ p.p ≠ 0) → (s.group p.group.toNat).defined = some d → d.kind = c.kind →
    s.effects.addCounter ≠ 4294967295 →
    let level := fun (l : WireLevel) =>
      match c.kind with
      | .jet => (⟨min l.r.toNat 10000, 0, 0, 0⟩ : Level)
      | .light =>
        if c.mode = .scale then
          ⟨min l.r.toNat 10000, min l.g.toNat 10000, min l.b.toNat 10000, min l.w.toNat 10000⟩
        else ⟨l.r.toNat, l.g.toNat, l.b.toNat, l.w.toNat⟩
    let period := min p.p.toNat 2147483647
    let params : EffectParams := {
      kind := c.kind, group := p.group.toNat, layer := p.layer.toNat, mode := c.mode
      start := match c.start with
        | .absolute => p.start
        | .now => s.timer.clock
        | .beat => s.beatTime
      duration := min p.duration.toNat 2147483647
      fadeIn := min p.fadeIn.toNat 2880000, fadeOut := min p.fadeOut.toNat 2880000
      shape := c.shape, l0 := level p.l0, l1 := level p.l1, p := period
      w := match c.shape with
        | .pulse => min p.w.toNat period
        | .sparkle => min p.w.toNat 65536
        | _ => p.w.toNat
      step := p.step.toNat % 1024, seed := p.seed.toNat }
    let r : EffectRecord := {
      params := params, cls := c.cls, pinned := c.pinned, state := .scheduled
      addSeq := s.effects.addCounter, touch := s.effects.touchCounter
      imposed := none, edit := none, limits := Limits.empty, reported := 0 }
    let gen := nextGeneration (s.effectSlot i).gen
    ((s.effectSlot i).record = none → (∀ j < i, (s.effectSlot j).record ≠ none) →
      exec (.effectAdd p) s = .next ({ s with effects :=
          { slots := s.effects.slots.set i ⟨gen, some r⟩
            groups := s.effects.groups.modify p.group.toNat fun g => { g with refs := g.refs + 1 }
            addCounter := s.effects.addCounter + 1
            touchCounter := min (s.effects.touchCounter + 1) 4294967295 } }.answered .ok
        (put2 (handleOf i gen).toNat ++ put4 r.params.start.toNat ++ put2 0)))
    ∧ (∀ v, (s.effectSlot i).record = some v → v.evictable = true →
        (∀ j < 256, ∃ r', (s.effectSlot j).record = some r'
          ∧ (r'.evictable = true → v.touch < r'.touch ∨ (v.touch = r'.touch ∧ i ≤ j))) →
        ∃ t : State, exec (.effectAdd p) s = .next (t.answered .ok
            (put2 (handleOf i gen).toNat ++ put4 r.params.start.toNat ++ put2 (s.effectHandle i).toNat))
          ∧ s.sameOutsideEffects t ∧ t.pending = s.pending ∧ t.link = (s.raise .effectEvicted).link
          ∧ t.effects.slots = s.effects.slots.set i ⟨gen, some r⟩
          ∧ t.effects.groups.map (·.defined) = s.effects.groups.map (·.defined) ∧ s.refsFollow t
          ∧ t.effects.addCounter = s.effects.addCounter + 1
          ∧ t.effects.touchCounter = min (s.effects.touchCounter + 1) 4294967295)

/-- An accepted EFFECT_EDIT (R37, R38, R39, R41): at once on a SCHEDULED record, staged or merged on an ACTIVE one;
the touch stamp is refreshed, pinned and class change at acceptance, and group references move as they must. The
boundary of 0 in the APPLIED reply to an ACTIVE record's edit that stages nothing is a DESIGN CHOICE (log entry 35). -/
def Obligations.EffectEditAccepted : Prop :=
  ∀ (h : Half) (timing : Byte) (time : Quad) (set : Half) (v : EditValues) (c : EditTiming) (r : EffectRecord)
    (s : State), s.ready → timingOf timing = some c → editCoded set v = true → s.lookupEffect h = some r →
    let f := editFields r.params.kind set v
    let boundary := match c with
      | .now => s.timer.clock
      | .beat => s.beatTime
      | .at => time
    let touched := { r with
      touch := s.effects.touchCounter
      pinned := if named set 12 then v.pinned = 1 else r.pinned
      cls := if named set 13 then (if v.cls = 1 then .ambient else .showClass) else r.cls }
    let up := fun (g : Group) => { g with refs := g.refs + 1 }
    let down := fun (g : Group) => { g with refs := g.refs - 1 }
    let edited := fun (r' : EffectRecord) (groups : List Group) =>
      { s with effects := { s.effects with
          slots := s.effects.slots.modify (handleSlot h) fun e => { e with record := some r' }
          groups := groups
          touchCounter := min (s.effects.touchCounter + 1) 4294967295 } }
    let new := v.group.toNat
    ((r.resulting f).shape.needsPeriod = false ∨ (r.resulting f).p ≠ 0) →
    (named set 11 = true → ∃ d, (s.group new).defined = some d ∧ d.kind = r.params.kind) →
    (r.state = .scheduled →
      exec (.effectEdit h timing time set v) s = .next
        ((edited { touched with params := (r.params.overlay f).normalise }
          (if named set 11 then (s.effects.groups.modify new up).modify r.params.group down
          else s.effects.groups)).answered .ok (put1 0 ++ put4 0)))
    ∧ (r.state = .active → namesStaged set = true →
        exec (.effectEdit h timing time set v) s = .next
          ((edited { touched with edit := some ⟨(match r.edit with
                | some e => e.fields.merge f
                | none => f), boundary⟩ }
            (if named set 11 then
              match r.reserved with
              | some g => (s.effects.groups.modify new up).modify g down
              | none => s.effects.groups.modify new up
            else s.effects.groups)).answered .ok (put1 1 ++ put4 boundary.toNat)))
    ∧ (r.state = .active → namesStaged set = false →
        exec (.effectEdit h timing time set v) s = .next ((edited touched s.effects.groups).answered .ok
          (match r.edit with
            | some e => put1 1 ++ put4 e.boundary.toNat
            | none => put1 0 ++ put4 0)))

/-- EFFECT_RETIRE by Table 2-6 (R33, R34, R35). -/
def Obligations.EffectRetireOutcomes : Prop :=
  ∀ (h : Half) (mode : Byte) (s : State), s.ready →
    (2 ≤ mode.toNat → exec (.effectRetire h mode) s = .next (s.answered .badParam []))
    ∧ (mode.toNat ≤ 1 → s.lookupEffect h = none → exec (.effectRetire h mode) s = .next (s.answered .staleHandle []))
    ∧ ∀ r, mode.toNat ≤ 1 → s.lookupEffect h = some r →
      let down := fun (g : Group) => { g with refs := g.refs - 1 }
      let released := match r.reserved with
        | some g => (s.effects.groups.modify r.params.group down).modify g down
        | none => s.effects.groups.modify r.params.group down
      (mode = 1 ∨ r.state = .scheduled →
        exec (.effectRetire h mode) s = .next ({ s with effects := { s.effects with
          slots := s.effects.slots.modify (handleSlot h) fun e => { e with record := none }
          groups := released } }.answered .ok (put1 0)))
      ∧ (mode = 0 → r.state = .fading → exec (.effectRetire h mode) s = .next (s.answered .ok (put1 1)))
      ∧ (mode = 0 → r.state = .active →
          let t := s.timer.clock
          exec (.effectRetire h mode) s = .next ({ s with effects := { s.effects with
            slots := s.effects.slots.modify (handleSlot h) fun e =>
              { e with record := some (r.faded s.timer.showState t) }
            groups := match r.reserved with
              | some g =>
                if (r.editAt t).isSome then s.effects.groups.modify r.params.group down
                else s.effects.groups.modify g down
              | none => s.effects.groups } }.answered .ok (put1 1)))

/-- GROUP_DEFINE: its checks in order, then the group defined, replaced or undefined (R44). -/
def Obligations.GroupDefineOutcomes : Prop :=
  ∀ (g kind : Byte) (members : List Half) (s : State), s.ready →
    let bad := 63 < g.toNat ∨ 1 < kind.toNat ∨ 64 < members.length
      ∨ (kind = 0 ∧ ∃ m ∈ members, 383 < m.toNat) ∨ (kind = 1 ∧ ∃ m ∈ members, 511 < m.toNat)
    (bad → exec (.groupDefine g kind members) s = .next (s.answered .badParam []))
    ∧ (¬ bad → ¬ members.Nodup → exec (.groupDefine g kind members) s = .next (s.answered .duplicateMember []))
    ∧ (¬ bad → members.Nodup → (s.group g.toNat).refs ≠ 0 →
        exec (.groupDefine g kind members) s = .next (s.answered .groupInUse []))
    ∧ (¬ bad → members.Nodup → (s.group g.toNat).refs = 0 →
        exec (.groupDefine g kind members) s = .next ({ s with effects := { s.effects with
          groups := s.effects.groups.modify g.toNat fun x => { x with
            defined := if members = [] then none
              else some ⟨if kind = 0 then .jet else .light, members.map BitVec.toNat⟩ } } }.answered .ok []))

/-- The four rows inside a boundary of a RUNNING, HELD or ENDING show that is outstanding: each takes that boundary,
whole, when a step of the boundary makes its transition on record `i`, and otherwise does nothing. `edited`,
`started`, `ended` and `freed` are the conditions of the four steps, each on what the steps before it make of the
record, and the record is then as the four leave it, with its reported envelope, or freed (R29 to R32, R34, R46). The
boundary is no longer outstanding, so an edit that comes after it waits for the next one (R42). That each row stands
for the boundary in which its transition falls is the model's reading of the rows (DESIGN CHOICE, log entries 3 and
4). -/
def Obligations.BoundarySteps : Prop :=
  ∀ (i : Fin 256) (s : State),
    let t := s.timer.clock
    (s.due.effects = false ∨ s.timer.showState = .stopped ∨ (s.effectSlot i).record = none →
      exec (.pendingEditApplied i) s = .next s ∧ exec (.effectStartReached i) s = .next s
        ∧ exec (.naturalEnd i) s = .next s ∧ exec (.fadeComplete i) s = .next s)
    ∧ (s.due.effects = true → s.timer.showState ≠ .stopped → s.sized → ∀ r, (s.effectSlot i).record = some r →
      let edited := ∃ e, r.edit = some e ∧ atOrAfter t e.boundary = true
      let r1 : EffectRecord := match r.edit with
        | some e => if atOrAfter t e.boundary then
            { r with params := (r.params.overlay e.fields).normalise, edit := none } else r
        | none => r
      let started := r1.state = .scheduled ∧ atOrAfter t r1.params.start = true
      let r2 := if started then { r1 with state := .active } else r1
      let ended := r2.state = .active ∧ r2.params.duration ≠ 0
        ∧ atOrAfter t (r2.params.start + BitVec.ofNat 32 r2.params.duration) = true
      let r3 := if ended then { r2 with state := .fading, edit := none } else r2
      let freed := r3.fadeOver t = true
      ∃ u : State, exec .effectBoundary s = .next u ∧ u.due = { s.due with effects := false }
        ∧ (u.effectSlot i).record =
            (if freed then none else some { r3 with reported := envelopeAt s.timer.showState r3 t })
        ∧ (freed → u.link.summary.getLsbD 2 = true)
        ∧ exec (.pendingEditApplied i) s = .next (if edited then u else s)
        ∧ exec (.effectStartReached i) s = .next (if started then u else s)
        ∧ exec (.naturalEnd i) s = .next (if ended then u else s)
        ∧ exec (.fadeComplete i) s = .next (if freed then u else s))

/-- EFFECT_BOUNDARY takes every record through the four steps, each by itself, and reports its envelope; EFFECT_ENDED
is raised when a fade is over (R29 to R32, R34, R46). In STOPPED it makes no transition. With no boundary outstanding
it does nothing (DESIGN CHOICE, log entry 3). -/
def Obligations.EffectBoundaryIsRecordwise : Prop :=
  ∀ s : State, s.sized →
    (s.due.effects = false → exec .effectBoundary s = .next s)
    ∧ (s.due.effects = true → s.timer.showState = .stopped →
        exec .effectBoundary s = .next { s with due := { s.due with effects := false } })
    ∧ (s.due.effects = true → s.timer.showState ≠ .stopped →
        let ended := s.records.any fun r => (r.atBoundary s.timer.showState s.timer.clock).isNone
        ∃ t : State, exec .effectBoundary s = .next t
          ∧ { s with due := { s.due with effects := false } }.sameOutsideEffects t ∧ t.pending = s.pending
          ∧ t.link = (if ended then (s.raise .effectEnded).link else s.link)
          ∧ t.effects.slots = s.effects.slots.map (fun e =>
              { e with record := e.record.bind (EffectRecord.atBoundary s.timer.showState s.timer.clock) })
          ∧ t.effects.addCounter = s.effects.addCounter ∧ t.effects.touchCounter = s.effects.touchCounter
          ∧ t.effects.groups.map (·.defined) = s.effects.groups.map (·.defined) ∧ s.refsFollow t)

/-! ### Evaluation -/

/-- One record over what lies beneath it: REPLACE, MAX, ADD and SCALE, whatever its envelope (R66, R67, R68); vmax is
10,000 for a nozzle and 65,535 for a fixture channel. The covering records are taken each once, by layer and, within a
layer, by ascending add sequence, from a value of 0 (R65). -/
def Obligations.LayerArithmetic : Prop :=
  (∀ vmax v x e : Nat, v ≤ vmax → e ≤ 65536 →
    applyMode .replace vmax v x e = (v * (65536 - e) + x * e) / 65536
    ∧ applyMode .max vmax v x e = max v (x * e / 65536)
    ∧ applyMode .add vmax v x e = min vmax (v + x * e / 65536)
    ∧ applyMode .scale vmax v x e = v * ((10000 * (65536 - e) + x * e) / 65536) / 10000
    ∧ (vmax ≤ 65535 → x ≤ 65535 → v * (65536 - e) + x * e < 65536 * 65536 * 2))
  ∧ ∀ (s : State) (n : Nat) (x : ShowTime),
    ((∀ r ∈ s.records, r.addSeq < 4294967296) → ∀ k : Kind,
      (s.contributions k n x).Perm (s.records.filterMap (s.contribution k n x))
      ∧ (s.contributions k n x).Pairwise fun a b => a.layer < b.layer ∨ (a.layer = b.layer ∧ a.addSeq ≤ b.addSeq))
    ∧
    let fold := fun (vmax : Nat) (k : Kind) (ch : Level → Nat) =>
      (s.contributions k n x).foldl (fun v c => applyMode c.mode vmax v (ch c.level) c.envelope) 0
    s.composeNozzle n x = fold 10000 .jet Level.r
    ∧ s.composeFixture n x =
      ⟨fold 65535 .light Level.r, fold 65535 .light Level.g, fold 65535 .light Level.b, fold 65535 .light Level.w⟩

/-- The fade-in value (R55), the blend of a PULSE record (R59), whose W normalisation clamps to P (R24), and the
integer square root, which is the floor of the root (Table 0-4). -/
def Obligations.FadeInPulseAndRoot : Prop :=
  (∀ tau fadeIn : Nat,
    (tau < fadeIn → fadeInValue tau fadeIn = tau * 65536 / fadeIn)
    ∧ (fadeIn ≤ tau → fadeInValue tau fadeIn = 65536)
    ∧ (fadeIn = 0 → fadeInValue tau fadeIn = 65536)
    ∧ (0 < fadeIn → fadeInValue 0 fadeIn = 0)
    ∧ (tau < fadeIn → fadeIn ≤ 2880000 → tau * 65536 < 2 ^ 38))
  ∧ (∀ (f : EffectParams) (env tau m : Nat), f.shape = .pulse → 0 < f.p →
    (tau % f.p < f.w → blend f env tau m = 65536)
    ∧ (f.w ≤ tau % f.p → blend f env tau m = 0)
    ∧ f.normalise.w ≤ f.normalise.p
    ∧ (f.w = 0 → blend f env tau m = 0)
    ∧ (f.w = f.p → blend f env tau m = 65536)
    ∧ (0 < f.w → ∀ n, blend f env (n * f.p) m = 65536))
  ∧ ∀ n : Nat, isqrt n * isqrt n ≤ n ∧ n < (isqrt n + 1) * (isqrt n + 1)

/-- Whatever is in the effect table, a composed height lies in 0..10,000 and a composed channel in 0..65,535 (R69),
when the records' levels are 16-bit figures (the invariant `levelsOk`). -/
def Obligations.EvaluationStaysInRange : Prop :=
  ∀ (s : State) (n : Nat) (x : ShowTime), s.levelsOk →
    s.composeNozzle n x ≤ 10000
    ∧ (s.composeFixture n x).r ≤ 65535 ∧ (s.composeFixture n x).g ≤ 65535
    ∧ (s.composeFixture n x).b ≤ 65535 ∧ (s.composeFixture n x).w ≤ 65535

/-! ### Nozzles -/

/-- JET_FRAME leaves in each present nozzle the figures of R79 to R89, with the cap the smallest of its maximum height
and the current caps (R136) of the zones that govern it (R80, R128), and the reason flag of R81; it leaves an absent
nozzle as it was. That a frame which is not outstanding does nothing, and that one whose boundary has other events
outstanding takes the envelope and the scheduler's transitions first, is the model's choice (DESIGN CHOICE, log
entry 3). -/
def Obligations.JetFramePublishes : Prop :=
  ∀ s : State, s.sized →
    (s.due.jet = false → exec .jetFrame s = .next s)
    ∧ (∀ u v, s.due.jet = true → exec .envelopeUpdate s = .next u → exec .effectBoundary u = .next v →
        exec .jetFrame s = exec .jetFrame v)
    ∧ (s.due.jet = true → s.due.envelope = false → s.due.effects = false →
        ∃ t : State, exec .jetFrame s = .next t ∧ t.nozzles.table.length = 384
          ∧ ∀ n < 384,
            let a := s.nozzle n
            let b := t.nozzle n
            (a.cfg.present = false → b = a)
            ∧ (a.cfg.present = true →
                let f := (t.frame a.cfg.manifold).factor
                let q := a.cfg.coefficient * isqrt (b.live.target * 256) / 4096
                let ranged := fun z => z < 16 ∧ (s.zone z).cfg.enabled = true
                  ∧ (s.zone z).cfg.first ≤ n ∧ n ≤ (s.zone z).cfg.last
                let governs := fun z => ranged z ∨ (z = 16 ∧ ∀ y < 16, ¬ ranged y)
                let zoneCap := fun k =>
                  let z := s.zone k
                  if s.site.stopLatch = true ∨ z.latch = true then 0
                  else match z.wind with
                    | .windHold => 0
                    | .derated => z.cfg.cap * (z.cfg.hard - s.site.heldWind) / (z.cfg.hard - z.cfg.soft)
                    | .clear => z.cfg.cap
                let cut := b.live.cap < b.live.composed
                let stops := s.site.stopLatch = true ∨ ∃ z < 17, governs z ∧ (s.zone z).latch = true
                let windy := ∃ z < 17, governs z ∧ zoneCap z = b.live.cap ∧ (s.zone z).wind ≠ .clear
                b.cfg = a.cfg
                ∧ b.live.composed = s.composeNozzle n (s.timer.clock + BitVec.ofNat 32 (a.cfg.lead * 48))
                ∧ (s.timer.showState = .stopped → b.live.cap = 0)
                ∧ (s.timer.showState ≠ .stopped →
                    b.live.cap ≤ a.cfg.maxHeight ∧ (∀ z < 17, governs z → b.live.cap ≤ zoneCap z)
                    ∧ (b.live.cap = a.cfg.maxHeight ∨ ∃ z < 17, governs z ∧ b.live.cap = zoneCap z))
                ∧ b.live.target = min b.live.composed b.live.cap
                ∧ b.live.flow = q
                ∧ b.live.scaledFlow = q * f / 65536
                ∧ b.live.scaledHeight = b.live.target * f * f / 4294967296
                ∧ b.live.valveTarget =
                    (if a.cfg.maxFlow = 0 then 0 else min 1000 (b.live.scaledFlow * 1000 / a.cfg.maxFlow))
                ∧ (a.cfg.coefficient ≤ 65535 → b.live.target ≤ 10000 → b.live.scaledFlow * 1000 ≤ 25599000)
                ∧ b.live.valve =
                    (if a.live.valve + a.cfg.slew < b.live.valveTarget then a.live.valve + a.cfg.slew
                    else if b.live.valveTarget + a.cfg.slew < a.live.valve then a.live.valve - a.cfg.slew
                    else b.live.valveTarget)
                ∧ b.live.effective = a.cfg.maxHeight * b.live.valve * b.live.valve / 1000000
                ∧ (b.live.flags.supply = true ↔ f < 65536 ∧ 0 < q)
                ∧ (b.live.flags.slew = true ↔
                    a.live.valve + a.cfg.slew < b.live.valveTarget
                      ∨ b.live.valveTarget + a.cfg.slew < a.live.valve)
                ∧ (b.live.flags.stop = true ↔ cut ∧ stops)
                ∧ (b.live.flags.wind = true ↔ cut ∧ ¬ stops ∧ windy)
                ∧ (b.live.flags.zoneCap = true ↔ cut ∧ ¬ stops ∧ ¬ windy)))

/-- What JET_FRAME hands on (R83, R85, R90, R91, R92, R93): each manifold's frame record and demand report, the valve
words in the lines' back images, the JET records' limitation summaries, SUPPLY_LIMITED when a manifold is short; and
what it leaves alone. The report stands at once, also when a pump update of the same boundary is outstanding (R105,
where R78 says otherwise: DEDUCED, log entry 36). That the frame is outstanding, and then no more, is the model's
record (DESIGN CHOICE, log entry 3). -/
def Obligations.JetFrameReports : Prop :=
  ∀ s : State, s.sized → s.due.jet = true → s.due.envelope = false → s.due.effects = false →
    ∃ t : State, exec .jetFrame s = .next t
      ∧ (∀ m < 8,
          let d := sumOver m (·.live.flow) t.nozzles.table
          let supply := (s.manifold m).supply
          let f := s.forecastOf m s.nozzles.table
          t.frame m = ⟨d, supply, if supply < d then supply * 65536 / d else 65536, f⟩
          ∧ t.manifold m = { s.manifold m with demand := d, forecast := f })
      ∧ (∀ l < 4, t.line l =
          if valveSlots l t.nozzles.table = [] then s.line l
          else { s.line l with
            back := putSlots (s.line l).back (valveSlots l t.nozzles.table), fresh := true })
      ∧ t.effects = { s.effects with slots := s.effects.slots.map fun e => { e with record := e.record.map fun r =>
          if r.params.kind = .jet then { r with limits := s.summaryOf t.nozzles.table r } else r } }
      ∧ t.link = (if t.nozzles.frames.any (fun f => decide (f.factor < 65536)) then (s.raise .supplyLimited).link
          else s.link)
      ∧ t.due = { s.due with jet := false } ∧ t.nozzles.phase = s.nozzles.phase
      ∧ t.pumps = { s.pumps with manifolds := t.pumps.manifolds }
      ∧ t.pending = s.pending ∧ t.pins = s.pins ∧ t.timer = s.timer ∧ t.site = s.site ∧ t.lights = s.lights
      ∧ t.clips = s.clips ∧ t.decks = s.decks ∧ t.store = s.store

/-- In every jet frame each present nozzle receives its scaled flow and scaled height, and for each manifold the scaled
flows of its nozzles sum to no more than the supply the frame used (R84). -/
def Obligations.FlowsWithinSupply : Prop :=
  ∀ s t : State, s.sized → s.due.jet = true → exec .jetFrame s = .next t →
    ∀ m < 8, (t.frame m).supply = (s.manifold m).supply
      ∧ sumOver m (·.live.scaledFlow) t.nozzles.table ≤ (t.frame m).supply
      ∧ ∀ z ∈ t.nozzles.table, z.cfg.present = true → z.cfg.manifold = m →
        z.live.scaledFlow = z.live.flow * (t.frame m).factor / 65536
        ∧ z.live.scaledHeight = z.live.target * (t.frame m).factor * (t.frame m).factor / 2 ^ 32
        ∧ (z.live.target ≤ 10000 →
            z.live.target * (t.frame m).factor * (t.frame m).factor ≤ 10000 * 2 ^ 32)

/-- While the site stop latch is set, or a zone that governs a nozzle is latched or in WIND_HOLD, the nozzle's height
target is 0 after every jet frame (R80), and so is its valve target. -/
def Obligations.StopHoldsTargetsAtZero : Prop :=
  ∀ (s t : State) (n : Nat), s.sized → n < 384 → s.due.jet = true → exec .jetFrame s = .next t →
    (s.nozzle n).cfg.present = true →
    (s.site.stopLatch = true
      ∨ ∃ z ∈ s.governing n, (s.zone z).latch = true ∨ (s.zone z).wind = .windHold) →
    (t.nozzle n).live.target = 0 ∧ (t.nozzle n).live.valveTarget = 0

/-- A valve position lies in 0..1000 and moves by no more than its nozzle's slew from one jet boundary to the next: no
command moves one but a jet frame that is outstanding, taken by JET_FRAME or settled by SAMPLE_PERIOD (that it is one or
the other is the model's choice: DESIGN CHOICE, log entry 3); a full reset sets every position to 0 (R88). -/
def Obligations.ValveWithinSlew : Prop :=
  ∀ (c : Instr) (s t : State), s.sized → s.valvesOk → exec c s = .next t → ∀ n < 384,
    (c = .fullReset → (t.nozzle n).live.valve = 0)
    ∧ (c ≠ .fullReset →
        (t.nozzle n).live.valve ≤ 1000
        ∧ (t.nozzle n).live.valve ≤ (s.nozzle n).live.valve + (s.nozzle n).cfg.slew
        ∧ (s.nozzle n).live.valve ≤ (t.nozzle n).live.valve + (s.nozzle n).cfg.slew
        ∧ (s.due.jet = false ∨ (c ≠ .jetFrame ∧ ∀ inputs, c ≠ .samplePeriod inputs) →
            (t.nozzle n).live.valve = (s.nozzle n).live.valve)
        ∧ ((t.nozzle n).live.valve ≠ (s.nozzle n).live.valve → s.due.jet = true))

/-- NOZZLE_SET with the show STOPPED and no save: its checks in order, then the configuration replaced, its slots
released and taken, and the live fields of an absent nozzle 0 (R75, R76, R166). With present no, the fields after it
are not read and the last ones stay (DESIGN CHOICE, log entry 14). -/
def Obligations.NozzleSetOutcomes : Prop :=
  ∀ (p : NozzleSetParams) (s : State), s.configurable →
    let n := p.nozzle.toNat
    let old := s.nozzle n
    let c : NozzleConfig := ⟨true, p.manifold.toNat, p.maxHeight.toNat, p.coefficient.toNat, p.lead.toNat,
      p.slew.toNat, p.line.toNat, p.first.toNat⟩
    let oldClaim := if old.cfg.present then some (old.cfg.line, valveClaims n old.cfg) else none
    let bad := 7 < c.manifold ∨ c.maxHeight = 0 ∨ 10000 < c.maxHeight ∨ c.coefficient = 0 ∨ 2000 < c.lead
      ∨ c.slew = 0 ∨ 1000 < c.slew ∨ 3 < c.line ∨ c.first = 0 ∨ 511 < c.first
      ∨ (s.line c.line).cfg.slots < c.first + 1
    let taken := ∃ k ∈ [c.first, c.first + 1], (s.line c.line).owner k ≠ .free
      ∧ (s.line c.line).owner k ≠ .valveHigh n ∧ (s.line c.line).owner k ≠ .valveLow n
    let busy := old.cfg.present = true ∧ 0 < old.live.valve
    (383 < n ∨ 1 < p.present.toNat → exec (.nozzleSet p) s = .next (s.answered .badParam []))
    ∧ (n ≤ 383 → p.present = 0 →
        (busy → exec (.nozzleSet p) s = .next (s.answered .busy []))
        ∧ (¬ busy → exec (.nozzleSet p) s = .next (((s.moveClaims oldClaim none).modifyNozzle n fun _ =>
            ⟨{ old.cfg with present := false }, NozzleLive.zero⟩).answered .ok [])))
    ∧ (n ≤ 383 → p.present = 1 →
        (bad → exec (.nozzleSet p) s = .next (s.answered .badParam []))
        ∧ (¬ bad → busy → (c.line ≠ old.cfg.line ∨ c.first ≠ old.cfg.first) →
            exec (.nozzleSet p) s = .next (s.answered .busy []))
        ∧ (¬ bad → (¬ busy ∨ (c.line = old.cfg.line ∧ c.first = old.cfg.first)) →
            (taken → exec (.nozzleSet p) s = .next (s.answered .slotConflict []))
            ∧ (¬ taken → exec (.nozzleSet p) s = .next
                (((s.moveClaims oldClaim (some (c.line, valveClaims n c))).modifyNozzle n fun z =>
                  { z with cfg := c }).answered .ok []))))

/-! ### Pumps and manifolds -/

/-- PUMP_UPDATE ends with every manifold's supply published from its RUNNING pumps, its needed flow formed from its
demand and forecast, its target set the shortest leading part of its available pumps, in ascending rank, whose rated
flows reach that flow (empty for a flow of 0, all of them where they fall short), and each of its RUNNING pumps sped
toward the common target or its minimum speed by at most a step of its ramp; the inputs are sampled, and the
suspension flag follows the stop latch and the basin level; while it is set no pump is QUEUED, STARTING or RUNNING
(R106, R112, R113, R114, R118, R119, R120). It touches no other block. With no update outstanding it does nothing
(DESIGN CHOICE, log entry 3). -/
def Obligations.PumpUpdatePublishes : Prop :=
  ∀ s : State, s.pumpsOk →
    (s.due.pump = false → exec .pumpUpdate s = .next s)
    ∧ (s.due.pump = true → ∃ t : State, exec .pumpUpdate s = .next t ∧ t.pumpsOk
        ∧ (∀ m < 8, (t.manifold m).supply =
            (((List.range 16).filter fun n => (t.pump n).cfg.present && decide ((t.pump n).cfg.manifold = m)
                && decide ((t.pump n).state = .running)).map
              fun n => (t.pump n).cfg.rated * (t.pump n).command / 1000).sum)
        ∧ (∀ m < 8,
            let x := s.manifold m
            (t.manifold m).needed = (max x.demand x.forecast * (1000 + x.cfg.headroom) + 999) / 1000
            ∧ (t.manifold m).cfg = x.cfg ∧ (t.manifold m).demand = x.demand
            ∧ (t.manifold m).forecast = x.forecast)
        ∧ (∀ m < 8, ∃ available : List Nat, available.Nodup
            ∧ available.Pairwise (fun a b => (t.pump a).cfg.rank ≤ (t.pump b).cfg.rank)
            ∧ (∀ n, n ∈ available ↔ n < 16 ∧ (t.pump n).cfg.present = true ∧ (t.pump n).cfg.manifold = m
                ∧ (t.pump n).state ≠ .fault ∧ (t.pump n).state ≠ .lockedOut)
            ∧ let need := (t.manifold m).needed
              let targets := (t.manifold m).targets
              let flow := fun pumps => (pumps.map fun n => (t.pump n).cfg.rated).sum
              targets <+: available ∧ (need = 0 → targets = []) ∧ (need ≤ flow targets ∨ targets = available)
              ∧ ∀ k < targets.length, flow (targets.take k) < need)
        ∧ (∀ n < 16, (t.pump n).cfg.present = true → (t.pump n).state = .running → (t.pump n).cfg.manifold < 8 →
            let q := t.pump n
            let old := (s.pump n).command
            let step := (q.cfg.ramp + 9) / 10
            let rated := (((List.range 16).filter fun k => (t.pump k).cfg.present
                && decide ((t.pump k).cfg.manifold = q.cfg.manifold) && decide ((t.pump k).state = .running)).map
              fun k => (t.pump k).cfg.rated).sum
            let common := if rated = 0 then 0
              else min 1000 (((t.manifold q.cfg.manifold).needed * 1000 + rated - 1) / rated)
            q.target = max common q.cfg.minSpeed
            ∧ q.command = (if old + step < q.target then old + step
                else if q.target + step < old then old - step else q.target))
        ∧ (∀ n < 16, (t.pump n).cfg = (s.pump n).cfg
            ∧ (t.pump n).feedback = s.pins.feedback.getLsbD n ∧ (t.pump n).fault = s.pins.fault.getLsbD n)
        ∧ (t.pumps.suspended = true ↔ s.site.stopLatch = true ∨ s.site.level = .low)
        ∧ t.pumps.startInterval = s.pumps.startInterval ∧ t.pumps.phase = s.pumps.phase
        ∧ t.due = { s.due with pump := false } ∧ t.link = { s.link with summary := t.link.summary }
        ∧ t.pending = s.pending ∧ t.pins = s.pins ∧ t.timer = s.timer ∧ t.effects = s.effects
        ∧ t.nozzles = s.nozzles ∧ t.site = s.site ∧ t.lights = s.lights ∧ t.lines = s.lines ∧ t.clips = s.clips
        ∧ t.decks = s.decks ∧ t.store = s.store)

/-- The input transitions of a pump update (R107 to R110): where a present pump stands after the update that finds it
marked, with its fault input active, with or without its feedback, or timed out; a pump that enters RUNNING is sped in
the same update (R106, R118). A fault raises PUMP_STATE and PUMP_FAULT. An IDLE or QUEUED pump without a fault ends
QUEUED, or STARTING when it is granted at once, exactly when it is in the target set and staging is not suspended (R115,
R116, R119). A pump that R109 makes IDLE is queued by the next update at the earliest (R114, where R106 and R115 could
be read otherwise: DEDUCED, log entry 33). -/
def Obligations.PumpInputTransitions : Prop :=
  ∀ (s t : State) (n : Nat), s.pumpsOk → n < 16 → s.due.pump = true → exec .pumpUpdate s = .next t →
    (s.pump n).cfg.present = true →
    let p := s.pump n
    let q := t.pump n
    let x := t.manifold p.cfg.manifold
    let suspends := s.site.stopLatch = true ∨ s.site.level = .low
    let fault := s.pins.fault.getLsbD n
    let feedback := s.pins.feedback.getLsbD n
    let faulted := fun c => q.state = .fault ∧ q.cause = c ∧ q.mark = false ∧ q.command = 0 ∧ q.target = 0
      ∧ t.link.summary.getLsbD 8 = true ∧ t.link.summary.getLsbD 9 = true
    (p.state = .starting ∨ p.state = .running → p.mark = true →
      q.state = .stopping ∧ q.mark = true ∧ q.command = 0 ∧ q.timer = 0)
    ∧ (p.state = .starting ∨ p.state = .running → p.mark = false → fault = false → feedback = true →
      (suspends → q.state = .stopping ∧ q.timer = 0)
      ∧ (¬ suspends → p.cfg.manifold < 8 →
        (q.state = .running ∧ (p.state = .starting → q.timer = 0) ∧ p.cfg.minSpeed ≤ q.target
          ∧ q.command ≤ p.command + (p.cfg.ramp + 9) / 10 ∧ p.command ≤ q.command + (p.cfg.ramp + 9) / 10)
        ∨ (q.state = .stopping ∧ n ∉ x.targets ∧ x.destage = some 0)))
    ∧ (p.state = .starting ∨ p.state = .running → p.mark = false → fault = true → faulted .faultInput)
    ∧ (p.state = .starting → p.mark = false → fault = false → feedback = false →
      (p.cfg.startTimeout * 48 ≤ p.timer → faulted .startTimeout)
      ∧ (p.timer < p.cfg.startTimeout * 48 → ¬ suspends → q.state = .starting ∧ q.timer = p.timer))
    ∧ (p.state = .running → p.mark = false → fault = false → feedback = false → faulted .feedbackLost)
    ∧ (p.state = .stopping → fault = true → faulted .faultInput)
    ∧ (p.state = .stopping → fault = false → feedback = false → p.mark = true →
      q.state = .lockedOut ∧ q.mark = false)
    ∧ (p.state = .stopping → fault = false → feedback = false → p.mark = false →
      q.state = .idle ∧ q.mark = false ∧ q.command = 0 ∧ q.timer = 0)
    ∧ (p.state = .stopping → fault = false → feedback = true → p.cfg.stopTimeout * 48 ≤ p.timer →
      faulted .stopTimeout)
    ∧ (p.state = .stopping → fault = false → feedback = true → p.timer < p.cfg.stopTimeout * 48 →
      q.state = .stopping ∧ q.mark = p.mark ∧ q.timer = p.timer)
    ∧ (p.state = .idle ∨ p.state = .queued → fault = true → q.state = .fault ∧ q.cause = .faultInput)
    ∧ (p.state = .idle ∨ p.state = .queued → fault = false → p.cfg.manifold < 8 →
      (n ∈ x.targets ∧ ¬ suspends → q.state = .queued ∨ q.state = .starting)
      ∧ (n ∉ x.targets ∨ suspends → q.state = .idle))
    ∧ (p.state = .lockedOut ∨ p.state = .fault → q.state = p.state ∧ q.mark = p.mark ∧ q.cause = p.cause)

/-- The rows that are one transition of a pump update, at an update that is outstanding: each takes that update, whole
(R106), and with it its transition, when the update makes it, and otherwise does nothing. The two timeouts are found on
the inputs the update samples (R107, R109), the destage on the target set it forms itself (`v`, once the inputs and the
suspension are settled and the manifold's set is formed, R117), the grant on the queue its staging leaves (`w`, once
staging is done, R119). That each row stands for the whole update in which its transition falls, and waits for that
update otherwise, is the model's reading of the rows (DESIGN CHOICE, log entries 3 and 4). -/
def Obligations.PumpSteps : Prop :=
  ∀ (n : Fin 16) (m : Fin 8) (s : State),
    let p := s.pump n
    let feedback := s.pins.feedback.getLsbD n
    let fault := s.pins.fault.getLsbD n
    let startOut := p.cfg.present = true ∧ p.state = .starting ∧ p.mark = false ∧ fault = false ∧ feedback = false
      ∧ p.cfg.startTimeout * 48 ≤ p.timer
    let stopOut := p.cfg.present = true ∧ p.state = .stopping ∧ fault = false ∧ feedback = true
      ∧ p.cfg.stopTimeout * 48 ≤ p.timer
    let faulted := fun (c : FaultCause) (t : State) => (t.pump n).state = .fault ∧ (t.pump n).cause = c
      ∧ (t.pump n).mark = false ∧ (t.pump n).command = 0 ∧ (t.pump n).target = 0
      ∧ t.link.summary.getLsbD 8 = true ∧ t.link.summary.getLsbD 9 = true
    let takes := fun (c : Instr) (t : State) => exec c s = .next t ∧ exec .pumpUpdate s = .next t
    let v := s.updateInputs.stageTargets m
    let w := s.updateStaged
    (s.due.pump = false →
      exec (.pumpStartTimeout n) s = .next s ∧ exec (.pumpStopTimeout n) s = .next s
        ∧ exec (.destage m) s = .next s ∧ exec .startGrant s = .next s)
    ∧ (s.due.pump = true → s.pumpsOk →
        (startOut → ∃ t, takes (.pumpStartTimeout n) t ∧ faulted .startTimeout t)
        ∧ (¬ startOut → exec (.pumpStartTimeout n) s = .next s)
        ∧ (stopOut → ∃ t, takes (.pumpStopTimeout n) t ∧ faulted .stopTimeout t)
        ∧ (¬ stopOut → exec (.pumpStopTimeout n) s = .next s)
        ∧ (∀ count k, v.pumps.suspended = false → (v.manifold m).destage = some count →
            (s.manifold m).cfg.destage * 48 ≤ count → v.destageVictim m = some k →
            ∃ t, takes (.destage m) t ∧ (t.pump k).state = .stopping ∧ (t.pump k).command = 0
              ∧ (t.pump k).target = 0 ∧ (t.pump k).timer = 0 ∧ (t.pump k).mark = (s.pump k).mark
              ∧ (t.manifold m).destage = some 0 ∧ t.link.summary.getLsbD 8 = true)
        ∧ (v.pumps.suspended = true ∨ (v.manifold m).destage = none ∨ v.destageVictim m = none
              ∨ (∃ count, (v.manifold m).destage = some count ∧ count < (s.manifold m).cfg.destage * 48) →
            exec (.destage m) s = .next s)
        ∧ (∀ k rest, w.pumps.queue = k :: rest → w.pumps.suspended = false → w.startingPump = none →
            s.intervalPassed = true →
            ∃ t, takes .startGrant t ∧ (t.pump k).state = .starting ∧ (t.pump k).command = (s.pump k).cfg.minSpeed
              ∧ (t.pump k).timer = 0 ∧ t.pumps.queue = rest ∧ t.pumps.lastGrant = some s.timer.device
              ∧ t.link.summary.getLsbD 8 = true)
        ∧ (w.pumps.queue = [] ∨ w.pumps.suspended = true ∨ w.startingPump ≠ none ∨ s.intervalPassed = false →
            exec .startGrant s = .next s))

/-- Destage and start arbitration. The first three clauses say what the destage victim, the STARTING pump and the
passing of the start interval are, in every state. The rest is a PUMP_UPDATE from `pumpsOk`. Not suspended, it stops
at most one pump a manifold for being outside the target set; it stops one exactly when the destage timer has reached
the delay and a pump that runs once its input is examined (R107 case 3, R108) lies outside the set, that pump has the
largest rank among them, and the timer stops, starts, restarts or keeps counting as R117 says. The start queue keeps
its order, and the pumps newly queued join its tail by manifold and rank (R115, R116, R119); each of them was IDLE
when the update began, so that a pump which R109 stops in the update is not among them (DEDUCED, log entry 33). The
arbiter grants its head, once, when staging is not suspended, no pump is still STARTING and the start interval has
passed; it then records the time, and otherwise it grants nothing (R119). -/
def Obligations.VictimAndArbiter : Prop :=
  ∀ (m : Nat) (s : State),
    (∀ v, s.destageVictim m = some v →
      v < 16 ∧ (s.pump v).cfg.present = true ∧ (s.pump v).cfg.manifold = m ∧ (s.pump v).state = .running
      ∧ v ∉ (s.manifold m).targets
      ∧ ∀ n < 16, (s.pump n).cfg.present = true → (s.pump n).cfg.manifold = m → (s.pump n).state = .running →
          n ∉ (s.manifold m).targets → (s.pump n).cfg.rank ≤ (s.pump v).cfg.rank)
    ∧ (s.startingPump = none ↔ ∀ n < 16, (s.pump n).state ≠ .starting)
    ∧ (s.intervalPassed = true ↔
        ∀ g, s.pumps.lastGrant = some g → s.pumps.startInterval * 48 ≤ (s.timer.device - g).toNat)
    ∧ ∀ t, s.pumpsOk → s.due.pump = true → exec .pumpUpdate s = .next t →
        let suspends := s.site.stopLatch = true ∨ s.site.level = .low
        let outside := fun n => n < 16 ∧ (s.pump n).cfg.present = true ∧ (s.pump n).cfg.manifold = m
          ∧ n ∉ (t.manifold m).targets
        let runs := fun n => ((s.pump n).state = .running ∨ (s.pump n).state = .starting) ∧ (s.pump n).mark = false
          ∧ s.pins.fault.getLsbD n = false ∧ s.pins.feedback.getLsbD n = true
        let stopped := fun n => outside n ∧ runs n ∧ (t.pump n).state = .stopping
        let waits := ∃ n, outside n ∧ ((t.pump n).state = .starting ∨ (t.pump n).state = .running)
        let reached := ∃ count, (s.manifold m).destage = some count ∧ (s.manifold m).cfg.destage * 48 ≤ count
        (¬ suspends → m < 8 →
          (∀ a b, stopped a → stopped b → a = b)
          ∧ ((∃ n, stopped n) ↔ reached ∧ ∃ n, outside n ∧ runs n)
          ∧ (∀ a, stopped a → (t.manifold m).destage = some 0
              ∧ ∀ n, outside n → runs n → (s.pump n).cfg.rank ≤ (s.pump a).cfg.rank)
          ∧ (¬ (∃ n, stopped n) →
              (¬ waits → (t.manifold m).destage = none)
              ∧ (waits → (t.manifold m).destage = some ((s.manifold m).destage.getD 0))))
        ∧ (∀ n, runs n → ¬ suspends → (s.pump n).cfg.manifold = m → n ∈ (t.manifold m).targets →
            n < 16 → (s.pump n).cfg.present = true → (t.pump n).state = .running)
        ∧ ∃ joined : List Nat,
            let queue := (s.pumps.queue.filter fun n =>
              (t.pump n).state = .queued || (t.pump n).state = .starting) ++ joined
            let free := ∀ n < 16, (s.pump n).state = .starting → (t.pump n).state ≠ .starting
            (∀ n ∈ joined, (s.pump n).state = .idle)
            ∧ joined.Pairwise (fun a b => (s.pump a).cfg.manifold < (s.pump b).cfg.manifold
                ∨ ((s.pump a).cfg.manifold = (s.pump b).cfg.manifold ∧ (s.pump a).cfg.rank ≤ (s.pump b).cfg.rank))
            ∧ (∀ k rest, queue = k :: rest → ¬ suspends → free → s.intervalPassed = true →
                (t.pump k).state = .starting ∧ (t.pump k).command = (t.pump k).cfg.minSpeed ∧ (t.pump k).timer = 0
                ∧ t.pumps.queue = rest ∧ t.pumps.lastGrant = some s.timer.device
                ∧ ∀ n < 16, n ≠ k → (t.pump n).state ≠ .starting)
            ∧ (queue = [] ∨ suspends ∨ ¬ free ∨ s.intervalPassed = false →
                t.pumps.queue = queue ∧ t.pumps.lastGrant = s.pumps.lastGrant
                ∧ ∀ n < 16, (t.pump n).state = .starting → (s.pump n).state = .starting)

/-- PUMP_LOCKOUT, PUMP_RELEASE and PUMP_CLEAR by the pump's state and channel (R104, R121, R122, R123); the reply
carries the pump's state and lockout mark. The inputs a release or a clear reads are those last sampled (log
entry 5). -/
def Obligations.PumpStateCommands : Prop :=
  ∀ (b : Byte) (s : State), s.ready →
    let n := b.toNat
    let p := s.pump n
    let active := s.pins.fault.getLsbD n = true ∨ s.pins.feedback.getLsbD n = true
    let reply := fun (st : PumpState) (mark : Bool) => put1 st.code ++ putFlag mark
    let into := fun (st : PumpState) (c : FaultCause) (u : State) =>
      (u.modifyPump n fun x => { x with state := st, command := 0, target := 0, timer := 0, cause := c }).raise
        .pumpState
    (15 < n → exec (.pumpLockout b) s = .next (s.answered .badParam [])
      ∧ exec (.pumpRelease b) s = .next (s.answered .badParam [])
      ∧ exec (.pumpClear b) s = .next (s.answered .badParam []))
    ∧ (n ≤ 15 → s.sized →
        (p.state = .idle → exec (.pumpLockout b) s = .next ((into .lockedOut p.cause s).answered .ok
          (reply .lockedOut p.mark)))
        ∧ (p.state = .queued → exec (.pumpLockout b) s = .next ((into .lockedOut p.cause { s with pumps := { s.pumps with
            queue := s.pumps.queue.filter fun k => decide (k ≠ n) } }).answered .ok (reply .lockedOut p.mark)))
        ∧ (p.state = .starting ∨ p.state = .running ∨ p.state = .stopping →
            exec (.pumpLockout b) s = .next ((s.modifyPump n fun x => { x with mark := true }).answered .ok
              (reply p.state true)))
        ∧ (p.state = .fault → exec (.pumpLockout b) s = .next ((into .lockedOut .none s).answered .ok
            (reply .lockedOut p.mark)))
        ∧ (p.state = .lockedOut → exec (.pumpLockout b) s = .next (s.answered .ok (reply .lockedOut p.mark)))
        ∧ (p.state ≠ .lockedOut ∨ p.cfg.present = false →
            exec (.pumpRelease b) s = .next (s.answered .wrongState []))
        ∧ (p.state = .lockedOut → p.cfg.present = true → active →
            exec (.pumpRelease b) s = .next (s.answered .notReleasable []))
        ∧ (p.state = .lockedOut → p.cfg.present = true → ¬ active →
            exec (.pumpRelease b) s = .next ((into .idle p.cause s).answered .ok (reply .idle p.mark)))
        ∧ (p.state ≠ .fault → exec (.pumpClear b) s = .next (s.answered .wrongState []))
        ∧ (p.state = .fault → active → exec (.pumpClear b) s = .next (s.answered .notReleasable []))
        ∧ (p.state = .fault → ¬ active →
            exec (.pumpClear b) s = .next ((into .idle .none s).answered .ok (reply .idle p.mark))))

/-- PUMP_SET with the show STOPPED and no save: its checks in order, then the configuration replaced and the fault
cause none (R102). With present no, the fields after it are not read and the last ones stay (DESIGN CHOICE, log
entry 14). -/
def Obligations.PumpSetOutcomes : Prop :=
  ∀ (p : PumpSetParams) (s : State), s.configurable →
    let n := p.pump.toNat
    let c : PumpConfig := ⟨true, p.manifold.toNat, p.rank.toNat, p.rated.toNat, p.minSpeed.toNat, p.ramp.toNat,
      p.startTimeout.toNat, p.stopTimeout.toNat⟩
    let bad := 7 < c.manifold ∨ 15 < c.rank ∨ c.rated = 0 ∨ 20000 < c.rated ∨ c.minSpeed < 100 ∨ 900 < c.minSpeed
      ∨ c.ramp < 10 ∨ 1000 < c.ramp ∨ c.startTimeout < 500 ∨ 30000 < c.startTimeout ∨ c.stopTimeout < 500
      ∨ 60000 < c.stopTimeout
    let taken := ∃ k < 16, k ≠ n ∧ (s.pump k).cfg.present = true ∧ (s.pump k).cfg.manifold = c.manifold
      ∧ (s.pump k).cfg.rank = c.rank
    (15 < n ∨ 1 < p.present.toNat ∨ (p.present = 1 ∧ bad) → exec (.pumpSet p) s = .next (s.answered .badParam []))
    ∧ (n ≤ 15 → p.present = 0 ∨ (p.present = 1 ∧ ¬ bad) →
        ((s.pump n).state ≠ .lockedOut → exec (.pumpSet p) s = .next (s.answered .wrongState []))
        ∧ ((s.pump n).state = .lockedOut → p.present = 1 → taken →
            exec (.pumpSet p) s = .next (s.answered .badParam []))
        ∧ ((s.pump n).state = .lockedOut → p.present = 0 ∨ ¬ taken →
            exec (.pumpSet p) s = .next ((s.modifyPump n fun x => { x with
              cfg := if p.present = 1 then c else { x.cfg with present := false }, cause := .none }).answered .ok [])))

/-! ### Settings that one command replaces -/

/-- TEMPO_SET, MANIFOLD_SET, START_SET, WIND_SET, LINK_SET, LIGHT_MASTER, AUDIO_SET and ZONE_CAP: refused for a field
out of range, else one figure or configuration is replaced and nothing else (R14, R100, R103, R130, R133, R153, R185,
R197). AUDIO_SET takes an outstanding envelope update first (log entry 3) and leaves the master volume of the present
sample period as it is (DEDUCED, log entry 29). -/
def Obligations.SettingsReplaced : Prop :=
  ∀ s : State, s.ready →
    (∀ period anchor, exec (.tempoSet period anchor) s = .next
      (if 0 < period.toNat ∧ period.toNat < 256 then s.answered .badParam []
      else { s with timer := { s.timer with
        grid := if period = 0 then none else some ⟨period, anchor⟩ } }.answered .ok []))
    ∧ (∀ level, exec (.lightMaster level) s = .next
        ({ s with lights := { s.lights with master := level.toNat } }.answered .ok (put2 level.toNat)))
    ∧ (∀ master decay, exec (.audioSet master decay) s = .next
        ({ s.takeEnvelope with decks := { s.takeEnvelope.decks with
          master := min master.toNat 32768, decay := min decay.toNat 8388607 } }.answered .ok
            (put2 (min master.toNat 32768) ++ put4 (min decay.toNat 8388607))))
    ∧ (∀ z cap, exec (.zoneCap z cap) s = .next
        (if 16 < z.toNat ∨ 10000 < cap.toNat then s.answered .badParam []
        else (s.modifyZone z.toNat fun x => { x with cfg := { x.cfg with cap := cap.toNat } }).answered .ok []))
    ∧ (s.configurable →
        (∀ p, exec (.manifoldSet p) s = .next
          (if 7 < p.manifold.toNat ∨ 10000 < p.lead.toNat ∨ 500 < p.headroom.toNat ∨ 60000 < p.destage.toNat then
            s.answered .badParam []
          else (s.modifyManifold p.manifold.toNat fun m =>
            { m with cfg := ⟨p.lead.toNat, p.headroom.toNat, p.destage.toNat⟩ }).answered .ok []))
        ∧ (∀ interval, exec (.startSet interval) s = .next
            (if 30000 < interval.toNat then s.answered .badParam []
            else { s with pumps := { s.pumps with startInterval := interval.toNat } }.answered .ok []))
        ∧ (∀ factor decay, exec (.windSet factor decay) s = .next
            (if 10000 < factor.toNat ∨ 100 < decay.toNat then s.answered .badParam []
            else { s with site := { s.site with factor := factor.toNat, decay := decay.toNat } }.answered .ok []))
        ∧ (∀ mask timeout fade, exec (.linkSet mask timeout fade) s = .next
            (if 60 < timeout.toNat ∨ 60000 < fade.toNat then s.answered .badParam []
            else { s with
              link := { s.link with mask := mask, timeout := timeout.toNat }
              timer := { s.timer with storedFade := fade.toNat } }.answered .ok [])))

/-! ### The site -/

/-- WIND_GATE forms the raw and the held wind, restarts the pulse count and places every zone by Table 6-3, raising
WIND_STATE when a wind state changed (R131, R132, R134, R135); WIND_HOLD_RELEASE takes the gate, whole, when the gate
releases the zone, and otherwise does nothing (R134; the row's reading is a DESIGN CHOICE, log entry 4). With no gate
outstanding both do nothing (DESIGN CHOICE, log entry 3). -/
def Obligations.WindGatePlacesZones : Prop :=
  ∀ (s : State) (z : Fin 17),
    let raw := min 999 (s.site.pulses * s.site.factor / 100)
    let w := max raw (s.site.heldWind - s.site.decay)
    let released := (s.zone z).heedsWind = true ∧ (s.zone z).wind = .windHold ∧ w ≤ (s.zone z).cfg.soft
      ∧ (s.zone z).cfg.hold ≤ (s.zone z).holdCount + 1
    (s.due.wind = false → exec .windGate s = .next s ∧ exec (.windHoldRelease z) s = .next s)
    ∧ (s.due.wind = true → s.sized →
        ∃ t : State, exec .windGate s = .next t
          ∧ exec (.windHoldRelease z) s = .next (if released then t else s)
          ∧ (released → t.zone z = { s.zone z with wind := .clear, holdCount := 0 }
              ∧ t.link.summary.getLsbD 4 = true)
          ∧ t.site = { s.site with zones := t.site.zones, pulses := 0, rawWind := raw, heldWind := w }
          ∧ t.link = (if t.site.zones.map (·.wind) = s.site.zones.map (·.wind) then s.link
              else (s.raise .windState).link)
          ∧ t.due = { s.due with wind := false } ∧ t.pending = s.pending ∧ t.pins = s.pins ∧ t.timer = s.timer
          ∧ t.effects = s.effects ∧ t.nozzles = s.nozzles ∧ t.pumps = s.pumps ∧ t.lights = s.lights
          ∧ t.lines = s.lines ∧ t.clips = s.clips ∧ t.decks = s.decks ∧ t.store = s.store
          ∧ ∀ k < 17,
            let a := s.zone k
            let b := t.zone k
            b.cfg = a.cfg ∧ b.latch = a.latch
            ∧ (a.heedsWind = false → b = a)
            ∧ (a.heedsWind = true → a.wind ≠ .windHold →
                b.holdCount = 0
                ∧ b.wind = (if a.cfg.hard ≤ w then .windHold else if a.cfg.soft < w then .derated else .clear))
            ∧ (a.heedsWind = true → a.wind = .windHold → a.cfg.soft < w → b.wind = .windHold ∧ b.holdCount = 0)
            ∧ (a.heedsWind = true → a.wind = .windHold → w ≤ a.cfg.soft → a.holdCount + 1 < a.cfg.hold →
                b.wind = .windHold ∧ b.holdCount = a.holdCount + 1)
            ∧ (a.heedsWind = true → a.wind = .windHold → w ≤ a.cfg.soft → a.cfg.hold ≤ a.holdCount + 1 →
                b.wind = .clear ∧ b.holdCount = 0))

/-- PRESENCE_DEBOUNCED, LEVEL_LOW and LEVEL_RESTORED act when their input has stood for its time (R137, R138, R142),
and otherwise do nothing (log entry 3): an active presence input latches the enabled zones that name it and those of
their stop groups, raising ZONE_STOP when one was clear. -/
def Obligations.DebouncedInputs : Prop :=
  ∀ (k : Fin 8) (s : State),
    let input := s.pins.presence.getLsbD k
    let site := { s.site with presence := s.site.presence.modify k fun _ => ⟨input, 0⟩ }
    let named := fun z => (s.zone z).cfg.enabled = true ∧ (s.zone z).cfg.presence = some k.val
    let stopped := fun z => z < 16 ∧ (s.zone z).cfg.enabled = true ∧ (named z ∨ ∃ y < 16, named y
      ∧ (s.zone y).cfg.stopGroup ≠ none ∧ (s.zone z).cfg.stopGroup = (s.zone y).cfg.stopGroup)
    ((s.presence k).count < 4800 → exec (.presenceDebounced k) s = .next s)
    ∧ (4800 ≤ (s.presence k).count → input = false →
        exec (.presenceDebounced k) s = .next { s with site := site })
    ∧ (4800 ≤ (s.presence k).count → input = true → s.sized →
        ∃ t : State, exec (.presenceDebounced k) s = .next t
          ∧ t = { s with site := { site with zones := t.site.zones }, link := { s.link with summary := t.link.summary } }
          ∧ (∀ z < 17, (stopped z → t.zone z = { s.zone z with latch := true }) ∧ (¬ stopped z → t.zone z = s.zone z))
          ∧ ((∃ z < 16, stopped z ∧ (s.zone z).latch = false) → t.link = (s.raise .zoneStop).link)
          ∧ ((∀ z < 16, stopped z → (s.zone z).latch = true) → t.link = s.link))
    ∧ exec .levelLow s = .next
        (if s.site.level = .ok ∧ 96000 ≤ s.site.levelCount then
          { s with site := { s.site with level := .low, levelCount := 0 } }.raise .levelLow
        else s)
    ∧ exec .levelRestored s = .next
        (if s.site.level = .low ∧ 1440000 ≤ s.site.levelCount then
          { s with site := { s.site with level := .ok, levelCount := 0 } }
        else s)

/-- ZONE_SET with the show STOPPED and no save: its checks in order (with a wind hard of 0 the wind soft is not
checked), then the configuration replaced, the wind state CLEAR with count 0 (WIND_STATE raised when it was not), a
disabled zone's latch cleared (R129). A zone left enabled with its presence input active is stopped as R138 stops
zones, ZONE_STOP being raised when one of them was clear (that it is done for the input as a whole is DEDUCED, log
entry 13). -/
def Obligations.ZoneSetOutcomes : Prop :=
  ∀ (p : ZoneSetParams) (s : State), s.configurable →
    let z := p.zone.toNat
    let figures := 10000 < p.cap.toNat ∨ 999 < p.hard.toNat ∨ 3600 < p.hold.toNat
      ∨ (0 < p.hard.toNat ∧ (998 < p.soft.toNat ∨ p.hard.toNat ≤ p.soft.toNat))
    let coded := fun (b : Byte) => b.toNat ≤ 7 ∨ b = 255
    let bad := 16 < z ∨ figures ∨ (z < 16 ∧ (1 < p.enabled.toNat ∨ ¬ coded p.stopGroup ∨ ¬ coded p.presence))
      ∨ (z < 16 ∧ p.enabled = 1 ∧ (383 < p.last.toNat ∨ p.last.toNat < p.first.toNat))
    let number := fun (b : Byte) => if b = 255 then none else some b.toNat
    let c : ZoneConfig := if z = 16 then
        { ZoneConfig.defaultZone with
          cap := p.cap.toNat, soft := p.soft.toNat, hard := p.hard.toNat, hold := p.hold.toNat }
      else ⟨p.enabled = 1, p.first.toNat, p.last.toNat, p.cap.toNat, p.soft.toNat, p.hard.toNat, p.hold.toNat,
        number p.stopGroup, number p.presence⟩
    let u := s.modifyZone z fun x => ⟨c, .clear, 0, x.latch && c.enabled⟩
    let v := if (s.zone z).wind = .clear then u else u.raise .windState
    (bad → exec (.zoneSet p) s = .next (s.answered .badParam []))
    ∧ (¬ bad → (c.enabled = false ∨ ∀ k, c.presence = some k → (s.presence k).debounced = false) →
        exec (.zoneSet p) s = .next (v.answered .ok []))
    ∧ (∀ k, ¬ bad → c.enabled = true → c.presence = some k → (s.presence k).debounced = true → s.sized →
        ∃ t : State, exec (.zoneSet p) s = .next (t.answered .ok []) ∧ (t.zone z).latch = true
          ∧ t.due = s.due ∧ t.pins = s.pins ∧ t.timer = s.timer ∧ t.effects = s.effects ∧ t.nozzles = s.nozzles
          ∧ t.pumps = s.pumps ∧ t.lights = s.lights ∧ t.lines = s.lines ∧ t.clips = s.clips ∧ t.decks = s.decks
          ∧ t.store = s.store ∧ t.pending = s.pending
          ∧ t.site = { s.site with zones := t.site.zones }
          ∧
          let named := fun y => (v.zone y).cfg.enabled = true ∧ (v.zone y).cfg.presence = some k
          let stopped := fun y => y < 16 ∧ (v.zone y).cfg.enabled = true ∧ (named y ∨ ∃ w < 16, named w
            ∧ (v.zone w).cfg.stopGroup ≠ none ∧ (v.zone y).cfg.stopGroup = (v.zone w).cfg.stopGroup)
          ((∃ y < 16, stopped y ∧ (v.zone y).latch = false) → t.link = (v.raise .zoneStop).link)
          ∧ ((∀ y < 16, stopped y → (v.zone y).latch = true) → t.link = v.link)
          ∧ ∀ y < 17, (stopped y → t.zone y = { v.zone y with latch := true }) ∧ (¬ stopped y → t.zone y = v.zone y))

/-- ZONE_RELEASE clears the latches of a zone and its stop group and tells how many it cleared, unless an input of one
of them is active (R139); SITE_RELEASE clears the site stop latch, unless the emergency-stop input is (R141). That the
reply's count takes four bytes is DEDUCED (log entry 11). -/
def Obligations.ReleaseCommands : Prop :=
  ∀ (b : Byte) (s : State), s.ready → s.sized →
    let z := b.toNat
    let inSet := fun y => y < 16 ∧ (y = z ∨ ((s.zone y).cfg.enabled = true ∧ (s.zone z).cfg.stopGroup ≠ none
      ∧ (s.zone y).cfg.stopGroup = (s.zone z).cfg.stopGroup))
    let blocked := ∃ y < 16, inSet y ∧ ∃ k, (s.zone y).cfg.presence = some k ∧ (s.presence k).debounced = true
    (15 < z → exec (.zoneRelease b) s = .next (s.answered .badParam []))
    ∧ (z ≤ 15 → (s.zone z).cfg.enabled = false → exec (.zoneRelease b) s = .next (s.answered .wrongState []))
    ∧ (z ≤ 15 → (s.zone z).cfg.enabled = true → blocked →
        exec (.zoneRelease b) s = .next (s.answered .notReleasable []))
    ∧ (z ≤ 15 → (s.zone z).cfg.enabled = true → ¬ blocked →
        ∃ (count : Nat) (t : State), exec (.zoneRelease b) s = .next (t.answered .ok (put4 count))
          ∧ t = { s with site := { s.site with zones := t.site.zones } }
          ∧ (∀ y < 17, (inSet y → t.zone y = { s.zone y with latch := false }) ∧ (¬ inSet y → t.zone y = s.zone y))
          ∧ count + (t.site.zones.filter (·.latch)).length = (s.site.zones.filter (·.latch)).length)
    ∧ exec .siteRelease s = .next
        (if s.pins.stop then s.answered .notReleasable []
        else { s with site := { s.site with stopLatch := false } }.answered .ok [])

/-! ### Light and lines -/

/-- LIGHT_COMPUTATION leaves in each present fixture the figures of R150 to R154, writes their slot values into the
lines' back images (R155) and leaves the rest as it was; one that is not outstanding does nothing, and one whose
boundary has other events outstanding takes the envelope and the scheduler's transitions first (log entry 3). -/
def Obligations.LightComputationPublishes : Prop :=
  ∀ s : State, s.sized →
    (s.due.light = false → exec .lightComputation s = .next s)
    ∧ (∀ u v, s.due.light = true → exec .envelopeUpdate s = .next u → exec .effectBoundary u = .next v →
        exec .lightComputation s = exec .lightComputation v)
    ∧ (s.due.light = true → s.due.envelope = false → s.due.effects = false →
        ∃ t : State, exec .lightComputation s = .next t
          ∧ t = { s with due := { s.due with light := false }, lines := t.lines,
                         lights := { s.lights with table := t.lights.table } }
          ∧ (∀ l < 4, t.line l =
              if lightSlots l t.lights.table = [] then s.line l
              else { s.line l with
                back := putSlots (s.line l).back (lightSlots l t.lights.table), fresh := true })
          ∧ ∀ n < 512,
            let a := s.fixture n
            let b := t.fixture n
            (a.cfg.present = false → b = a)
            ∧ (a.cfg.present = true →
                b.cfg = a.cfg
                ∧ b.composed = s.composeFixture n s.timer.clock
                ∧ (a.cfg.follow = false → b.factor = none)
                ∧ (a.cfg.follow = true → ∀ k, a.cfg.linked = some k → (s.nozzle k).cfg.present = true →
                    b.factor = some (min 65536
                      ((s.nozzle k).live.effective * 65536 / (s.nozzle k).cfg.maxHeight)))
                ∧ (a.cfg.follow = true → (∀ k, a.cfg.linked = some k → (s.nozzle k).cfg.present = false) →
                    b.factor = some 0)
                ∧ b.values = (match a.cfg.layout with
                    | .dim1 => [b.composed.w]
                    | .rgb => [b.composed.r, b.composed.g, b.composed.b]
                    | .rgbw => [b.composed.r, b.composed.g, b.composed.b, b.composed.w]).map fun v =>
                      let v := (match b.factor with
                        | some f => v * f / 65536
                        | none => v) * s.lights.master / 65535
                      BitVec.ofNat 8 (match a.cfg.curve with
                        | .linear => v / 256
                        | .square => v * v / 16842495)))

/-- FIXTURE_SET with the show STOPPED and no save: its checks in order, then the configuration replaced, slots taken
and released, and 0 written into the released ones (R146, R147). With present no, the fields after it are not read and
the last ones stay (DESIGN CHOICE, log entry 14); releasing no slot makes no write (DESIGN CHOICE, log entry 18). -/
def Obligations.FixtureSetOutcomes : Prop :=
  ∀ (p : FixtureSetParams) (s : State), s.configurable →
    let n := p.fixture.toNat
    let old := s.fixture n
    let oldClaim := if old.cfg.present then some (old.cfg.line, fixtureClaims n old.cfg) else none
    (511 < n ∨ 1 < p.present.toNat → exec (.fixtureSet p) s = .next (s.answered .badParam []))
    ∧ (n ≤ 511 → p.present = 0 →
        let c := { old.cfg with present := false }
        let zeros := if old.cfg.present then (fixtureSlots old.cfg).map fun i => (i, (0 : Byte)) else []
        exec (.fixtureSet p) s = .next (((s.moveClaims oldClaim none).writeSlots old.cfg.line zeros).modifyFixture n
          (fun _ => ⟨c, ⟨0, 0, 0, 0⟩, none, List.replicate c.layout.channels.length 0⟩) |>.answered .ok []))
    ∧ (n ≤ 511 → p.present = 1 → fixtureConfigOf p = none → exec (.fixtureSet p) s = .next (s.answered .badParam []))
    ∧ (∀ c, n ≤ 511 → p.present = 1 → fixtureConfigOf p = some c →
        let last := c.first + c.layout.channels.length - 1
        let taken := ∃ k ∈ fixtureSlots c, (s.line c.line).owner k ≠ .free
          ∧ ∀ ch, (s.line c.line).owner k ≠ .fixture n ch
        let zeros := if old.cfg.present then
            ((fixtureSlots old.cfg).filter fun i =>
              !(decide (c.line = old.cfg.line) && (fixtureSlots c).contains i)).map fun i => (i, (0 : Byte))
          else []
        (512 < last → exec (.fixtureSet p) s = .next (s.answered .slotConflict []))
        ∧ (last ≤ 512 → (s.line c.line).cfg.slots < last →
            exec (.fixtureSet p) s = .next (s.answered .badParam []))
        ∧ (last ≤ 512 → last ≤ (s.line c.line).cfg.slots → taken →
            exec (.fixtureSet p) s = .next (s.answered .slotConflict []))
        ∧ (last ≤ 512 → last ≤ (s.line c.line).cfg.slots → ¬ taken →
            exec (.fixtureSet p) s = .next
              (((s.moveClaims oldClaim (some (c.line, fixtureClaims n c))).writeSlots old.cfg.line zeros).modifyFixture n
                (fun x => if old.cfg.present then { x with cfg := c }
                  else ⟨c, ⟨0, 0, 0, 0⟩, none, List.replicate c.layout.channels.length 0⟩) |>.answered .ok [])))

/-- LINE_SET with the show STOPPED and no save, and LINE_GAP_END (R159, R162, R163, R165): an OFF line left enabled
starts its first frame at once; at the end of a frame's gap the next frame starts under the configuration then in
force, or a disabled line goes OFF. A frame start takes the back image when it is fresh and counts a held frame
otherwise; the sub-period instants of R160 are not modelled (log entry 16). Before the end of the gap, and on an OFF
line, LINE_GAP_END does nothing (DESIGN CHOICE, log entry 3). -/
def Obligations.LineOutcomes : Prop :=
  ∀ s : State,
    let frame := fun (clocks : Nat) (x : Line) => { x with
      run := x.cfg, sending := true, clocks := clocks, address := x.frames.setWidth 8
      front := if x.fresh then x.back else x.front, fresh := false
      held := if x.fresh then x.held else x.held + 1, frames := x.frames + 1 }
    (∀ p : LineSetParams, s.configurable →
      let l := p.line.toNat
      let slots := p.slots.toNat
      let bad := 3 < l ∨ 1 < p.enabled.toNat ∨ p.divider = 0 ∨ (1 ≤ slots ∧ slots ≤ 7) ∨ 512 < slots
        ∨ p.gap.toNat < 2 ∨ (slots = 0 ∧ p.enabled = 1)
        ∨ ∃ k < 512, slots ≤ k ∧ (s.line l).owners.getD k .free ≠ .free
      let c : LineConfig := ⟨p.enabled = 1, p.divider.toNat, slots, p.gap.toNat⟩
      (bad → exec (.lineSet p) s = .next (s.answered .badParam []))
      ∧ (¬ bad → exec (.lineSet p) s = .next ((s.modifyLine l fun x =>
          if x.sending = false ∧ c.enabled = true then frame 0 { x with cfg := c } else { x with cfg := c }).answered
            .ok [])))
    ∧ ∀ l : Fin 4,
      let x := s.line l
      let length := (12 * (x.run.slots + 1) + x.run.gap) * (16 * (x.run.divider + 1))
      (x.sending = false ∨ x.clocks < length → exec (.lineGapEnd l) s = .next s)
      ∧ (x.sending = true → length ≤ x.clocks → s.sized → x.cfg.enabled = true →
          exec (.lineGapEnd l) s = .next (s.modifyLine l fun _ => frame (x.clocks - length) x))
      ∧ (x.sending = true → length ≤ x.clocks → s.sized → x.cfg.enabled = false →
          exec (.lineGapEnd l) s = .next (s.modifyLine l fun _ => { x with sending := false, clocks := 0 }))

/-! ### Clips and decks -/

/-- CLIP_CREATE takes the lowest-numbered FREE slot and the lowest-numbered free pages, in ascending order (R168,
R169, R170), and its reply carries the number of pages in four bytes (the width DEDUCED, log entry 11); CLIP_RETIRE
frees a clip no deck holds and marks any other RETIRING (R174; the outcome codes are the model's, DESIGN CHOICE, log
entry 23). -/
def Obligations.ClipCreateAndRetire : Prop :=
  ∀ s : State, s.ready → s.sized →
    (∀ channels length,
      let need := (length.toNat * (channels.toNat * 2) + 65535) / 65536
      let bad := (channels ≠ 1 ∧ channels ≠ 2) ∨ length = 0 ∨ 67108864 < length.toNat
      (bad → exec (.clipCreate channels length) s = .next (s.answered .badParam []))
      ∧ (¬ bad → (∀ e ∈ s.clips.slots, e.clip ≠ none) →
          exec (.clipCreate channels length) s = .next (s.answered .tableFull []))
      ∧ (∀ i < 64, ¬ bad → (s.clipSlot i).clip = none → (∀ j < i, (s.clipSlot j).clip ≠ none) →
          (s.freePages.length < need → exec (.clipCreate channels length) s = .next (s.answered .noSpace []))
          ∧ (need ≤ s.freePages.length →
              let gen := nextGeneration (s.clipSlot i).gen
              ∃ (pages : List Nat) (t : State), exec (.clipCreate channels length) s =
                  .next (t.answered .ok (put2 (handleOf i gen).toNat ++ put4 need))
              ∧ t = { s with clips := { s.clips with
                  owner := t.clips.owner
                  slots := s.clips.slots.set i ⟨gen, some ⟨.loading, channels.toNat, length.toNat, pages,
                    List.replicate need false, 0, 0⟩⟩ } }
              ∧ pages.length = need ∧ pages.Pairwise (· < ·)
              ∧ (∀ q ∈ pages, q < 2048 ∧ s.clips.owner.getD q none = none)
              ∧ (∀ q < 2048, s.clips.owner.getD q none = none → q ∉ pages → ∀ q' ∈ pages, q' < q)
              ∧ ∀ q < 2048, t.clips.owner.getD q none =
                  if q ∈ pages then some i else s.clips.owner.getD q none)))
    ∧ ∀ h,
      (s.lookupClip h = none → exec (.clipRetire h) s = .next (s.answered .staleHandle []))
      ∧ ∀ c, s.lookupClip h = some c →
        (c.state ≠ .retiring → c.refs = 0 →
          exec (.clipRetire h) s = .next ({ s with clips := { s.clips with
            slots := s.clips.slots.modify (handleSlot h) fun e => { e with clip := none }
            owner := s.clips.owner.map fun o => if o = some (handleSlot h) then none else o } }.answered .ok (put1 0)))
        ∧ (c.state = .retiring ∨ 0 < c.refs →
            exec (.clipRetire h) s = .next ((s.modifyClipSlot (handleSlot h) fun e =>
              { e with clip := some { c with state := .retiring } }).answered .ok (put1 3)))

/-- CLIP_BLOCK: nothing arrives on a DETACHED link; full packets leave the transfer in progress, with what goes beyond a
block discarded, and the short packet ends it (R189, R196): a block that fails a check is discarded with the rejection
record replaced and CLIP_REJECT raised; an accepted one is written into its page, its flag set and the loaded prefix
formed (R171, R172, R173, R196). That the row brings the packets is the model's reading (DESIGN CHOICE, log
entry 20). -/
def Obligations.ClipBlockOutcomes : Prop :=
  (∀ (ps qs : List (List Byte)) (s u : State), exec (.clipBlock ps) s = .next u →
    exec (.clipBlock (ps ++ qs)) s = exec (.clipBlock qs) u)
  ∧ (∀ (packet : List Byte) (s : State), 64 < packet.length → exec (.clipBlock [packet]) s = .next s)
  ∧ ∀ (packets : List (List Byte)) (last : List Byte) (s : State), (∀ p ∈ packets, p.length = 64) → last.length < 64 →
    let before := s.link.clipTransfer.getD [] ++ packets.flatten
    let transfer := before ++ last
    let row := Instr.clipBlock (packets ++ [last])
    let ended := { s with link := { s.link with clipTransfer := none } }
    let rejected := fun (h : Half) (page : Quad) (reason : ResultCode) =>
      { s with link := { s.link with clipTransfer := none, rejection := ⟨h, page, reason⟩ } }.raise .clipReject
    (s.link.attached = false → exec (.clipBlock packets) s = .next s ∧ exec row s = .next s)
    ∧ (s.link.attached = true → packets ≠ [] → exec (.clipBlock packets) s =
        .next { s with link := { s.link with clipTransfer := some (before.take 65545) } })
    ∧ (s.link.attached = true →
        (transfer.length < 8 → exec row s = .next (rejected 0 0 .badLength))
        ∧ (8 ≤ transfer.length →
            let h := halfOf (transfer.getD 0 0) (transfer.getD 1 0)
            let page := quadOf (transfer.getD 2 0) (transfer.getD 3 0) (transfer.getD 4 0) (transfer.getD 5 0)
            let data := transfer.drop 8
            (65544 < transfer.length → exec row s = .next (rejected h page .badLength))
            ∧ (transfer.length ≤ 65544 → s.lookupClip h = none →
                exec row s = .next (rejected h page .staleHandle))
            ∧ ∀ c, transfer.length ≤ 65544 → s.lookupClip h = some c →
              let size := if page.toNat + 1 < c.pages.length then 65536
                else c.length * (c.channels * 2) - (c.pages.length - 1) * 65536
              (c.state = .retiring → exec row s = .next (rejected h page .wrongState))
              ∧ (c.state ≠ .retiring → c.pages.length ≤ page.toNat →
                  exec row s = .next (rejected h page .badParam))
              ∧ (c.state ≠ .retiring → page.toNat < c.pages.length → data.length ≠ size →
                  exec row s = .next (rejected h page .badLength))
              ∧ (c.state ≠ .retiring → page.toNat < c.pages.length → data.length = size →
                  let base := c.pages.getD page.toNat 0 * 65536
                  let loaded := c.loaded.set page.toNat true
                  let ready := c.state = .loading ∧ ∀ b ∈ loaded, b = true
                  ∃ t : State, exec row s = .next t
                    ∧ t = { s with clips := { s.clips with slots := t.clips.slots, memory := t.clips.memory },
                                   link := { ended.link with summary := t.link.summary } }
                    ∧ (∀ a, SampleMemory.byte? t.clips.memory a =
                        if base ≤ a ∧ a < base + data.length then data[a - base]?
                        else SampleMemory.byte? s.clips.memory a)
                    ∧ (ready → t.link = (ended.raise .clipReady).link
                        ∧ t.lookupClip h = some { c with state := .ready, loaded := loaded, loadedPrefix := c.length })
                    ∧ (¬ ready → t.link = ended.link
                        ∧ t.lookupClip h = some { c with
                          loaded := loaded
                          loadedPrefix := min c.length
                            ((loaded.takeWhile id).length * 65536 / (c.channels * 2)) })
                    ∧ ∀ i, i ≠ handleSlot h → t.clipSlot i = s.clipSlot i)))

/-- DECK_CUE, DECK_START, DECK_STOP and DECK_GAIN: their checks in order, then the deck's figures (R176, R177, R178,
R182, R183). A deck that becomes EMPTY keeps what it gave in the present period (`given`, DESIGN CHOICE, log entry
19). -/
def Obligations.DeckCommandOutcomes : Prop :=
  ∀ (d : Byte) (s : State), s.ready → s.sized →
    let k := s.deck d.toNat
    let emptied := (s.releaseHeld d.toNat).modifyDeck d.toNat fun x => { Deck.blank with given := x.given }
    (1 < d.toNat →
      (∀ h cue, exec (.deckCue d h cue) s = .next (s.answered .badParam []))
      ∧ (∀ code start, exec (.deckStart d code start) s = .next (s.answered .badParam []))
      ∧ (∀ ramp, exec (.deckStop d ramp) s = .next (s.answered .badParam []))
      ∧ (∀ target ramp, exec (.deckGain d target ramp) s = .next (s.answered .badParam [])))
    ∧ (d.toNat ≤ 1 →
        (∀ h cue,
          (k.sounding = true → exec (.deckCue d h cue) s = .next (s.answered .busy []))
          ∧ (k.sounding = false → s.lookupClip h = none →
              exec (.deckCue d h cue) s = .next (s.answered .staleHandle []))
          ∧ ∀ c, k.sounding = false → s.lookupClip h = some c →
              (c.state = .retiring → exec (.deckCue d h cue) s = .next (s.answered .wrongState []))
              ∧ (c.state ≠ .retiring → c.length ≤ cue.toNat →
                  exec (.deckCue d h cue) s = .next (s.answered .badParam []))
              ∧ (c.state ≠ .retiring → cue.toNat < c.length →
                  exec (.deckCue d h cue) s = .next ((((s.releaseHeld d.toNat).takeClip h).modifyDeck d.toNat fun x =>
                    { x with state := .cued, clip := some h, cue := cue.toNat }).answered .ok [])))
        ∧ (∀ code start,
            let t := if code = 1 then s.timer.clock else start
            (2 ≤ code.toNat → exec (.deckStart d code start) s = .next (s.answered .badParam []))
            ∧ (code.toNat ≤ 1 → s.timer.showState = .ending →
                exec (.deckStart d code start) s = .next (s.answered .wrongShowState []))
            ∧ (code.toNat ≤ 1 → s.timer.showState ≠ .ending → k.state ≠ .cued →
                exec (.deckStart d code start) s = .next (s.answered .wrongState []))
            ∧ (code.toNat ≤ 1 → s.timer.showState ≠ .ending → k.state = .cued →
                exec (.deckStart d code start) s = .next ((s.modifyDeck d.toNat fun x =>
                  { x with state := .waiting, start := t }).answered .ok (put4 t.toNat))))
        ∧ (∀ ramp : Half,
            let ms := min ramp.toNat 60000
            (k.state = .empty → exec (.deckStop d ramp) s = .next (s.answered .ok (put1 0)))
            ∧ (k.state = .cued ∨ k.state = .waiting →
                exec (.deckStop d ramp) s = .next (emptied.answered .ok (put1 0)))
            ∧ (k.state = .playing ∨ k.state = .starved → ms = 0 ∨ k.gain = 0 →
                exec (.deckStop d ramp) s = .next ((emptied.raise .deckEnded).answered .ok (put1 0)))
            ∧ (k.state = .playing ∨ k.state = .starved → 0 < ms → 0 < k.gain →
                exec (.deckStop d ramp) s = .next ((s.modifyDeck d.toNat fun x =>
                  { x with target := 0, step := (k.gain + ms * 48 - 1) / (ms * 48), stopPending := true }).answered .ok
                    (put1 k.state.code))))
        ∧ (∀ target ramp : Half,
            let goal := min target.toNat 32768
            let ms := min ramp.toNat 60000
            (k.stopPending = true → exec (.deckGain d target ramp) s = .next (s.answered .busy []))
            ∧ (k.stopPending = false → ms = 0 →
                exec (.deckGain d target ramp) s = .next ((s.modifyDeck d.toNat fun x =>
                  { x with target := goal, gain := goal, step := 0 }).answered .ok []))
            ∧ (k.stopPending = false → 0 < ms →
                exec (.deckGain d target ramp) s = .next ((s.modifyDeck d.toNat fun x =>
                  { x with target := goal,
                           step := (max goal k.gain - min goal k.gain + ms * 48 - 1) / (ms * 48) }).answered .ok []))))

/-- DECK_PERIOD takes both decks through their four steps in a sample period of RUNNING or ENDING (R179 to R182), once
(log entry 3), after what ended the show at the end of the last period: an emergency stop sampled in it, the expiry of
the silence timer, the end time (R11, R13, R17; DEDUCED, log entry 37). DECK_BEGIN takes that processing, whole, when
it begins the deck (R180; DESIGN CHOICE, log entry 4), and DECK_STOP_COMPLETE is the completion of a pending stop
(R183; at the end of its period, log entry 3). -/
def Obligations.DeckPeriods : Prop :=
  ∀ s : State, s.clipsOk →
    let runs := fun (u : State) => u.timer.showState = .running ∨ u.timer.showState = .ending
    let opens := runs s ∧ s.due.decksDone = false
    let ends := s.due.stop = true ∨ s.silenceExpired = true ∨ s.atEndTime = true
    let due := opens ∧ ¬ ends
    let moved := fun (k : Deck) =>
      if k.gain < k.target then min k.target (k.gain + k.step) else max k.target (k.gain - k.step)
    let emptied := fun (d : Nat) => (s.releaseHeld d).modifyDeck d fun x => { Deck.blank with given := x.given }
    (¬ opens → exec .deckPeriod s = .next s ∧ ∀ d, exec (.deckBegin d) s = .next s)
    ∧ (opens → s.due.stop = true → exec .deckPeriod s = exec .emergencyStopAssertion s)
    ∧ (opens → s.due.stop = false → s.silenceExpired = true →
        ∃ u : State, exec .silenceTimerExpiry s = .next u ∧ exec .deckPeriod s = exec .deckPeriod u)
    ∧ (opens → s.due.stop = false → s.atEndTime = true → exec .deckPeriod s = exec .endTimeReached s)
    ∧ (due → ∃ t : State, exec .deckPeriod s = .next t
        ∧ t = { s with due := { s.due with decksDone := true }, clips := t.clips, decks := t.decks,
                       link := { s.link with summary := t.link.summary } }
        ∧ t.decks = { s.decks with table := t.decks.table } ∧ t.clips.memory = s.clips.memory
        ∧ ∀ d < 2,
          let k := s.deck d
          let begins := k.state = .waiting ∧ atOrAfter s.timer.clock k.start = true
          let first := k.cue + (s.timer.clock - k.start).toNat
          let p := if k.state = .waiting then first else k.position
          let plays := (begins ∧ first < s.deckLength d) ∨ k.state = .playing ∨ k.state = .starved
          (¬ begins → k.state ≠ .playing → k.state ≠ .starved →
            t.deck d = { k with given := Stereo.zero, gain := moved k })
          ∧ (begins → s.deckLength d ≤ first → t.deck d = Deck.blank ∧ t.link.summary.getLsbD 11 = true)
          ∧ (plays → ∀ c, s.deckClip d = some c →
              let starves := c.loadedPrefix ≤ p
              let given := if starves then Stereo.zero else deckContribution (c.frame s.clips.memory p) k.gain
              (starves → k.state ≠ .starved → t.link.summary.getLsbD 10 = true)
              ∧ (p + 1 = c.length →
                  t.deck d = { Deck.blank with given := given } ∧ t.link.summary.getLsbD 11 = true)
              ∧ (p + 1 ≠ c.length →
                  t.deck d = { k with
                    state := if starves then .starved else .playing
                    position := p + 1, gain := moved k, given := given })))
    ∧ (opens → ∀ d : Fin 2,
        let u := s.takeShowEnds
        let begins := runs u ∧ (u.deck d).state = .waiting ∧ atOrAfter u.timer.clock (u.deck d).start = true
        ∃ t : State, exec .deckPeriod s = .next t ∧ exec (.deckBegin d) s = .next (if begins then t else s)
          ∧ (¬ ends → u = s))
    ∧ ∀ d : Fin 2,
      ((s.deck d).stopPending = true → (s.deck d).gain = 0 →
        exec (.deckStopComplete d) s = .next ((emptied d).raise .deckEnded))
      ∧ ((s.deck d).stopPending = false ∨ (s.deck d).gain ≠ 0 → exec (.deckStopComplete d) s = .next s)

/-! ### The Show Link -/

/-- LINK_ATTACH, LINK_RESET and MALFORMED_COMMAND (R190, R192, R194): a link reset empties the reply queue, discards the
command and the clip transfer in progress and raises the cut-off bits again; a malformed transfer is answered with its
framing result. On a transfer that passes the framing checks the last row does nothing (DESIGN CHOICE, log
entry 26). -/
def Obligations.LinkEvents : Prop :=
  ∀ s : State,
    exec .linkAttach s = .next { s with link := { s.link with attached := true } }
    ∧ (s.linkOk → exec .linkReset s = .next { s with link := { s.link with
        attached := false, replies := [], transfer := none, clipTransfer := none, notice := none
        summary := s.link.summary ||| ((s.link.replies.head?.bind (·.snapshot)).getD 0 ||| s.link.notice.getD 0) } })
    ∧ (∀ transfer, s.ready →
        (512 < transfer.length ∨ transfer = [] →
          exec (.malformedCommand transfer) s = .next (s.answered .badLength []))
        ∧ (∀ code params, transfer = code :: params → transfer.length ≤ 512 →
            (readerOf code (decide (transfer.length = 53)) = none →
              exec (.malformedCommand transfer) s = .next (s.answered .unknownCommand []))
            ∧ (∀ r, readerOf code (decide (transfer.length = 53)) = some r →
                (whole (r params) = none → exec (.malformedCommand transfer) s = .next (s.answered .badLength []))
                ∧ ((whole (r params)).isSome = true → exec (.malformedCommand transfer) s = .next s))))

/-- REPLY_POLL sends the head reply packet by packet, its snapshot taken from the summary when it starts, and frees
its place with its short packet; NOTICE_POLL sends a snapshot when the masked summary has a bit set (R193, R194, R195,
R204). A packet or notice that the show computer does not accept goes again (DESIGN CHOICE, log entry 8). -/
def Obligations.PollOutcomes : Prop :=
  ∀ (accepted : Bool) (s : State),
    let l := s.link
    (l.attached = false ∨ l.replies = [] →
      exec (.replyPoll accepted) s = .next { s with link := { l with lastPacket := none } })
    ∧ (∀ r rest, l.attached = true → l.replies = r :: rest →
        let snapshot := r.snapshot.getD l.summary
        let bytes := put1 r.result.code ++ put1 r.showState.code ++ put2 snapshot.toNat ++ r.payload
        let packet := (bytes.drop (64 * r.accepted)).take 64
        let begun := { r with snapshot := some snapshot }
        exec (.replyPoll accepted) s = .next { s with link := { l with
          summary := if r.snapshot = none then 0 else l.summary
          lastPacket := some packet
          replies := if accepted = false then begun :: rest
            else if packet.length < 64 then rest
            else { begun with accepted := r.accepted + 1 } :: rest } })
    ∧ (l.attached = false ∨ (l.notice = none ∧ l.summary &&& l.mask = 0) →
        exec (.noticePoll accepted) s = .next { s with link := { l with lastNotice := none } })
    ∧ (l.attached = true → l.notice = none → l.summary &&& l.mask ≠ 0 →
        exec (.noticePoll accepted) s = .next { s with link := { l with
          summary := 0, notice := if accepted then none else some l.summary, lastNotice := some l.summary } })
    ∧ (∀ snapshot, l.attached = true → l.notice = some snapshot →
        exec (.noticePoll accepted) s = .next { s with link := { l with
          notice := if accepted then none else some snapshot, lastNotice := some snapshot } })

/-! ### The Configuration Store and the full reset -/

/-- STORE_SAVE takes its snapshot of every item and invalidates the image; SAVE_COMPLETION, 43,200 sample periods
later, makes the image valid with it and raises STORE_DONE (R200). Before that, and with no save in progress,
SAVE_COMPLETION does nothing (DESIGN CHOICE, log entry 3). -/
def Obligations.StoreOutcomes : Prop :=
  ∀ s : State,
    (s.configurable → exec .storeSave s = .next ({ s with store := { s.store with
      snapshot := s.siteConfig, marker := false, saving := true, count := 0 } }.answered .ok []))
    ∧ (s.store.saving = true → 43200 ≤ s.store.count →
        exec .saveCompletion s = .next ({ s with store := { s.store with
          image := s.store.snapshot, marker := true, checkMatches := true, saving := false, count := 0 } }.raise
            .storeDone))
    ∧ (s.store.saving = false ∨ s.store.count < 43200 → exec .saveCompletion s = .next s)

/-- FULL_RESET ends a save, keeps the image as it stands and starts up: from a valid image every item of it is loaded,
otherwise the site defaults are (R199, R200, R201, and the reset rule of each block); a configured and enabled line
stands in its first frame, and slots are owned by the loaded nozzles and fixtures (R166). What waits in the queue stays
(DESIGN CHOICE, log entry 27); the pins read inactive, sample memory lists nothing and the pipes' record is empty
(DESIGN CHOICE, log entries 5, 10 and 25); the snapshot of no save reads the site defaults (DESIGN CHOICE, log entry 9),
a line's frame figures and clocks are the model's (DESIGN CHOICE, log entry 16), and so are the zeros in the fields of an
entry that the site defaults leave absent or unconfigured (DESIGN CHOICE, log entries 14 and 24); that the first frame
counts as a held one is DEDUCED (log entry 22). -/
def Obligations.FullResetOutcomes : Prop :=
  ∀ s : State,
    let store := { s.store with
      saving := false, count := 0, snapshot := SiteConfig.defaults, loadedValid := s.store.marker && s.store.checkMatches }
    (s.store.marker = false ∨ s.store.checkMatches = false →
      exec .fullReset s = .next { State.reset with pending := s.pending, store := store })
    ∧ (s.store.marker = true → s.store.checkMatches = true →
        let c := s.store.image
        ∃ t : State, exec .fullReset s = .next t ∧ t.pending = s.pending ∧ t.store = store ∧ t.siteConfig = c
          ∧ t.due = State.reset.due ∧ t.pins = State.reset.pins
          ∧ t.timer = { State.reset.timer with storedFade := c.storedFade }
          ∧ t.effects = State.reset.effects ∧ t.clips = State.reset.clips ∧ t.decks = State.reset.decks
          ∧ t.link = { State.reset.link with timeout := c.timeout }
          ∧ t.nozzles.frames = State.reset.nozzles.frames ∧ t.nozzles.phase = 0
          ∧ (∀ z ∈ t.nozzles.table, z.live = NozzleLive.zero)
          ∧ t.pumps = { State.reset.pumps with
              manifolds := t.pumps.manifolds, table := t.pumps.table, startInterval := c.startInterval }
          ∧ (∀ m ∈ t.pumps.manifolds, m = { Manifold.blank with cfg := m.cfg })
          ∧ (∀ p ∈ t.pumps.table, p = { Pump.blank with cfg := p.cfg })
          ∧ t.site = { State.reset.site with zones := t.site.zones, factor := c.factor, decay := c.decay }
          ∧ (∀ z ∈ t.site.zones, z.wind = .clear ∧ z.holdCount = 0 ∧ z.latch = false)
          ∧ t.lights = { State.reset.lights with table := t.lights.table }
          ∧ (∀ x ∈ t.lights.table, x.composed = ⟨0, 0, 0, 0⟩ ∧ x.factor = none ∧ ∀ v ∈ x.values, v = 0)
          ∧ (∀ x ∈ t.lines, x.sending = (x.cfg.enabled && decide (x.cfg.slots ≠ 0)) ∧ x.run = x.cfg ∧ x.clocks = 0
              ∧ x.address = 0 ∧ x.frames = (if x.sending then 1 else 0) ∧ x.held = (if x.sending then 1 else 0)
              ∧ (∀ v ∈ x.front, v = 0) ∧ (∀ v ∈ x.back, v = 0) ∧ x.fresh = false)
          ∧ (c.lines.length = 4 → ∀ l < 4, (t.line l).owners =
              (Line.blank.claim (nozzleClaimsOn l c.nozzles ++ fixtureClaimsOn l c.fixtures)).owners))

/-! ### The sample period -/

/-- SAMPLE_PERIOD, with nothing outstanding, advances every count of the part by one period and notes the boundaries
reached (R1, R2, R3, R16, R107, R109, R117, R142, R160, R200); the decks and the mixer do their part (R179, R183,
R185); the inputs are sampled (R131, R137, R140). The row stands for a whole period, with its inputs (DESIGN CHOICE,
log entries 3 and 5); that the mixer takes what a deck gave in the period whatever state the deck has since come to
(DESIGN CHOICE, log entry 19), and that the master volume an AUDIO_SET gives counts from the period after the one that
the next SAMPLE_PERIOD ends (DEDUCED, log entry 29), are the model's readings beside R185. Periods that find something
outstanding are the subject of `EnvelopeAndSettling`. -/
def Obligations.SamplePeriodCounts : Prop :=
  ∀ (i : Inputs) (s u : State), s.quiet → s.sized → exec .deckPeriod s = .next u →
    let phase := fun (interval p : Nat) => if p + 1 = interval then 0 else p + 1
    let out : Stereo := if s.timer.showState = .held then Stereo.zero
      else ⟨mixSample (u.deck 0).given.left (u.deck 1).given.left s.decks.masterNow,
        mixSample (u.deck 0).given.right (u.deck 1).given.right s.decks.masterNow⟩
    ∃ t : State, exec (.samplePeriod i) s = .next t
      ∧ t.timer = { s.timer with
          device := s.timer.device + 1
          clock := match s.timer.showState with
            | .running => s.timer.clock + 1
            | .ending => s.timer.clock + 1
            | .held => s.timer.clock
            | .stopped => 0 }
      ∧ t.nozzles = { s.nozzles with phase := phase 480 s.nozzles.phase }
      ∧ t.lights = { s.lights with phase := phase 960 s.lights.phase }
      ∧ t.pumps = { s.pumps with
          phase := phase 4800 s.pumps.phase
          table := s.pumps.table.map fun p =>
            { p with timer := if p.state = .starting ∨ p.state = .stopping then p.timer + 1 else p.timer }
          manifolds := s.pumps.manifolds.map fun m => { m with destage := m.destage.map (· + 1) } }
      ∧ t.site = { s.site with
          phase := phase 48000 s.site.phase
          pulses := if s.site.lastAnemometer = some false ∧ i.anemometer = true then min 65535 (s.site.pulses + 1)
            else s.site.pulses
          lastAnemometer := some i.anemometer
          presence := t.site.presence
          levelCount := if i.basinLow = decide (s.site.level = .ok) then s.site.levelCount + 1 else 0 }
      ∧ (∀ k < 8, t.presence k = { s.presence k with
          count := if i.presence.getLsbD k = (s.presence k).debounced then 0 else (s.presence k).count + 1 })
      ∧ t.lines = s.lines.map (fun l => { l with clocks := if l.sending then l.clocks + 1000 else l.clocks })
      ∧ t.store = { s.store with count := if s.store.saving then s.store.count + 1 else s.store.count }
      ∧ t.link.silence =
          (if s.runningOrHeld = true ∧ 0 < s.link.timeout then s.link.silence + 1 else s.link.silence)
      ∧ t.due = ⟨decide (phase 480 s.nozzles.phase = 0), decide (phase 480 s.nozzles.phase = 0),
          decide (phase 480 s.nozzles.phase = 0), decide (phase 960 s.lights.phase = 0),
          decide (phase 4800 s.pumps.phase = 0), decide (phase 48000 s.site.phase = 0),
          i.stop && !s.pins.stop, false⟩
      ∧ t.decks.out = out
      ∧ t.decks.peak = max s.decks.peak (max out.left.natAbs out.right.natAbs)
      ∧ t.decks.master = s.decks.master ∧ t.decks.masterNow = s.decks.master
      ∧ t.decks.decay = s.decks.decay ∧ t.decks.envelope = s.decks.envelope
      ∧ (∀ d < 2,
          (((u.deck d).stopPending = true ∧ (u.deck d).gain = 0) → t.deck d = Deck.blank
            ∧ t.link.summary.getLsbD 11 = true)
          ∧ (¬ ((u.deck d).stopPending = true ∧ (u.deck d).gain = 0) →
              t.deck d = { u.deck d with given := Stereo.zero }))
      ∧ t.pins = i ∧ t.pending = s.pending ∧ t.effects = s.effects ∧ t.clips.memory = s.clips.memory
      ∧ { t.link with silence := s.link.silence, summary := s.link.summary } = s.link

/-- ENVELOPE_UPDATE, at a jet boundary that is outstanding, forms the audio envelope from the peak and the decay and
starts the next peak from 0; otherwise it does nothing (R186, log entry 3). Whatever is outstanding is taken by the next
SAMPLE_PERIOD: after it, the only boundary events outstanding are those of the boundaries it reaches. -/
def Obligations.EnvelopeAndSettling : Prop :=
  ∀ s : State,
    (s.due.envelope = false → exec .envelopeUpdate s = .next s)
    ∧ (s.due.envelope = true → exec .envelopeUpdate s = .next { s with
        due := { s.due with envelope := false }
        decks := { s.decks with
          envelope := max (min s.decks.peak 8388607) (s.decks.envelope - s.decks.decay), peak := 0 } })
    ∧ ∀ i, ∃ t : State, exec (.samplePeriod i) s = .next t
        ∧ (t.due.envelope = true ↔ t.nozzles.phase = 0) ∧ (t.due.effects = true ↔ t.nozzles.phase = 0)
        ∧ (t.due.jet = true ↔ t.nozzles.phase = 0) ∧ (t.due.light = true ↔ t.lights.phase = 0)
        ∧ (t.due.pump = true ↔ t.pumps.phase = 0) ∧ (t.due.wind = true ↔ t.site.phase = 0)
        ∧ t.timer.device = s.timer.device + 1

/-! ### Messages -/

/-- The framing checks read back what the encoder writes, for every well-formed command; and what they read is well
formed and a command message (R192, R203). -/
def Obligations.CommandBytesRoundTrip : Prop :=
  (∀ (c : Instr) (bytes : List Byte), c.wellFormed = true → encodeCommand c = some bytes →
    frameTransfer bytes = .command c)
  ∧ ∀ (bytes : List Byte) (c : Instr), frameTransfer bytes = .command c →
    c.wellFormed = true ∧ (encodeCommand c).isSome = true

/-! ### The signals the part drives -/

/-- The signals the part drives, in every state: run outputs and speed references (R104), the level of each slot line,
mark being `true` (R161, R162), and the 64 bits of a word-clock period of the audio output (R187). That they are read
off the state, a line's level at the clocks counted so far, is the model's choice (DESIGN CHOICE, log entries 16 and
31). -/
def Obligations.DrivenSignals : Prop :=
  (∀ (s : State) (n : Nat),
    (s.runOutput n = true ↔ (s.pump n).state = .starting ∨ (s.pump n).state = .running)
    ∧ s.speedReference n = if s.runOutput n = true then (s.pump n).command else 0)
  ∧ (∀ l : Line,
      let bit := l.clocks / (16 * (l.run.divider + 1))
      let k := bit / 12
      let value := if k = 0 then l.address else l.front.getD (k - 1) 0
      (l.sending = false → l.output = true)
      ∧ (l.sending = true → 12 * (l.run.slots + 1) ≤ bit → l.output = true)
      ∧ (l.sending = true → bit < 12 * (l.run.slots + 1) →
          (bit % 12 = 0 → l.output = false)
          ∧ (1 ≤ bit % 12 → bit % 12 ≤ 8 → l.output = value.getLsbD (bit % 12 - 1))
          ∧ (bit % 12 = 9 → l.output = decide (k = 0))
          ∧ (10 ≤ bit % 12 → l.output = true)))
  ∧ ∀ (s : State) (i : Nat),
      s.audioBits.length = 64
      ∧ (i < 24 →
          s.audioBits[i]? = some (decide (s.decks.out.left / (2 ^ (23 - i) : Int) % 2 = 1))
          ∧ s.audioBits[32 + i]? = some (decide (s.decks.out.right / (2 ^ (23 - i) : Int) % 2 = 1)))
      ∧ (24 ≤ i → i < 32 → s.audioBits[i]? = some false ∧ s.audioBits[32 + i]? = some false)

/-! ### Invariants of every step -/

/-- The show state's promises are kept by every step (R3, R6, R10, R16, R26, R36, R49, R50), and every table keeps its
size. -/
def Obligations.ShowStateKept : Prop := ∀ s t : State, s.showOk → step s = .next t → t.showOk

/-- Reference counts keep agreeing with the effect table (R43), and add sequences stay distinct and below the add
counter (R22). -/
def Obligations.EffectTableKept : Prop :=
  (∀ s t : State, s.groupsOk → step s = .next t → t.groupsOk)
  ∧ ∀ s t : State, s.addSeqOk → step s = .next t → t.addSeqOk

/-- The start queue keeps holding exactly the QUEUED pumps, at most one pump is STARTING, an absent pump is LOCKED_OUT
and a suspended part runs none (R101, R112, R119); the published supply keeps agreeing with the running pumps (R120),
from every state in which the queue holds the QUEUED pumps. -/
def Obligations.PumpsKept : Prop :=
  (∀ s t : State, s.pumpsOk → step s = .next t → t.pumpsOk)
  ∧ ∀ s t : State, s.pumpsOk → s.supplyOk → step s = .next t → t.supplyOk

/-- Clips, page owners, reference counts, decks and the form of sample memory keep agreeing, and a RETIRING clip is held
by some deck (R168 to R176). -/
def Obligations.ClipStoreKept : Prop := ∀ s t : State, s.clipsOk → step s = .next t → t.clipsOk

/-- Levels and the audio envelope stay in range (R24, R186), wind states keep agreeing with the held wind (R134), and
valve positions stay in 0..1000 (R88). The reply queue never holds more than four places, only its head has begun to go
out, a DETACHED link holds nothing in progress, and a transfer in progress has brought a full packet (R189, R190, R191,
R193). -/
def Obligations.FiguresKept : Prop :=
  (∀ s t : State, s.levelsOk → step s = .next t → t.levelsOk)
  ∧ (∀ s t : State, s.windOk → step s = .next t → t.windOk)
  ∧ (∀ s t : State, s.valvesOk → step s = .next t → t.valvesOk)
  ∧ ∀ s t : State, s.linkOk → step s = .next t → t.linkOk

/-- The slot owner map keeps agreeing with the configured nozzles and fixtures: each present one owns its slots, an
owned slot belongs to a present one and lies within its line's slot count, and the maps built from the image and from a
save's snapshot do so too (R166). -/
def Obligations.OwnerMapKept : Prop := ∀ s t : State, s.ownersOk → step s = .next t → t.ownersOk

/-- Every invariant holds right after reset, and the state after reset is what start-up leaves on a part that was never
saved (R201; that the part was never saved is the model's choice, DESIGN CHOICE, log entry 9). -/
def Obligations.InvariantsAtReset : Prop := State.reset.good ∧ startUp State.reset.store = State.reset

end
end

