-- ==== Sys2Proof/Laws/State.lean ====
section
/-! SUPPORT. One lemma per field per update of the state, true by `rfl`, so that no proof unfolds an update: first
what each update writes, then the fields it leaves alone. -/

namespace Sys2Proof.Machine

/-! ### `State.raiseBits` -/

@[simp] theorem State.raiseBits_link (b : Half) (s : State) :
    (s.raiseBits b).link = { s.link with summary := s.link.summary ||| b } := rfl
@[simp] theorem State.raiseBits_pending (b : Half) (s : State) : (s.raiseBits b).pending = s.pending := rfl
@[simp] theorem State.raiseBits_due (b : Half) (s : State) : (s.raiseBits b).due = s.due := rfl
@[simp] theorem State.raiseBits_pins (b : Half) (s : State) : (s.raiseBits b).pins = s.pins := rfl
@[simp] theorem State.raiseBits_timer (b : Half) (s : State) : (s.raiseBits b).timer = s.timer := rfl
@[simp] theorem State.raiseBits_effects (b : Half) (s : State) : (s.raiseBits b).effects = s.effects := rfl
@[simp] theorem State.raiseBits_nozzles (b : Half) (s : State) : (s.raiseBits b).nozzles = s.nozzles := rfl
@[simp] theorem State.raiseBits_pumps (b : Half) (s : State) : (s.raiseBits b).pumps = s.pumps := rfl
@[simp] theorem State.raiseBits_site (b : Half) (s : State) : (s.raiseBits b).site = s.site := rfl
@[simp] theorem State.raiseBits_lights (b : Half) (s : State) : (s.raiseBits b).lights = s.lights := rfl
@[simp] theorem State.raiseBits_lines (b : Half) (s : State) : (s.raiseBits b).lines = s.lines := rfl
@[simp] theorem State.raiseBits_clips (b : Half) (s : State) : (s.raiseBits b).clips = s.clips := rfl
@[simp] theorem State.raiseBits_decks (b : Half) (s : State) : (s.raiseBits b).decks = s.decks := rfl
@[simp] theorem State.raiseBits_store (b : Half) (s : State) : (s.raiseBits b).store = s.store := rfl

/-! ### `State.raise` -/

@[simp] theorem State.raise_link (e : Event) (s : State) :
    (s.raise e).link = { s.link with summary := s.link.summary ||| e.mask } := rfl
@[simp] theorem State.raise_pending (e : Event) (s : State) : (s.raise e).pending = s.pending := rfl
@[simp] theorem State.raise_due (e : Event) (s : State) : (s.raise e).due = s.due := rfl
@[simp] theorem State.raise_pins (e : Event) (s : State) : (s.raise e).pins = s.pins := rfl
@[simp] theorem State.raise_timer (e : Event) (s : State) : (s.raise e).timer = s.timer := rfl
@[simp] theorem State.raise_effects (e : Event) (s : State) : (s.raise e).effects = s.effects := rfl
@[simp] theorem State.raise_nozzles (e : Event) (s : State) : (s.raise e).nozzles = s.nozzles := rfl
@[simp] theorem State.raise_pumps (e : Event) (s : State) : (s.raise e).pumps = s.pumps := rfl
@[simp] theorem State.raise_site (e : Event) (s : State) : (s.raise e).site = s.site := rfl
@[simp] theorem State.raise_lights (e : Event) (s : State) : (s.raise e).lights = s.lights := rfl
@[simp] theorem State.raise_lines (e : Event) (s : State) : (s.raise e).lines = s.lines := rfl
@[simp] theorem State.raise_clips (e : Event) (s : State) : (s.raise e).clips = s.clips := rfl
@[simp] theorem State.raise_decks (e : Event) (s : State) : (s.raise e).decks = s.decks := rfl
@[simp] theorem State.raise_store (e : Event) (s : State) : (s.raise e).store = s.store := rfl

/-! ### `State.clearSummary` -/

@[simp] theorem State.clearSummary_link (b : Half) (s : State) :
    (s.clearSummary b).link = { s.link with summary := s.link.summary &&& ~~~b } := rfl
@[simp] theorem State.clearSummary_pending (b : Half) (s : State) : (s.clearSummary b).pending = s.pending := rfl
@[simp] theorem State.clearSummary_due (b : Half) (s : State) : (s.clearSummary b).due = s.due := rfl
@[simp] theorem State.clearSummary_pins (b : Half) (s : State) : (s.clearSummary b).pins = s.pins := rfl
@[simp] theorem State.clearSummary_timer (b : Half) (s : State) : (s.clearSummary b).timer = s.timer := rfl
@[simp] theorem State.clearSummary_effects (b : Half) (s : State) : (s.clearSummary b).effects = s.effects := rfl
@[simp] theorem State.clearSummary_nozzles (b : Half) (s : State) : (s.clearSummary b).nozzles = s.nozzles := rfl
@[simp] theorem State.clearSummary_pumps (b : Half) (s : State) : (s.clearSummary b).pumps = s.pumps := rfl
@[simp] theorem State.clearSummary_site (b : Half) (s : State) : (s.clearSummary b).site = s.site := rfl
@[simp] theorem State.clearSummary_lights (b : Half) (s : State) : (s.clearSummary b).lights = s.lights := rfl
@[simp] theorem State.clearSummary_lines (b : Half) (s : State) : (s.clearSummary b).lines = s.lines := rfl
@[simp] theorem State.clearSummary_clips (b : Half) (s : State) : (s.clearSummary b).clips = s.clips := rfl
@[simp] theorem State.clearSummary_decks (b : Half) (s : State) : (s.clearSummary b).decks = s.decks := rfl
@[simp] theorem State.clearSummary_store (b : Half) (s : State) : (s.clearSummary b).store = s.store := rfl

/-! ### `State.modifyEffectSlot` -/

@[simp] theorem State.modifyEffectSlot_effects (i : Nat) (f : EffectSlot → EffectSlot) (s : State) :
    (s.modifyEffectSlot i f).effects = { s.effects with slots := s.effects.slots.modify i f } := rfl
@[simp] theorem State.modifyEffectSlot_pending (i : Nat) (f : EffectSlot → EffectSlot) (s : State) : (s.modifyEffectSlot i f).pending = s.pending := rfl
@[simp] theorem State.modifyEffectSlot_due (i : Nat) (f : EffectSlot → EffectSlot) (s : State) : (s.modifyEffectSlot i f).due = s.due := rfl
@[simp] theorem State.modifyEffectSlot_pins (i : Nat) (f : EffectSlot → EffectSlot) (s : State) : (s.modifyEffectSlot i f).pins = s.pins := rfl
@[simp] theorem State.modifyEffectSlot_timer (i : Nat) (f : EffectSlot → EffectSlot) (s : State) : (s.modifyEffectSlot i f).timer = s.timer := rfl
@[simp] theorem State.modifyEffectSlot_nozzles (i : Nat) (f : EffectSlot → EffectSlot) (s : State) : (s.modifyEffectSlot i f).nozzles = s.nozzles := rfl
@[simp] theorem State.modifyEffectSlot_pumps (i : Nat) (f : EffectSlot → EffectSlot) (s : State) : (s.modifyEffectSlot i f).pumps = s.pumps := rfl
@[simp] theorem State.modifyEffectSlot_site (i : Nat) (f : EffectSlot → EffectSlot) (s : State) : (s.modifyEffectSlot i f).site = s.site := rfl
@[simp] theorem State.modifyEffectSlot_lights (i : Nat) (f : EffectSlot → EffectSlot) (s : State) : (s.modifyEffectSlot i f).lights = s.lights := rfl
@[simp] theorem State.modifyEffectSlot_lines (i : Nat) (f : EffectSlot → EffectSlot) (s : State) : (s.modifyEffectSlot i f).lines = s.lines := rfl
@[simp] theorem State.modifyEffectSlot_clips (i : Nat) (f : EffectSlot → EffectSlot) (s : State) : (s.modifyEffectSlot i f).clips = s.clips := rfl
@[simp] theorem State.modifyEffectSlot_decks (i : Nat) (f : EffectSlot → EffectSlot) (s : State) : (s.modifyEffectSlot i f).decks = s.decks := rfl
@[simp] theorem State.modifyEffectSlot_link (i : Nat) (f : EffectSlot → EffectSlot) (s : State) : (s.modifyEffectSlot i f).link = s.link := rfl
@[simp] theorem State.modifyEffectSlot_store (i : Nat) (f : EffectSlot → EffectSlot) (s : State) : (s.modifyEffectSlot i f).store = s.store := rfl

/-! ### `State.modifyRecord` -/

@[simp] theorem State.modifyRecord_effects (i : Nat) (f : EffectRecord → EffectRecord) (s : State) :
    (s.modifyRecord i f).effects = { s.effects with slots := s.effects.slots.modify i fun e => { e with record := e.record.map f } } := rfl
@[simp] theorem State.modifyRecord_pending (i : Nat) (f : EffectRecord → EffectRecord) (s : State) : (s.modifyRecord i f).pending = s.pending := rfl
@[simp] theorem State.modifyRecord_due (i : Nat) (f : EffectRecord → EffectRecord) (s : State) : (s.modifyRecord i f).due = s.due := rfl
@[simp] theorem State.modifyRecord_pins (i : Nat) (f : EffectRecord → EffectRecord) (s : State) : (s.modifyRecord i f).pins = s.pins := rfl
@[simp] theorem State.modifyRecord_timer (i : Nat) (f : EffectRecord → EffectRecord) (s : State) : (s.modifyRecord i f).timer = s.timer := rfl
@[simp] theorem State.modifyRecord_nozzles (i : Nat) (f : EffectRecord → EffectRecord) (s : State) : (s.modifyRecord i f).nozzles = s.nozzles := rfl
@[simp] theorem State.modifyRecord_pumps (i : Nat) (f : EffectRecord → EffectRecord) (s : State) : (s.modifyRecord i f).pumps = s.pumps := rfl
@[simp] theorem State.modifyRecord_site (i : Nat) (f : EffectRecord → EffectRecord) (s : State) : (s.modifyRecord i f).site = s.site := rfl
@[simp] theorem State.modifyRecord_lights (i : Nat) (f : EffectRecord → EffectRecord) (s : State) : (s.modifyRecord i f).lights = s.lights := rfl
@[simp] theorem State.modifyRecord_lines (i : Nat) (f : EffectRecord → EffectRecord) (s : State) : (s.modifyRecord i f).lines = s.lines := rfl
@[simp] theorem State.modifyRecord_clips (i : Nat) (f : EffectRecord → EffectRecord) (s : State) : (s.modifyRecord i f).clips = s.clips := rfl
@[simp] theorem State.modifyRecord_decks (i : Nat) (f : EffectRecord → EffectRecord) (s : State) : (s.modifyRecord i f).decks = s.decks := rfl
@[simp] theorem State.modifyRecord_link (i : Nat) (f : EffectRecord → EffectRecord) (s : State) : (s.modifyRecord i f).link = s.link := rfl
@[simp] theorem State.modifyRecord_store (i : Nat) (f : EffectRecord → EffectRecord) (s : State) : (s.modifyRecord i f).store = s.store := rfl

/-! ### `State.modifyGroup` -/

@[simp] theorem State.modifyGroup_effects (i : Nat) (f : Group → Group) (s : State) :
    (s.modifyGroup i f).effects = { s.effects with groups := s.effects.groups.modify i f } := rfl
@[simp] theorem State.modifyGroup_pending (i : Nat) (f : Group → Group) (s : State) : (s.modifyGroup i f).pending = s.pending := rfl
@[simp] theorem State.modifyGroup_due (i : Nat) (f : Group → Group) (s : State) : (s.modifyGroup i f).due = s.due := rfl
@[simp] theorem State.modifyGroup_pins (i : Nat) (f : Group → Group) (s : State) : (s.modifyGroup i f).pins = s.pins := rfl
@[simp] theorem State.modifyGroup_timer (i : Nat) (f : Group → Group) (s : State) : (s.modifyGroup i f).timer = s.timer := rfl
@[simp] theorem State.modifyGroup_nozzles (i : Nat) (f : Group → Group) (s : State) : (s.modifyGroup i f).nozzles = s.nozzles := rfl
@[simp] theorem State.modifyGroup_pumps (i : Nat) (f : Group → Group) (s : State) : (s.modifyGroup i f).pumps = s.pumps := rfl
@[simp] theorem State.modifyGroup_site (i : Nat) (f : Group → Group) (s : State) : (s.modifyGroup i f).site = s.site := rfl
@[simp] theorem State.modifyGroup_lights (i : Nat) (f : Group → Group) (s : State) : (s.modifyGroup i f).lights = s.lights := rfl
@[simp] theorem State.modifyGroup_lines (i : Nat) (f : Group → Group) (s : State) : (s.modifyGroup i f).lines = s.lines := rfl
@[simp] theorem State.modifyGroup_clips (i : Nat) (f : Group → Group) (s : State) : (s.modifyGroup i f).clips = s.clips := rfl
@[simp] theorem State.modifyGroup_decks (i : Nat) (f : Group → Group) (s : State) : (s.modifyGroup i f).decks = s.decks := rfl
@[simp] theorem State.modifyGroup_link (i : Nat) (f : Group → Group) (s : State) : (s.modifyGroup i f).link = s.link := rfl
@[simp] theorem State.modifyGroup_store (i : Nat) (f : Group → Group) (s : State) : (s.modifyGroup i f).store = s.store := rfl

/-! ### `State.addRef` -/

@[simp] theorem State.addRef_effects (i : Nat) (s : State) :
    (s.addRef i).effects = { s.effects with groups := s.effects.groups.modify i fun x => { x with refs := x.refs + 1 } } := rfl
@[simp] theorem State.addRef_pending (i : Nat) (s : State) : (s.addRef i).pending = s.pending := rfl
@[simp] theorem State.addRef_due (i : Nat) (s : State) : (s.addRef i).due = s.due := rfl
@[simp] theorem State.addRef_pins (i : Nat) (s : State) : (s.addRef i).pins = s.pins := rfl
@[simp] theorem State.addRef_timer (i : Nat) (s : State) : (s.addRef i).timer = s.timer := rfl
@[simp] theorem State.addRef_nozzles (i : Nat) (s : State) : (s.addRef i).nozzles = s.nozzles := rfl
@[simp] theorem State.addRef_pumps (i : Nat) (s : State) : (s.addRef i).pumps = s.pumps := rfl
@[simp] theorem State.addRef_site (i : Nat) (s : State) : (s.addRef i).site = s.site := rfl
@[simp] theorem State.addRef_lights (i : Nat) (s : State) : (s.addRef i).lights = s.lights := rfl
@[simp] theorem State.addRef_lines (i : Nat) (s : State) : (s.addRef i).lines = s.lines := rfl
@[simp] theorem State.addRef_clips (i : Nat) (s : State) : (s.addRef i).clips = s.clips := rfl
@[simp] theorem State.addRef_decks (i : Nat) (s : State) : (s.addRef i).decks = s.decks := rfl
@[simp] theorem State.addRef_link (i : Nat) (s : State) : (s.addRef i).link = s.link := rfl
@[simp] theorem State.addRef_store (i : Nat) (s : State) : (s.addRef i).store = s.store := rfl

/-! ### `State.dropRef` -/

@[simp] theorem State.dropRef_effects (i : Nat) (s : State) :
    (s.dropRef i).effects = { s.effects with groups := s.effects.groups.modify i fun x => { x with refs := x.refs - 1 } } := rfl
@[simp] theorem State.dropRef_pending (i : Nat) (s : State) : (s.dropRef i).pending = s.pending := rfl
@[simp] theorem State.dropRef_due (i : Nat) (s : State) : (s.dropRef i).due = s.due := rfl
@[simp] theorem State.dropRef_pins (i : Nat) (s : State) : (s.dropRef i).pins = s.pins := rfl
@[simp] theorem State.dropRef_timer (i : Nat) (s : State) : (s.dropRef i).timer = s.timer := rfl
@[simp] theorem State.dropRef_nozzles (i : Nat) (s : State) : (s.dropRef i).nozzles = s.nozzles := rfl
@[simp] theorem State.dropRef_pumps (i : Nat) (s : State) : (s.dropRef i).pumps = s.pumps := rfl
@[simp] theorem State.dropRef_site (i : Nat) (s : State) : (s.dropRef i).site = s.site := rfl
@[simp] theorem State.dropRef_lights (i : Nat) (s : State) : (s.dropRef i).lights = s.lights := rfl
@[simp] theorem State.dropRef_lines (i : Nat) (s : State) : (s.dropRef i).lines = s.lines := rfl
@[simp] theorem State.dropRef_clips (i : Nat) (s : State) : (s.dropRef i).clips = s.clips := rfl
@[simp] theorem State.dropRef_decks (i : Nat) (s : State) : (s.dropRef i).decks = s.decks := rfl
@[simp] theorem State.dropRef_link (i : Nat) (s : State) : (s.dropRef i).link = s.link := rfl
@[simp] theorem State.dropRef_store (i : Nat) (s : State) : (s.dropRef i).store = s.store := rfl

/-! ### `State.modifyNozzle` -/

@[simp] theorem State.modifyNozzle_nozzles (i : Nat) (f : Nozzle → Nozzle) (s : State) :
    (s.modifyNozzle i f).nozzles = { s.nozzles with table := s.nozzles.table.modify i f } := rfl
@[simp] theorem State.modifyNozzle_pending (i : Nat) (f : Nozzle → Nozzle) (s : State) : (s.modifyNozzle i f).pending = s.pending := rfl
@[simp] theorem State.modifyNozzle_due (i : Nat) (f : Nozzle → Nozzle) (s : State) : (s.modifyNozzle i f).due = s.due := rfl
@[simp] theorem State.modifyNozzle_pins (i : Nat) (f : Nozzle → Nozzle) (s : State) : (s.modifyNozzle i f).pins = s.pins := rfl
@[simp] theorem State.modifyNozzle_timer (i : Nat) (f : Nozzle → Nozzle) (s : State) : (s.modifyNozzle i f).timer = s.timer := rfl
@[simp] theorem State.modifyNozzle_effects (i : Nat) (f : Nozzle → Nozzle) (s : State) : (s.modifyNozzle i f).effects = s.effects := rfl
@[simp] theorem State.modifyNozzle_pumps (i : Nat) (f : Nozzle → Nozzle) (s : State) : (s.modifyNozzle i f).pumps = s.pumps := rfl
@[simp] theorem State.modifyNozzle_site (i : Nat) (f : Nozzle → Nozzle) (s : State) : (s.modifyNozzle i f).site = s.site := rfl
@[simp] theorem State.modifyNozzle_lights (i : Nat) (f : Nozzle → Nozzle) (s : State) : (s.modifyNozzle i f).lights = s.lights := rfl
@[simp] theorem State.modifyNozzle_lines (i : Nat) (f : Nozzle → Nozzle) (s : State) : (s.modifyNozzle i f).lines = s.lines := rfl
@[simp] theorem State.modifyNozzle_clips (i : Nat) (f : Nozzle → Nozzle) (s : State) : (s.modifyNozzle i f).clips = s.clips := rfl
@[simp] theorem State.modifyNozzle_decks (i : Nat) (f : Nozzle → Nozzle) (s : State) : (s.modifyNozzle i f).decks = s.decks := rfl
@[simp] theorem State.modifyNozzle_link (i : Nat) (f : Nozzle → Nozzle) (s : State) : (s.modifyNozzle i f).link = s.link := rfl
@[simp] theorem State.modifyNozzle_store (i : Nat) (f : Nozzle → Nozzle) (s : State) : (s.modifyNozzle i f).store = s.store := rfl

/-! ### `State.modifyManifold` -/

@[simp] theorem State.modifyManifold_pumps (i : Nat) (f : Manifold → Manifold) (s : State) :
    (s.modifyManifold i f).pumps = { s.pumps with manifolds := s.pumps.manifolds.modify i f } := rfl
@[simp] theorem State.modifyManifold_pending (i : Nat) (f : Manifold → Manifold) (s : State) : (s.modifyManifold i f).pending = s.pending := rfl
@[simp] theorem State.modifyManifold_due (i : Nat) (f : Manifold → Manifold) (s : State) : (s.modifyManifold i f).due = s.due := rfl
@[simp] theorem State.modifyManifold_pins (i : Nat) (f : Manifold → Manifold) (s : State) : (s.modifyManifold i f).pins = s.pins := rfl
@[simp] theorem State.modifyManifold_timer (i : Nat) (f : Manifold → Manifold) (s : State) : (s.modifyManifold i f).timer = s.timer := rfl
@[simp] theorem State.modifyManifold_effects (i : Nat) (f : Manifold → Manifold) (s : State) : (s.modifyManifold i f).effects = s.effects := rfl
@[simp] theorem State.modifyManifold_nozzles (i : Nat) (f : Manifold → Manifold) (s : State) : (s.modifyManifold i f).nozzles = s.nozzles := rfl
@[simp] theorem State.modifyManifold_site (i : Nat) (f : Manifold → Manifold) (s : State) : (s.modifyManifold i f).site = s.site := rfl
@[simp] theorem State.modifyManifold_lights (i : Nat) (f : Manifold → Manifold) (s : State) : (s.modifyManifold i f).lights = s.lights := rfl
@[simp] theorem State.modifyManifold_lines (i : Nat) (f : Manifold → Manifold) (s : State) : (s.modifyManifold i f).lines = s.lines := rfl
@[simp] theorem State.modifyManifold_clips (i : Nat) (f : Manifold → Manifold) (s : State) : (s.modifyManifold i f).clips = s.clips := rfl
@[simp] theorem State.modifyManifold_decks (i : Nat) (f : Manifold → Manifold) (s : State) : (s.modifyManifold i f).decks = s.decks := rfl
@[simp] theorem State.modifyManifold_link (i : Nat) (f : Manifold → Manifold) (s : State) : (s.modifyManifold i f).link = s.link := rfl
@[simp] theorem State.modifyManifold_store (i : Nat) (f : Manifold → Manifold) (s : State) : (s.modifyManifold i f).store = s.store := rfl

/-! ### `State.modifyPump` -/

@[simp] theorem State.modifyPump_pumps (i : Nat) (f : Pump → Pump) (s : State) :
    (s.modifyPump i f).pumps = { s.pumps with table := s.pumps.table.modify i f } := rfl
@[simp] theorem State.modifyPump_pending (i : Nat) (f : Pump → Pump) (s : State) : (s.modifyPump i f).pending = s.pending := rfl
@[simp] theorem State.modifyPump_due (i : Nat) (f : Pump → Pump) (s : State) : (s.modifyPump i f).due = s.due := rfl
@[simp] theorem State.modifyPump_pins (i : Nat) (f : Pump → Pump) (s : State) : (s.modifyPump i f).pins = s.pins := rfl
@[simp] theorem State.modifyPump_timer (i : Nat) (f : Pump → Pump) (s : State) : (s.modifyPump i f).timer = s.timer := rfl
@[simp] theorem State.modifyPump_effects (i : Nat) (f : Pump → Pump) (s : State) : (s.modifyPump i f).effects = s.effects := rfl
@[simp] theorem State.modifyPump_nozzles (i : Nat) (f : Pump → Pump) (s : State) : (s.modifyPump i f).nozzles = s.nozzles := rfl
@[simp] theorem State.modifyPump_site (i : Nat) (f : Pump → Pump) (s : State) : (s.modifyPump i f).site = s.site := rfl
@[simp] theorem State.modifyPump_lights (i : Nat) (f : Pump → Pump) (s : State) : (s.modifyPump i f).lights = s.lights := rfl
@[simp] theorem State.modifyPump_lines (i : Nat) (f : Pump → Pump) (s : State) : (s.modifyPump i f).lines = s.lines := rfl
@[simp] theorem State.modifyPump_clips (i : Nat) (f : Pump → Pump) (s : State) : (s.modifyPump i f).clips = s.clips := rfl
@[simp] theorem State.modifyPump_decks (i : Nat) (f : Pump → Pump) (s : State) : (s.modifyPump i f).decks = s.decks := rfl
@[simp] theorem State.modifyPump_link (i : Nat) (f : Pump → Pump) (s : State) : (s.modifyPump i f).link = s.link := rfl
@[simp] theorem State.modifyPump_store (i : Nat) (f : Pump → Pump) (s : State) : (s.modifyPump i f).store = s.store := rfl

/-! ### `State.unqueue` -/

@[simp] theorem State.unqueue_pumps (i : Nat) (s : State) :
    (s.unqueue i).pumps = { s.pumps with queue := s.pumps.queue.filter (· ≠ i) } := rfl
@[simp] theorem State.unqueue_pending (i : Nat) (s : State) : (s.unqueue i).pending = s.pending := rfl
@[simp] theorem State.unqueue_due (i : Nat) (s : State) : (s.unqueue i).due = s.due := rfl
@[simp] theorem State.unqueue_pins (i : Nat) (s : State) : (s.unqueue i).pins = s.pins := rfl
@[simp] theorem State.unqueue_timer (i : Nat) (s : State) : (s.unqueue i).timer = s.timer := rfl
@[simp] theorem State.unqueue_effects (i : Nat) (s : State) : (s.unqueue i).effects = s.effects := rfl
@[simp] theorem State.unqueue_nozzles (i : Nat) (s : State) : (s.unqueue i).nozzles = s.nozzles := rfl
@[simp] theorem State.unqueue_site (i : Nat) (s : State) : (s.unqueue i).site = s.site := rfl
@[simp] theorem State.unqueue_lights (i : Nat) (s : State) : (s.unqueue i).lights = s.lights := rfl
@[simp] theorem State.unqueue_lines (i : Nat) (s : State) : (s.unqueue i).lines = s.lines := rfl
@[simp] theorem State.unqueue_clips (i : Nat) (s : State) : (s.unqueue i).clips = s.clips := rfl
@[simp] theorem State.unqueue_decks (i : Nat) (s : State) : (s.unqueue i).decks = s.decks := rfl
@[simp] theorem State.unqueue_link (i : Nat) (s : State) : (s.unqueue i).link = s.link := rfl
@[simp] theorem State.unqueue_store (i : Nat) (s : State) : (s.unqueue i).store = s.store := rfl

/-! ### `State.setDestage` -/

@[simp] theorem State.setDestage_pumps (i : Nat) (t : Option Nat) (s : State) :
    (s.setDestage i t).pumps = { s.pumps with manifolds := s.pumps.manifolds.modify i fun x => { x with destage := t } } := rfl
@[simp] theorem State.setDestage_pending (i : Nat) (t : Option Nat) (s : State) : (s.setDestage i t).pending = s.pending := rfl
@[simp] theorem State.setDestage_due (i : Nat) (t : Option Nat) (s : State) : (s.setDestage i t).due = s.due := rfl
@[simp] theorem State.setDestage_pins (i : Nat) (t : Option Nat) (s : State) : (s.setDestage i t).pins = s.pins := rfl
@[simp] theorem State.setDestage_timer (i : Nat) (t : Option Nat) (s : State) : (s.setDestage i t).timer = s.timer := rfl
@[simp] theorem State.setDestage_effects (i : Nat) (t : Option Nat) (s : State) : (s.setDestage i t).effects = s.effects := rfl
@[simp] theorem State.setDestage_nozzles (i : Nat) (t : Option Nat) (s : State) : (s.setDestage i t).nozzles = s.nozzles := rfl
@[simp] theorem State.setDestage_site (i : Nat) (t : Option Nat) (s : State) : (s.setDestage i t).site = s.site := rfl
@[simp] theorem State.setDestage_lights (i : Nat) (t : Option Nat) (s : State) : (s.setDestage i t).lights = s.lights := rfl
@[simp] theorem State.setDestage_lines (i : Nat) (t : Option Nat) (s : State) : (s.setDestage i t).lines = s.lines := rfl
@[simp] theorem State.setDestage_clips (i : Nat) (t : Option Nat) (s : State) : (s.setDestage i t).clips = s.clips := rfl
@[simp] theorem State.setDestage_decks (i : Nat) (t : Option Nat) (s : State) : (s.setDestage i t).decks = s.decks := rfl
@[simp] theorem State.setDestage_link (i : Nat) (t : Option Nat) (s : State) : (s.setDestage i t).link = s.link := rfl
@[simp] theorem State.setDestage_store (i : Nat) (t : Option Nat) (s : State) : (s.setDestage i t).store = s.store := rfl

/-! ### `State.modifyZone` -/

@[simp] theorem State.modifyZone_site (i : Nat) (f : Zone → Zone) (s : State) :
    (s.modifyZone i f).site = { s.site with zones := s.site.zones.modify i f } := rfl
@[simp] theorem State.modifyZone_pending (i : Nat) (f : Zone → Zone) (s : State) : (s.modifyZone i f).pending = s.pending := rfl
@[simp] theorem State.modifyZone_due (i : Nat) (f : Zone → Zone) (s : State) : (s.modifyZone i f).due = s.due := rfl
@[simp] theorem State.modifyZone_pins (i : Nat) (f : Zone → Zone) (s : State) : (s.modifyZone i f).pins = s.pins := rfl
@[simp] theorem State.modifyZone_timer (i : Nat) (f : Zone → Zone) (s : State) : (s.modifyZone i f).timer = s.timer := rfl
@[simp] theorem State.modifyZone_effects (i : Nat) (f : Zone → Zone) (s : State) : (s.modifyZone i f).effects = s.effects := rfl
@[simp] theorem State.modifyZone_nozzles (i : Nat) (f : Zone → Zone) (s : State) : (s.modifyZone i f).nozzles = s.nozzles := rfl
@[simp] theorem State.modifyZone_pumps (i : Nat) (f : Zone → Zone) (s : State) : (s.modifyZone i f).pumps = s.pumps := rfl
@[simp] theorem State.modifyZone_lights (i : Nat) (f : Zone → Zone) (s : State) : (s.modifyZone i f).lights = s.lights := rfl
@[simp] theorem State.modifyZone_lines (i : Nat) (f : Zone → Zone) (s : State) : (s.modifyZone i f).lines = s.lines := rfl
@[simp] theorem State.modifyZone_clips (i : Nat) (f : Zone → Zone) (s : State) : (s.modifyZone i f).clips = s.clips := rfl
@[simp] theorem State.modifyZone_decks (i : Nat) (f : Zone → Zone) (s : State) : (s.modifyZone i f).decks = s.decks := rfl
@[simp] theorem State.modifyZone_link (i : Nat) (f : Zone → Zone) (s : State) : (s.modifyZone i f).link = s.link := rfl
@[simp] theorem State.modifyZone_store (i : Nat) (f : Zone → Zone) (s : State) : (s.modifyZone i f).store = s.store := rfl

/-! ### `State.modifyPresence` -/

@[simp] theorem State.modifyPresence_site (i : Nat) (f : PresenceInput → PresenceInput) (s : State) :
    (s.modifyPresence i f).site = { s.site with presence := s.site.presence.modify i f } := rfl
@[simp] theorem State.modifyPresence_pending (i : Nat) (f : PresenceInput → PresenceInput) (s : State) : (s.modifyPresence i f).pending = s.pending := rfl
@[simp] theorem State.modifyPresence_due (i : Nat) (f : PresenceInput → PresenceInput) (s : State) : (s.modifyPresence i f).due = s.due := rfl
@[simp] theorem State.modifyPresence_pins (i : Nat) (f : PresenceInput → PresenceInput) (s : State) : (s.modifyPresence i f).pins = s.pins := rfl
@[simp] theorem State.modifyPresence_timer (i : Nat) (f : PresenceInput → PresenceInput) (s : State) : (s.modifyPresence i f).timer = s.timer := rfl
@[simp] theorem State.modifyPresence_effects (i : Nat) (f : PresenceInput → PresenceInput) (s : State) : (s.modifyPresence i f).effects = s.effects := rfl
@[simp] theorem State.modifyPresence_nozzles (i : Nat) (f : PresenceInput → PresenceInput) (s : State) : (s.modifyPresence i f).nozzles = s.nozzles := rfl
@[simp] theorem State.modifyPresence_pumps (i : Nat) (f : PresenceInput → PresenceInput) (s : State) : (s.modifyPresence i f).pumps = s.pumps := rfl
@[simp] theorem State.modifyPresence_lights (i : Nat) (f : PresenceInput → PresenceInput) (s : State) : (s.modifyPresence i f).lights = s.lights := rfl
@[simp] theorem State.modifyPresence_lines (i : Nat) (f : PresenceInput → PresenceInput) (s : State) : (s.modifyPresence i f).lines = s.lines := rfl
@[simp] theorem State.modifyPresence_clips (i : Nat) (f : PresenceInput → PresenceInput) (s : State) : (s.modifyPresence i f).clips = s.clips := rfl
@[simp] theorem State.modifyPresence_decks (i : Nat) (f : PresenceInput → PresenceInput) (s : State) : (s.modifyPresence i f).decks = s.decks := rfl
@[simp] theorem State.modifyPresence_link (i : Nat) (f : PresenceInput → PresenceInput) (s : State) : (s.modifyPresence i f).link = s.link := rfl
@[simp] theorem State.modifyPresence_store (i : Nat) (f : PresenceInput → PresenceInput) (s : State) : (s.modifyPresence i f).store = s.store := rfl

/-! ### `State.modifyFixture` -/

@[simp] theorem State.modifyFixture_lights (i : Nat) (f : Fixture → Fixture) (s : State) :
    (s.modifyFixture i f).lights = { s.lights with table := s.lights.table.modify i f } := rfl
@[simp] theorem State.modifyFixture_pending (i : Nat) (f : Fixture → Fixture) (s : State) : (s.modifyFixture i f).pending = s.pending := rfl
@[simp] theorem State.modifyFixture_due (i : Nat) (f : Fixture → Fixture) (s : State) : (s.modifyFixture i f).due = s.due := rfl
@[simp] theorem State.modifyFixture_pins (i : Nat) (f : Fixture → Fixture) (s : State) : (s.modifyFixture i f).pins = s.pins := rfl
@[simp] theorem State.modifyFixture_timer (i : Nat) (f : Fixture → Fixture) (s : State) : (s.modifyFixture i f).timer = s.timer := rfl
@[simp] theorem State.modifyFixture_effects (i : Nat) (f : Fixture → Fixture) (s : State) : (s.modifyFixture i f).effects = s.effects := rfl
@[simp] theorem State.modifyFixture_nozzles (i : Nat) (f : Fixture → Fixture) (s : State) : (s.modifyFixture i f).nozzles = s.nozzles := rfl
@[simp] theorem State.modifyFixture_pumps (i : Nat) (f : Fixture → Fixture) (s : State) : (s.modifyFixture i f).pumps = s.pumps := rfl
@[simp] theorem State.modifyFixture_site (i : Nat) (f : Fixture → Fixture) (s : State) : (s.modifyFixture i f).site = s.site := rfl
@[simp] theorem State.modifyFixture_lines (i : Nat) (f : Fixture → Fixture) (s : State) : (s.modifyFixture i f).lines = s.lines := rfl
@[simp] theorem State.modifyFixture_clips (i : Nat) (f : Fixture → Fixture) (s : State) : (s.modifyFixture i f).clips = s.clips := rfl
@[simp] theorem State.modifyFixture_decks (i : Nat) (f : Fixture → Fixture) (s : State) : (s.modifyFixture i f).decks = s.decks := rfl
@[simp] theorem State.modifyFixture_link (i : Nat) (f : Fixture → Fixture) (s : State) : (s.modifyFixture i f).link = s.link := rfl
@[simp] theorem State.modifyFixture_store (i : Nat) (f : Fixture → Fixture) (s : State) : (s.modifyFixture i f).store = s.store := rfl

/-! ### `State.modifyLine` -/

@[simp] theorem State.modifyLine_lines (i : Nat) (f : Line → Line) (s : State) :
    (s.modifyLine i f).lines = s.lines.modify i f := rfl
@[simp] theorem State.modifyLine_pending (i : Nat) (f : Line → Line) (s : State) : (s.modifyLine i f).pending = s.pending := rfl
@[simp] theorem State.modifyLine_due (i : Nat) (f : Line → Line) (s : State) : (s.modifyLine i f).due = s.due := rfl
@[simp] theorem State.modifyLine_pins (i : Nat) (f : Line → Line) (s : State) : (s.modifyLine i f).pins = s.pins := rfl
@[simp] theorem State.modifyLine_timer (i : Nat) (f : Line → Line) (s : State) : (s.modifyLine i f).timer = s.timer := rfl
@[simp] theorem State.modifyLine_effects (i : Nat) (f : Line → Line) (s : State) : (s.modifyLine i f).effects = s.effects := rfl
@[simp] theorem State.modifyLine_nozzles (i : Nat) (f : Line → Line) (s : State) : (s.modifyLine i f).nozzles = s.nozzles := rfl
@[simp] theorem State.modifyLine_pumps (i : Nat) (f : Line → Line) (s : State) : (s.modifyLine i f).pumps = s.pumps := rfl
@[simp] theorem State.modifyLine_site (i : Nat) (f : Line → Line) (s : State) : (s.modifyLine i f).site = s.site := rfl
@[simp] theorem State.modifyLine_lights (i : Nat) (f : Line → Line) (s : State) : (s.modifyLine i f).lights = s.lights := rfl
@[simp] theorem State.modifyLine_clips (i : Nat) (f : Line → Line) (s : State) : (s.modifyLine i f).clips = s.clips := rfl
@[simp] theorem State.modifyLine_decks (i : Nat) (f : Line → Line) (s : State) : (s.modifyLine i f).decks = s.decks := rfl
@[simp] theorem State.modifyLine_link (i : Nat) (f : Line → Line) (s : State) : (s.modifyLine i f).link = s.link := rfl
@[simp] theorem State.modifyLine_store (i : Nat) (f : Line → Line) (s : State) : (s.modifyLine i f).store = s.store := rfl

/-! ### `State.takeGapEnd` -/

@[simp] theorem State.takeGapEnd_lines (i : Nat) (s : State) :
    (s.takeGapEnd i).lines = s.lines.modify i Line.gapEnd := rfl
@[simp] theorem State.takeGapEnd_pending (i : Nat) (s : State) : (s.takeGapEnd i).pending = s.pending := rfl
@[simp] theorem State.takeGapEnd_due (i : Nat) (s : State) : (s.takeGapEnd i).due = s.due := rfl
@[simp] theorem State.takeGapEnd_pins (i : Nat) (s : State) : (s.takeGapEnd i).pins = s.pins := rfl
@[simp] theorem State.takeGapEnd_timer (i : Nat) (s : State) : (s.takeGapEnd i).timer = s.timer := rfl
@[simp] theorem State.takeGapEnd_effects (i : Nat) (s : State) : (s.takeGapEnd i).effects = s.effects := rfl
@[simp] theorem State.takeGapEnd_nozzles (i : Nat) (s : State) : (s.takeGapEnd i).nozzles = s.nozzles := rfl
@[simp] theorem State.takeGapEnd_pumps (i : Nat) (s : State) : (s.takeGapEnd i).pumps = s.pumps := rfl
@[simp] theorem State.takeGapEnd_site (i : Nat) (s : State) : (s.takeGapEnd i).site = s.site := rfl
@[simp] theorem State.takeGapEnd_lights (i : Nat) (s : State) : (s.takeGapEnd i).lights = s.lights := rfl
@[simp] theorem State.takeGapEnd_clips (i : Nat) (s : State) : (s.takeGapEnd i).clips = s.clips := rfl
@[simp] theorem State.takeGapEnd_decks (i : Nat) (s : State) : (s.takeGapEnd i).decks = s.decks := rfl
@[simp] theorem State.takeGapEnd_link (i : Nat) (s : State) : (s.takeGapEnd i).link = s.link := rfl
@[simp] theorem State.takeGapEnd_store (i : Nat) (s : State) : (s.takeGapEnd i).store = s.store := rfl

/-! ### `State.modifyClipSlot` -/

@[simp] theorem State.modifyClipSlot_clips (i : Nat) (f : ClipSlot → ClipSlot) (s : State) :
    (s.modifyClipSlot i f).clips = { s.clips with slots := s.clips.slots.modify i f } := rfl
@[simp] theorem State.modifyClipSlot_pending (i : Nat) (f : ClipSlot → ClipSlot) (s : State) : (s.modifyClipSlot i f).pending = s.pending := rfl
@[simp] theorem State.modifyClipSlot_due (i : Nat) (f : ClipSlot → ClipSlot) (s : State) : (s.modifyClipSlot i f).due = s.due := rfl
@[simp] theorem State.modifyClipSlot_pins (i : Nat) (f : ClipSlot → ClipSlot) (s : State) : (s.modifyClipSlot i f).pins = s.pins := rfl
@[simp] theorem State.modifyClipSlot_timer (i : Nat) (f : ClipSlot → ClipSlot) (s : State) : (s.modifyClipSlot i f).timer = s.timer := rfl
@[simp] theorem State.modifyClipSlot_effects (i : Nat) (f : ClipSlot → ClipSlot) (s : State) : (s.modifyClipSlot i f).effects = s.effects := rfl
@[simp] theorem State.modifyClipSlot_nozzles (i : Nat) (f : ClipSlot → ClipSlot) (s : State) : (s.modifyClipSlot i f).nozzles = s.nozzles := rfl
@[simp] theorem State.modifyClipSlot_pumps (i : Nat) (f : ClipSlot → ClipSlot) (s : State) : (s.modifyClipSlot i f).pumps = s.pumps := rfl
@[simp] theorem State.modifyClipSlot_site (i : Nat) (f : ClipSlot → ClipSlot) (s : State) : (s.modifyClipSlot i f).site = s.site := rfl
@[simp] theorem State.modifyClipSlot_lights (i : Nat) (f : ClipSlot → ClipSlot) (s : State) : (s.modifyClipSlot i f).lights = s.lights := rfl
@[simp] theorem State.modifyClipSlot_lines (i : Nat) (f : ClipSlot → ClipSlot) (s : State) : (s.modifyClipSlot i f).lines = s.lines := rfl
@[simp] theorem State.modifyClipSlot_decks (i : Nat) (f : ClipSlot → ClipSlot) (s : State) : (s.modifyClipSlot i f).decks = s.decks := rfl
@[simp] theorem State.modifyClipSlot_link (i : Nat) (f : ClipSlot → ClipSlot) (s : State) : (s.modifyClipSlot i f).link = s.link := rfl
@[simp] theorem State.modifyClipSlot_store (i : Nat) (f : ClipSlot → ClipSlot) (s : State) : (s.modifyClipSlot i f).store = s.store := rfl

/-! ### `State.takeClip` -/

@[simp] theorem State.takeClip_clips (h : Half) (s : State) :
    (s.takeClip h).clips = { s.clips with slots := s.clips.slots.modify (handleSlot h) fun e => { e with clip := e.clip.map fun c => { c with refs := c.refs + 1 } } } := rfl
@[simp] theorem State.takeClip_pending (h : Half) (s : State) : (s.takeClip h).pending = s.pending := rfl
@[simp] theorem State.takeClip_due (h : Half) (s : State) : (s.takeClip h).due = s.due := rfl
@[simp] theorem State.takeClip_pins (h : Half) (s : State) : (s.takeClip h).pins = s.pins := rfl
@[simp] theorem State.takeClip_timer (h : Half) (s : State) : (s.takeClip h).timer = s.timer := rfl
@[simp] theorem State.takeClip_effects (h : Half) (s : State) : (s.takeClip h).effects = s.effects := rfl
@[simp] theorem State.takeClip_nozzles (h : Half) (s : State) : (s.takeClip h).nozzles = s.nozzles := rfl
@[simp] theorem State.takeClip_pumps (h : Half) (s : State) : (s.takeClip h).pumps = s.pumps := rfl
@[simp] theorem State.takeClip_site (h : Half) (s : State) : (s.takeClip h).site = s.site := rfl
@[simp] theorem State.takeClip_lights (h : Half) (s : State) : (s.takeClip h).lights = s.lights := rfl
@[simp] theorem State.takeClip_lines (h : Half) (s : State) : (s.takeClip h).lines = s.lines := rfl
@[simp] theorem State.takeClip_decks (h : Half) (s : State) : (s.takeClip h).decks = s.decks := rfl
@[simp] theorem State.takeClip_link (h : Half) (s : State) : (s.takeClip h).link = s.link := rfl
@[simp] theorem State.takeClip_store (h : Half) (s : State) : (s.takeClip h).store = s.store := rfl

/-! ### `State.freeClip` -/

@[simp] theorem State.freeClip_pending (i : Nat) (s : State) : (s.freeClip i).pending = s.pending := rfl
@[simp] theorem State.freeClip_due (i : Nat) (s : State) : (s.freeClip i).due = s.due := rfl
@[simp] theorem State.freeClip_pins (i : Nat) (s : State) : (s.freeClip i).pins = s.pins := rfl
@[simp] theorem State.freeClip_timer (i : Nat) (s : State) : (s.freeClip i).timer = s.timer := rfl
@[simp] theorem State.freeClip_effects (i : Nat) (s : State) : (s.freeClip i).effects = s.effects := rfl
@[simp] theorem State.freeClip_nozzles (i : Nat) (s : State) : (s.freeClip i).nozzles = s.nozzles := rfl
@[simp] theorem State.freeClip_pumps (i : Nat) (s : State) : (s.freeClip i).pumps = s.pumps := rfl
@[simp] theorem State.freeClip_site (i : Nat) (s : State) : (s.freeClip i).site = s.site := rfl
@[simp] theorem State.freeClip_lights (i : Nat) (s : State) : (s.freeClip i).lights = s.lights := rfl
@[simp] theorem State.freeClip_lines (i : Nat) (s : State) : (s.freeClip i).lines = s.lines := rfl
@[simp] theorem State.freeClip_decks (i : Nat) (s : State) : (s.freeClip i).decks = s.decks := rfl
@[simp] theorem State.freeClip_link (i : Nat) (s : State) : (s.freeClip i).link = s.link := rfl
@[simp] theorem State.freeClip_store (i : Nat) (s : State) : (s.freeClip i).store = s.store := rfl

/-! ### `State.modifyDeck` -/

@[simp] theorem State.modifyDeck_decks (i : Nat) (f : Deck → Deck) (s : State) :
    (s.modifyDeck i f).decks = { s.decks with table := s.decks.table.modify i f } := rfl
@[simp] theorem State.modifyDeck_pending (i : Nat) (f : Deck → Deck) (s : State) : (s.modifyDeck i f).pending = s.pending := rfl
@[simp] theorem State.modifyDeck_due (i : Nat) (f : Deck → Deck) (s : State) : (s.modifyDeck i f).due = s.due := rfl
@[simp] theorem State.modifyDeck_pins (i : Nat) (f : Deck → Deck) (s : State) : (s.modifyDeck i f).pins = s.pins := rfl
@[simp] theorem State.modifyDeck_timer (i : Nat) (f : Deck → Deck) (s : State) : (s.modifyDeck i f).timer = s.timer := rfl
@[simp] theorem State.modifyDeck_effects (i : Nat) (f : Deck → Deck) (s : State) : (s.modifyDeck i f).effects = s.effects := rfl
@[simp] theorem State.modifyDeck_nozzles (i : Nat) (f : Deck → Deck) (s : State) : (s.modifyDeck i f).nozzles = s.nozzles := rfl
@[simp] theorem State.modifyDeck_pumps (i : Nat) (f : Deck → Deck) (s : State) : (s.modifyDeck i f).pumps = s.pumps := rfl
@[simp] theorem State.modifyDeck_site (i : Nat) (f : Deck → Deck) (s : State) : (s.modifyDeck i f).site = s.site := rfl
@[simp] theorem State.modifyDeck_lights (i : Nat) (f : Deck → Deck) (s : State) : (s.modifyDeck i f).lights = s.lights := rfl
@[simp] theorem State.modifyDeck_lines (i : Nat) (f : Deck → Deck) (s : State) : (s.modifyDeck i f).lines = s.lines := rfl
@[simp] theorem State.modifyDeck_clips (i : Nat) (f : Deck → Deck) (s : State) : (s.modifyDeck i f).clips = s.clips := rfl
@[simp] theorem State.modifyDeck_link (i : Nat) (f : Deck → Deck) (s : State) : (s.modifyDeck i f).link = s.link := rfl
@[simp] theorem State.modifyDeck_store (i : Nat) (f : Deck → Deck) (s : State) : (s.modifyDeck i f).store = s.store := rfl

/-! ### `State.updateEnvelope` -/

@[simp] theorem State.updateEnvelope_decks (s : State) :
    (s.updateEnvelope).decks = { s.decks with envelope := envelopeAfter s.decks.envelope s.decks.decay s.decks.peak, peak := 0 } := rfl
@[simp] theorem State.updateEnvelope_pending (s : State) : (s.updateEnvelope).pending = s.pending := rfl
@[simp] theorem State.updateEnvelope_due (s : State) : (s.updateEnvelope).due = s.due := rfl
@[simp] theorem State.updateEnvelope_pins (s : State) : (s.updateEnvelope).pins = s.pins := rfl
@[simp] theorem State.updateEnvelope_timer (s : State) : (s.updateEnvelope).timer = s.timer := rfl
@[simp] theorem State.updateEnvelope_effects (s : State) : (s.updateEnvelope).effects = s.effects := rfl
@[simp] theorem State.updateEnvelope_nozzles (s : State) : (s.updateEnvelope).nozzles = s.nozzles := rfl
@[simp] theorem State.updateEnvelope_pumps (s : State) : (s.updateEnvelope).pumps = s.pumps := rfl
@[simp] theorem State.updateEnvelope_site (s : State) : (s.updateEnvelope).site = s.site := rfl
@[simp] theorem State.updateEnvelope_lights (s : State) : (s.updateEnvelope).lights = s.lights := rfl
@[simp] theorem State.updateEnvelope_lines (s : State) : (s.updateEnvelope).lines = s.lines := rfl
@[simp] theorem State.updateEnvelope_clips (s : State) : (s.updateEnvelope).clips = s.clips := rfl
@[simp] theorem State.updateEnvelope_link (s : State) : (s.updateEnvelope).link = s.link := rfl
@[simp] theorem State.updateEnvelope_store (s : State) : (s.updateEnvelope).store = s.store := rfl

/-! ### `State.mix` -/

@[simp] theorem State.mix_pending (s : State) : (s.mix).pending = s.pending := rfl
@[simp] theorem State.mix_due (s : State) : (s.mix).due = s.due := rfl
@[simp] theorem State.mix_pins (s : State) : (s.mix).pins = s.pins := rfl
@[simp] theorem State.mix_timer (s : State) : (s.mix).timer = s.timer := rfl
@[simp] theorem State.mix_effects (s : State) : (s.mix).effects = s.effects := rfl
@[simp] theorem State.mix_nozzles (s : State) : (s.mix).nozzles = s.nozzles := rfl
@[simp] theorem State.mix_pumps (s : State) : (s.mix).pumps = s.pumps := rfl
@[simp] theorem State.mix_site (s : State) : (s.mix).site = s.site := rfl
@[simp] theorem State.mix_lights (s : State) : (s.mix).lights = s.lights := rfl
@[simp] theorem State.mix_lines (s : State) : (s.mix).lines = s.lines := rfl
@[simp] theorem State.mix_clips (s : State) : (s.mix).clips = s.clips := rfl
@[simp] theorem State.mix_link (s : State) : (s.mix).link = s.link := rfl
@[simp] theorem State.mix_store (s : State) : (s.mix).store = s.store := rfl
@[simp] theorem State.mix_master (s : State) : (s.mix).decks.master = s.decks.master := rfl
@[simp] theorem State.mix_masterNow (s : State) : (s.mix).decks.masterNow = s.decks.master := rfl
@[simp] theorem State.mix_out (s : State) : (s.mix).decks.out = s.outputFrame := rfl

/-! ### `State.modifyDue` -/

@[simp] theorem State.modifyDue_due (f : Due → Due) (s : State) : (s.modifyDue f).due = f s.due := rfl
@[simp] theorem State.modifyDue_pending (f : Due → Due) (s : State) : (s.modifyDue f).pending = s.pending := rfl
@[simp] theorem State.modifyDue_pins (f : Due → Due) (s : State) : (s.modifyDue f).pins = s.pins := rfl
@[simp] theorem State.modifyDue_timer (f : Due → Due) (s : State) : (s.modifyDue f).timer = s.timer := rfl
@[simp] theorem State.modifyDue_effects (f : Due → Due) (s : State) : (s.modifyDue f).effects = s.effects := rfl
@[simp] theorem State.modifyDue_nozzles (f : Due → Due) (s : State) : (s.modifyDue f).nozzles = s.nozzles := rfl
@[simp] theorem State.modifyDue_pumps (f : Due → Due) (s : State) : (s.modifyDue f).pumps = s.pumps := rfl
@[simp] theorem State.modifyDue_site (f : Due → Due) (s : State) : (s.modifyDue f).site = s.site := rfl
@[simp] theorem State.modifyDue_lights (f : Due → Due) (s : State) : (s.modifyDue f).lights = s.lights := rfl
@[simp] theorem State.modifyDue_lines (f : Due → Due) (s : State) : (s.modifyDue f).lines = s.lines := rfl
@[simp] theorem State.modifyDue_clips (f : Due → Due) (s : State) : (s.modifyDue f).clips = s.clips := rfl
@[simp] theorem State.modifyDue_decks (f : Due → Due) (s : State) : (s.modifyDue f).decks = s.decks := rfl
@[simp] theorem State.modifyDue_link (f : Due → Due) (s : State) : (s.modifyDue f).link = s.link := rfl
@[simp] theorem State.modifyDue_store (f : Due → Due) (s : State) : (s.modifyDue f).store = s.store := rfl

/-! ### `State.destagePump` -/

@[simp] theorem State.destagePump_link (m p : Nat) (s : State) :
    (s.destagePump m p).link = { s.link with summary := s.link.summary ||| Event.pumpState.mask } := rfl
@[simp] theorem State.destagePump_pending (m p : Nat) (s : State) : (s.destagePump m p).pending = s.pending := rfl
@[simp] theorem State.destagePump_due (m p : Nat) (s : State) : (s.destagePump m p).due = s.due := rfl
@[simp] theorem State.destagePump_pins (m p : Nat) (s : State) : (s.destagePump m p).pins = s.pins := rfl
@[simp] theorem State.destagePump_timer (m p : Nat) (s : State) : (s.destagePump m p).timer = s.timer := rfl
@[simp] theorem State.destagePump_effects (m p : Nat) (s : State) : (s.destagePump m p).effects = s.effects := rfl
@[simp] theorem State.destagePump_nozzles (m p : Nat) (s : State) : (s.destagePump m p).nozzles = s.nozzles := rfl
@[simp] theorem State.destagePump_site (m p : Nat) (s : State) : (s.destagePump m p).site = s.site := rfl
@[simp] theorem State.destagePump_lights (m p : Nat) (s : State) : (s.destagePump m p).lights = s.lights := rfl
@[simp] theorem State.destagePump_lines (m p : Nat) (s : State) : (s.destagePump m p).lines = s.lines := rfl
@[simp] theorem State.destagePump_clips (m p : Nat) (s : State) : (s.destagePump m p).clips = s.clips := rfl
@[simp] theorem State.destagePump_decks (m p : Nat) (s : State) : (s.destagePump m p).decks = s.decks := rfl
@[simp] theorem State.destagePump_store (m p : Nat) (s : State) : (s.destagePump m p).store = s.store := rfl

/-! ### `State.grantPump` -/

@[simp] theorem State.grantPump_pumps (n : Nat) (s : State) :
    (s.grantPump n).pumps = { s.pumps with
      queue := s.pumps.queue.tail, lastGrant := some s.timer.device
      table := s.pumps.table.modify n (Pump.enter .starting) } := rfl
@[simp] theorem State.grantPump_link (n : Nat) (s : State) :
    (s.grantPump n).link = { s.link with summary := s.link.summary ||| Event.pumpState.mask } := rfl
@[simp] theorem State.grantPump_pending (n : Nat) (s : State) : (s.grantPump n).pending = s.pending := rfl
@[simp] theorem State.grantPump_due (n : Nat) (s : State) : (s.grantPump n).due = s.due := rfl
@[simp] theorem State.grantPump_pins (n : Nat) (s : State) : (s.grantPump n).pins = s.pins := rfl
@[simp] theorem State.grantPump_timer (n : Nat) (s : State) : (s.grantPump n).timer = s.timer := rfl
@[simp] theorem State.grantPump_effects (n : Nat) (s : State) : (s.grantPump n).effects = s.effects := rfl
@[simp] theorem State.grantPump_nozzles (n : Nat) (s : State) : (s.grantPump n).nozzles = s.nozzles := rfl
@[simp] theorem State.grantPump_site (n : Nat) (s : State) : (s.grantPump n).site = s.site := rfl
@[simp] theorem State.grantPump_lights (n : Nat) (s : State) : (s.grantPump n).lights = s.lights := rfl
@[simp] theorem State.grantPump_lines (n : Nat) (s : State) : (s.grantPump n).lines = s.lines := rfl
@[simp] theorem State.grantPump_clips (n : Nat) (s : State) : (s.grantPump n).clips = s.clips := rfl
@[simp] theorem State.grantPump_decks (n : Nat) (s : State) : (s.grantPump n).decks = s.decks := rfl
@[simp] theorem State.grantPump_store (n : Nat) (s : State) : (s.grantPump n).store = s.store := rfl

/-! ### `State.transferTaken` -/

@[simp] theorem State.transferTaken_link (s : State) :
    (s.transferTaken).link = { s.link with transfer := none, silence := 0 } := rfl
@[simp] theorem State.transferTaken_pending (s : State) : (s.transferTaken).pending = s.pending := rfl
@[simp] theorem State.transferTaken_due (s : State) : (s.transferTaken).due = s.due := rfl
@[simp] theorem State.transferTaken_pins (s : State) : (s.transferTaken).pins = s.pins := rfl
@[simp] theorem State.transferTaken_timer (s : State) : (s.transferTaken).timer = s.timer := rfl
@[simp] theorem State.transferTaken_effects (s : State) : (s.transferTaken).effects = s.effects := rfl
@[simp] theorem State.transferTaken_nozzles (s : State) : (s.transferTaken).nozzles = s.nozzles := rfl
@[simp] theorem State.transferTaken_pumps (s : State) : (s.transferTaken).pumps = s.pumps := rfl
@[simp] theorem State.transferTaken_site (s : State) : (s.transferTaken).site = s.site := rfl
@[simp] theorem State.transferTaken_lights (s : State) : (s.transferTaken).lights = s.lights := rfl
@[simp] theorem State.transferTaken_lines (s : State) : (s.transferTaken).lines = s.lines := rfl
@[simp] theorem State.transferTaken_clips (s : State) : (s.transferTaken).clips = s.clips := rfl
@[simp] theorem State.transferTaken_decks (s : State) : (s.transferTaken).decks = s.decks := rfl
@[simp] theorem State.transferTaken_store (s : State) : (s.transferTaken).store = s.store := rfl

/-! ### `State.pushReply` -/

@[simp] theorem State.pushReply_link (a : Answer) (s : State) :
    (s.pushReply a).link = { s.link with replies := s.link.replies ++ [⟨a.result, s.timer.showState, a.payload, none, 0⟩] } := rfl
@[simp] theorem State.pushReply_pending (a : Answer) (s : State) : (s.pushReply a).pending = s.pending := rfl
@[simp] theorem State.pushReply_due (a : Answer) (s : State) : (s.pushReply a).due = s.due := rfl
@[simp] theorem State.pushReply_pins (a : Answer) (s : State) : (s.pushReply a).pins = s.pins := rfl
@[simp] theorem State.pushReply_timer (a : Answer) (s : State) : (s.pushReply a).timer = s.timer := rfl
@[simp] theorem State.pushReply_effects (a : Answer) (s : State) : (s.pushReply a).effects = s.effects := rfl
@[simp] theorem State.pushReply_nozzles (a : Answer) (s : State) : (s.pushReply a).nozzles = s.nozzles := rfl
@[simp] theorem State.pushReply_pumps (a : Answer) (s : State) : (s.pushReply a).pumps = s.pumps := rfl
@[simp] theorem State.pushReply_site (a : Answer) (s : State) : (s.pushReply a).site = s.site := rfl
@[simp] theorem State.pushReply_lights (a : Answer) (s : State) : (s.pushReply a).lights = s.lights := rfl
@[simp] theorem State.pushReply_lines (a : Answer) (s : State) : (s.pushReply a).lines = s.lines := rfl
@[simp] theorem State.pushReply_clips (a : Answer) (s : State) : (s.pushReply a).clips = s.clips := rfl
@[simp] theorem State.pushReply_decks (a : Answer) (s : State) : (s.pushReply a).decks = s.decks := rfl
@[simp] theorem State.pushReply_store (a : Answer) (s : State) : (s.pushReply a).store = s.store := rfl

/-! ### `State.clearSilence` -/

@[simp] theorem State.clearSilence_link (s : State) : (s.clearSilence).link = { s.link with silence := 0 } := rfl
@[simp] theorem State.clearSilence_pending (s : State) : (s.clearSilence).pending = s.pending := rfl
@[simp] theorem State.clearSilence_due (s : State) : (s.clearSilence).due = s.due := rfl
@[simp] theorem State.clearSilence_pins (s : State) : (s.clearSilence).pins = s.pins := rfl
@[simp] theorem State.clearSilence_timer (s : State) : (s.clearSilence).timer = s.timer := rfl
@[simp] theorem State.clearSilence_effects (s : State) : (s.clearSilence).effects = s.effects := rfl
@[simp] theorem State.clearSilence_nozzles (s : State) : (s.clearSilence).nozzles = s.nozzles := rfl
@[simp] theorem State.clearSilence_pumps (s : State) : (s.clearSilence).pumps = s.pumps := rfl
@[simp] theorem State.clearSilence_site (s : State) : (s.clearSilence).site = s.site := rfl
@[simp] theorem State.clearSilence_lights (s : State) : (s.clearSilence).lights = s.lights := rfl
@[simp] theorem State.clearSilence_lines (s : State) : (s.clearSilence).lines = s.lines := rfl
@[simp] theorem State.clearSilence_clips (s : State) : (s.clearSilence).clips = s.clips := rfl
@[simp] theorem State.clearSilence_decks (s : State) : (s.clearSilence).decks = s.decks := rfl
@[simp] theorem State.clearSilence_store (s : State) : (s.clearSilence).store = s.store := rfl

/-! ### `State.answered` -/

@[simp] theorem State.answered_pending (c : ResultCode) (p : List Byte) (s : State) : (s.answered c p).pending = s.pending := rfl
@[simp] theorem State.answered_due (c : ResultCode) (p : List Byte) (s : State) : (s.answered c p).due = s.due := rfl
@[simp] theorem State.answered_pins (c : ResultCode) (p : List Byte) (s : State) : (s.answered c p).pins = s.pins := rfl
@[simp] theorem State.answered_timer (c : ResultCode) (p : List Byte) (s : State) : (s.answered c p).timer = s.timer := rfl
@[simp] theorem State.answered_effects (c : ResultCode) (p : List Byte) (s : State) : (s.answered c p).effects = s.effects := rfl
@[simp] theorem State.answered_nozzles (c : ResultCode) (p : List Byte) (s : State) : (s.answered c p).nozzles = s.nozzles := rfl
@[simp] theorem State.answered_pumps (c : ResultCode) (p : List Byte) (s : State) : (s.answered c p).pumps = s.pumps := rfl
@[simp] theorem State.answered_site (c : ResultCode) (p : List Byte) (s : State) : (s.answered c p).site = s.site := rfl
@[simp] theorem State.answered_lights (c : ResultCode) (p : List Byte) (s : State) : (s.answered c p).lights = s.lights := rfl
@[simp] theorem State.answered_lines (c : ResultCode) (p : List Byte) (s : State) : (s.answered c p).lines = s.lines := rfl
@[simp] theorem State.answered_clips (c : ResultCode) (p : List Byte) (s : State) : (s.answered c p).clips = s.clips := rfl
@[simp] theorem State.answered_decks (c : ResultCode) (p : List Byte) (s : State) : (s.answered c p).decks = s.decks := rfl
@[simp] theorem State.answered_store (c : ResultCode) (p : List Byte) (s : State) : (s.answered c p).store = s.store := rfl

end Sys2Proof.Machine
end

