-- ==== Sys2Proof/Laws/Ops.lean ====
section
/-! SUPPORT. What the shared operations do, each said once: `forEach`, the entries of the tables, sorting, division
rounded up and the order of show times. -/

namespace Sys2Proof.Machine

/-! ### `forEach` -/

@[simp] theorem forEach_nil {α : Type} (f : α → State → State) (s : State) : forEach [] f s = s := rfl

@[simp] theorem forEach_cons {α : Type} (a : α) (l : List α) (f : α → State → State) (s : State) :
    forEach (a :: l) f s = forEach l f (f a s) := rfl

/-- What every single application keeps, `forEach` keeps. -/
theorem forEach_keeps {α : Type} (P : State → Prop) (l : List α) (f : α → State → State)
    (h : ∀ a ∈ l, ∀ s, P s → P (f a s)) (s : State) (hs : P s) : P (forEach l f s) := by
  induction l generalizing s with
  | nil => exact hs
  | cons a l ih =>
    exact ih (fun b hb => h b (List.mem_cons_of_mem a hb)) (f a s) (h a List.mem_cons_self s hs)

/-- What every single application leaves as it is, `forEach` leaves as it is. -/
theorem forEach_same {α β : Type} (g : State → β) (l : List α) (f : α → State → State)
    (h : ∀ a ∈ l, ∀ s, g (f a s) = g s) (s : State) : g (forEach l f s) = g s :=
  forEach_keeps (fun t => g t = g s) l f (fun a ha t ht => (h a ha t).trans ht) s rfl

/-! ### Entries of the tables -/

/-- An entry of a changed list, with a default that stands for entries past the end. -/
theorem getD_modify {α : Type} (l : List α) (i j : Nat) (f : α → α) (d : α) :
    (l.modify i f).getD j d = if i = j ∧ j < l.length then f (l.getD j d) else l.getD j d := by
  simp only [List.getD_eq_getElem?_getD, List.getElem?_modify]
  by_cases h : i = j
  · by_cases hj : j < l.length
    · simp [h, hj]
    · simp [h, hj]
  · simp [h]

theorem State.effectSlot_modifyEffectSlot (i j : Nat) (f : EffectSlot → EffectSlot) (s : State) :
    (s.modifyEffectSlot i f).effectSlot j =
      if i = j ∧ j < s.effects.slots.length then f (s.effectSlot j) else s.effectSlot j :=
  getD_modify _ i j f _

theorem State.group_modifyGroup (i j : Nat) (f : Group → Group) (s : State) :
    (s.modifyGroup i f).group j = if i = j ∧ j < s.effects.groups.length then f (s.group j) else s.group j :=
  getD_modify _ i j f _

theorem State.nozzle_modifyNozzle (i j : Nat) (f : Nozzle → Nozzle) (s : State) :
    (s.modifyNozzle i f).nozzle j = if i = j ∧ j < s.nozzles.table.length then f (s.nozzle j) else s.nozzle j :=
  getD_modify _ i j f _

theorem State.manifold_modifyManifold (i j : Nat) (f : Manifold → Manifold) (s : State) :
    (s.modifyManifold i f).manifold j =
      if i = j ∧ j < s.pumps.manifolds.length then f (s.manifold j) else s.manifold j :=
  getD_modify _ i j f _

theorem State.pump_modifyPump (i j : Nat) (f : Pump → Pump) (s : State) :
    (s.modifyPump i f).pump j = if i = j ∧ j < s.pumps.table.length then f (s.pump j) else s.pump j :=
  getD_modify _ i j f _

theorem State.zone_modifyZone (i j : Nat) (f : Zone → Zone) (s : State) :
    (s.modifyZone i f).zone j = if i = j ∧ j < s.site.zones.length then f (s.zone j) else s.zone j :=
  getD_modify _ i j f _

theorem State.presence_modifyPresence (i j : Nat) (f : PresenceInput → PresenceInput) (s : State) :
    (s.modifyPresence i f).presence j =
      if i = j ∧ j < s.site.presence.length then f (s.presence j) else s.presence j :=
  getD_modify _ i j f _

theorem State.fixture_modifyFixture (i j : Nat) (f : Fixture → Fixture) (s : State) :
    (s.modifyFixture i f).fixture j = if i = j ∧ j < s.lights.table.length then f (s.fixture j) else s.fixture j :=
  getD_modify _ i j f _

theorem State.line_modifyLine (i j : Nat) (f : Line → Line) (s : State) :
    (s.modifyLine i f).line j = if i = j ∧ j < s.lines.length then f (s.line j) else s.line j :=
  getD_modify _ i j f _

theorem State.clipSlot_modifyClipSlot (i j : Nat) (f : ClipSlot → ClipSlot) (s : State) :
    (s.modifyClipSlot i f).clipSlot j =
      if i = j ∧ j < s.clips.slots.length then f (s.clipSlot j) else s.clipSlot j :=
  getD_modify _ i j f _

theorem State.deck_modifyDeck (i j : Nat) (f : Deck → Deck) (s : State) :
    (s.modifyDeck i f).deck j = if i = j ∧ j < s.decks.table.length then f (s.deck j) else s.deck j :=
  getD_modify _ i j f _

/-- A change of a slot's record, read back. -/
theorem State.record_modifyRecord (i j : Nat) (f : EffectRecord → EffectRecord) (s : State) :
    ((s.modifyRecord i f).effectSlot j).record =
      if i = j then (s.effectSlot j).record.map f else (s.effectSlot j).record := by
  unfold State.modifyRecord
  rw [State.effectSlot_modifyEffectSlot]
  by_cases h : i = j
  · by_cases hj : j < s.effects.slots.length
    · simp [h, hj]
    · simp [h, hj, State.effectSlot, EffectSlot.blank]
  · simp [h]

/-- A change of a record changes no generation. -/
theorem State.gen_modifyRecord (i j : Nat) (f : EffectRecord → EffectRecord) (s : State) :
    ((s.modifyRecord i f).effectSlot j).gen = (s.effectSlot j).gen := by
  unfold State.modifyRecord
  rw [State.effectSlot_modifyEffectSlot]
  split <;> rfl

/-! ### Raising on a condition -/

theorem State.raiseIf_true (e : Event) (s : State) : s.raiseIf true e = s.raise e := rfl

theorem State.raiseIf_false (e : Event) (s : State) : s.raiseIf false e = s := rfl

/-- Raising on a condition touches the summary alone. -/
theorem State.raiseIf_eq (b : Bool) (e : Event) (s : State) :
    s.raiseIf b e = { s with link := { s.link with summary := s.link.summary ||| if b then e.mask else 0 } } := by
  cases b
  · simp [State.raiseIf]
  · rfl

/-! ### What an update destages and grants (R117, R119) -/

/-- The pump a manifold destages now, and why. -/
theorem State.destageNext_eq_some {s : State} {m p : Nat} : s.destageNext m = some p ↔
    ∃ n, (s.manifold m).destage = some n ∧ s.pumps.suspended = false
      ∧ periodsOfMs (s.manifold m).cfg.destage ≤ n ∧ s.destageVictim m = some p := by
  unfold State.destageNext
  cases (s.manifold m).destage with
  | none => simp
  | some n =>
    simp only [Option.some.injEq, exists_eq_left']
    split <;> simp_all

/-- The pump the arbiter grants now, and why. -/
theorem State.grantNext_eq_some {s : State} {n : Nat} : s.grantNext = some n ↔
    s.pumps.suspended = false ∧ s.startingPump = none ∧ s.intervalPassed = true
      ∧ s.pumps.queue.head? = some n := by
  unfold State.grantNext
  split <;> simp_all

/-- What a row that stands for an update can do: it takes the outstanding update, or changes nothing (log entry 4). -/
theorem State.takePumpsIf_eq (makes : Bool) (s : State) :
    (s.due.pump = true ∧ makes = true ∧ s.takePumpsIf makes = s.takePumps)
      ∨ ((s.due.pump = false ∨ makes = false) ∧ s.takePumpsIf makes = s) := by
  unfold State.takePumpsIf
  cases s.due.pump <;> cases makes <;> simp

/-- What a row that stands for a boundary can do: it takes the outstanding boundary, or changes nothing (log entry 4). -/
theorem State.takeEffectsIf_eq (makes : ShowTime → State → Bool) (s : State) :
    (s.due.effects = true ∧ s.timer.showState ≠ .stopped ∧ makes s.timer.clock s = true
        ∧ s.takeEffectsIf makes = s.takeEffects)
      ∨ ((s.due.effects = false ∨ s.timer.showState = .stopped ∨ makes s.timer.clock s = false)
        ∧ s.takeEffectsIf makes = s) := by
  unfold State.takeEffectsIf
  by_cases h : s.timer.showState = .stopped <;> cases s.due.effects <;> cases makes s.timer.clock s <;> simp [h]

/-- With nothing at the last period's end that ends the show, there is nothing to take. -/
theorem State.takeShowEnds_of_none {s : State} (hs : s.due.stop = false) (hq : s.silenceExpired = false)
    (he : s.atEndTime = false) : s.takeShowEnds = s := by
  simp [State.takeShowEnds, State.takeStop, State.takeSilence, State.takeEndTime, hs, hq, he]

/-- What the decks' processing can do: nothing, what ends the show and no more, or one period of both decks (R179). -/
theorem State.takeDeckPeriod_eq (s : State) :
    (s.deckPeriodDue = false ∧ s.takeDeckPeriod = s)
      ∨ (s.deckPeriodDue = true ∧ s.takeShowEnds.decksRun = false ∧ s.takeDeckPeriod = s.takeShowEnds)
      ∨ (s.deckPeriodDue = true ∧ s.takeShowEnds.decksRun = true ∧ s.takeDeckPeriod =
          (forEach [0, 1] State.processDeck s.takeShowEnds).modifyDue fun d => { d with decksDone := true }) := by
  unfold State.takeDeckPeriod
  cases s.deckPeriodDue <;> cases h : s.takeShowEnds.decksRun <;> simp [h]

/-- An update outstanding is taken, whole. -/
theorem State.takePumps_due {s : State} (h : s.due.pump = true) :
    s.takePumps = s.pumpUpdate.modifyDue fun d => { d with pump := false } := by
  simp [State.takePumps, h]

/-- With no update outstanding there is none to take. -/
theorem State.takePumps_idle {s : State} (h : s.due.pump = false) : s.takePumps = s := by
  simp [State.takePumps, h]

/-! ### Sorting -/

theorem insertByKey_perm {α : Type} (key : α → Nat) (a : α) (l : List α) :
    (insertByKey key a l).Perm (a :: l) := by
  induction l with
  | nil => exact .refl _
  | cons b l ih =>
    unfold insertByKey
    split
    · exact .refl _
    · exact (ih.cons b).trans (.swap a b l)

/-- Sorting loses nothing and adds nothing. -/
theorem sortByKey_perm {α : Type} (key : α → Nat) (l : List α) : (sortByKey key l).Perm l := by
  induction l with
  | nil => exact .refl _
  | cons a l ih => exact (insertByKey_perm key a _).trans (ih.cons a)

theorem insertByKey_sorted {α : Type} (key : α → Nat) (a : α) (l : List α)
    (h : l.Pairwise fun x y => key x ≤ key y) :
    (insertByKey key a l).Pairwise fun x y => key x ≤ key y := by
  induction l with
  | nil => simp [insertByKey]
  | cons b l ih =>
    rw [List.pairwise_cons] at h
    unfold insertByKey
    split
    · rename_i hab
      refine List.pairwise_cons.2 ⟨fun c hc => ?_, List.pairwise_cons.2 h⟩
      rcases List.mem_cons.1 hc with rfl | hc
      · exact hab
      · exact le_trans hab (h.1 c hc)
    · rename_i hab
      refine List.pairwise_cons.2 ⟨fun c hc => ?_, ih h.2⟩
      rcases List.mem_cons.1 ((insertByKey_perm key a l).mem_iff.1 hc) with rfl | hc
      · omega
      · exact h.1 c hc

/-- A sorted list stands in ascending order of its key. -/
theorem sortByKey_sorted {α : Type} (key : α → Nat) (l : List α) :
    (sortByKey key l).Pairwise fun x y => key x ≤ key y := by
  induction l with
  | nil => simp [sortByKey]
  | cons a l ih => exact insertByKey_sorted key a _ ih

/-! ### Arithmetic -/

/-- Division rounded up is the least quotient that reaches the dividend. -/
theorem ceilDiv_le_iff {n d k : Nat} (hd : 0 < d) : ceilDiv n d ≤ k ↔ n ≤ k * d := by
  unfold ceilDiv
  rw [Nat.div_le_iff_le_mul_add_pred hd]
  constructor
  · intro h; rw [Nat.mul_comm]; omega
  · intro h; rw [Nat.mul_comm] at h; omega

/-- A show time is at or after itself. -/
theorem atOrAfter_self (t : ShowTime) : atOrAfter t t = true := by simp [atOrAfter]

/-- The speed command comes no further than its target and moves by at most the step (R118). -/
theorem moveSpeed_bounds (c t d : Nat) :
    min c t ≤ moveSpeed c t d ∧ moveSpeed c t d ≤ max c t ∧ moveSpeed c t d ≤ c + d ∧ c ≤ moveSpeed c t d + d := by
  unfold moveSpeed
  split
  · omega
  · split <;> omega

/-- A generation after an allocation is never 0, so no handle has generation 0 (R20, R169). -/
theorem nextGeneration_ne_zero (g : Byte) : nextGeneration g ≠ 0 := by
  revert g; decide

/-- A handle as a number: 256 times its generation plus its slot. -/
theorem handleOf_toNat (slot : Nat) (gen : Byte) : (handleOf slot gen).toNat = gen.toNat * 256 + slot % 256 := by
  unfold handleOf
  rw [BitVec.toNat_append, ← Nat.shiftLeft_add_eq_or_of_lt (BitVec.isLt _), Nat.shiftLeft_eq]
  simp

/-- A handle names the slot it was formed from. -/
theorem handleSlot_handleOf (slot : Nat) (gen : Byte) (h : slot < 256) : handleSlot (handleOf slot gen) = slot := by
  simp only [handleSlot, BitVec.extractLsb'_toNat, handleOf_toNat]
  omega

/-- A handle names the generation it was formed from. -/
theorem handleGen_handleOf (slot : Nat) (gen : Byte) : handleGen (handleOf slot gen) = gen := by
  apply BitVec.eq_of_toNat_eq
  have := gen.isLt
  simp only [handleGen, BitVec.extractLsb'_toNat, handleOf_toNat, Nat.shiftRight_eq_div_pow]
  omega

end Sys2Proof.Machine
end

