-- ==== Sys2Proof/Laws/Memory.lean ====
section
/-! SUPPORT. Sample memory: a read after a write, and that every operation keeps the canonical form. -/

namespace Sys2Proof.Machine

/-- The cells of a run of bytes stand at its addresses. -/
theorem SampleMemory.mem_cells {a : Nat} {bytes : List Byte} {c : Host.Cell} (h : c ∈ SampleMemory.cells a bytes) :
    a ≤ c.1 ∧ c.1 < a + bytes.length := by
  induction bytes generalizing a with
  | nil => simp [SampleMemory.cells] at h
  | cons b rest ih =>
    rcases List.mem_cons.1 h with rfl | h
    · simp
    · have := ih h
      simp only [List.length_cons]
      omega

theorem SampleMemory.cells_sorted (a : Nat) (bytes : List Byte) :
    ((SampleMemory.cells a bytes).map (·.1)).Pairwise (· < ·) := by
  induction bytes generalizing a with
  | nil => simp [SampleMemory.cells]
  | cons b rest ih =>
    simp only [SampleMemory.cells, List.map_cons, List.pairwise_cons]
    refine ⟨fun x hx => ?_, ih (a + 1)⟩
    obtain ⟨c, hc, rfl⟩ := List.mem_map.1 hx
    have := SampleMemory.mem_cells hc
    omega

/-- Sample memory after a full reset has the canonical form. -/
theorem SampleMemory.wf_nil : SampleMemory.wf [] := by simp [SampleMemory.wf]

/-- A write inside sample memory keeps the canonical form. -/
theorem SampleMemory.wf_write {m : List Host.Cell} {a : Nat} {bytes : List Byte} (h : SampleMemory.wf m)
    (ha : a + bytes.length ≤ SampleMemory.size) : SampleMemory.wf (SampleMemory.write m a bytes) := by
  obtain ⟨hs, hb⟩ := h
  have sub : ∀ p : Host.Cell → Bool, ((m.filter p).map (·.1)).Pairwise (· < ·) := fun p =>
    hs.sublist (List.filter_sublist.map _)
  refine ⟨?_, fun c hc => ?_⟩
  · unfold SampleMemory.write
    rw [List.map_append, List.map_append, List.pairwise_append, List.pairwise_append]
    refine ⟨⟨sub _, SampleMemory.cells_sorted a bytes, ?_⟩, sub _, ?_⟩
    · intro x hx y hy
      obtain ⟨c, hc, rfl⟩ := List.mem_map.1 hx
      obtain ⟨d, hd, rfl⟩ := List.mem_map.1 hy
      have h1 : c.1 < a := by simpa using (List.mem_filter.1 hc).2
      have h2 := SampleMemory.mem_cells hd
      omega
    · intro x hx y hy
      obtain ⟨d, hd, rfl⟩ := List.mem_map.1 hy
      have h2 : a + bytes.length ≤ d.1 := by simpa using (List.mem_filter.1 hd).2
      rcases List.mem_append.1 hx with hx | hx
      · obtain ⟨c, hc, rfl⟩ := List.mem_map.1 hx
        have h1 : c.1 < a := by simpa using (List.mem_filter.1 hc).2
        omega
      · obtain ⟨c, hc, rfl⟩ := List.mem_map.1 hx
        have h1 := SampleMemory.mem_cells hc
        omega
  · unfold SampleMemory.write at hc
    rcases List.mem_append.1 hc with hc | hc
    · rcases List.mem_append.1 hc with hc | hc
      · exact hb c (List.mem_filter.1 hc).1
      · have := SampleMemory.mem_cells hc
        omega
    · exact hb c (List.mem_filter.1 hc).1

/-- What is found in a run of cells at one of its addresses. -/
theorem SampleMemory.find?_cells (a x : Nat) (bytes : List Byte) :
    ((SampleMemory.cells a bytes).find? fun c => c.1 == x).map (·.2) =
      if a ≤ x then bytes[x - a]? else none := by
  induction bytes generalizing a with
  | nil => simp [SampleMemory.cells]
  | cons b rest ih =>
    simp only [SampleMemory.cells, List.find?_cons]
    by_cases h : a = x
    · simp [h]
    · rw [show (a == x) = false by simpa using h]
      simp only [ih (a + 1)]
      by_cases hx : a ≤ x
      · rw [if_pos hx, if_pos (by omega), show x - a = (x - (a + 1)) + 1 by omega]
        simp
      · rw [if_neg hx, if_neg (by omega)]

theorem SampleMemory.find?_filter (m : List Host.Cell) (x : Nat) (p : Nat → Bool) :
    ((m.filter fun c => p c.1).find? fun c => c.1 == x) = if p x then m.find? fun c => c.1 == x else none := by
  induction m with
  | nil => simp
  | cons c m ih =>
    by_cases hc : p c.1
    · simp only [List.filter_cons, hc, if_true, List.find?_cons]
      by_cases hx : c.1 = x
      · simp [hx, hx ▸ hc]
      · rw [show (c.1 == x) = false by simpa using hx]
        simpa using ih
    · simp only [List.filter_cons, hc, List.find?_cons]
      by_cases hx : c.1 = x
      · have : p x = false := by rw [← hx]; simpa using hc
        simp only [this] at ih ⊢
        simpa using ih
      · rw [show (c.1 == x) = false by simpa using hx]
        simpa using ih

/-- A read after a write: inside the run the byte written, elsewhere the byte that stood there. -/
theorem SampleMemory.byte?_write (m : List Host.Cell) (a x : Nat) (bytes : List Byte) :
    SampleMemory.byte? (SampleMemory.write m a bytes) x =
      if a ≤ x ∧ x < a + bytes.length then bytes[x - a]? else SampleMemory.byte? m x := by
  have lo := SampleMemory.find?_filter m x fun y => decide (y < a)
  have hi := SampleMemory.find?_filter m x fun y => decide (a + bytes.length ≤ y)
  have mid := SampleMemory.find?_cells a x bytes
  simp only [decide_eq_true_eq] at lo hi
  unfold SampleMemory.byte? SampleMemory.write
  rw [List.find?_append, List.find?_append, lo, hi]
  by_cases h1 : x < a
  · have : (SampleMemory.cells a bytes).find? (fun c => c.1 == x) = none := by
      rw [if_neg (by omega)] at mid
      simpa using mid
    rw [if_pos h1, this, if_neg (by omega), if_neg (by omega)]
    simp
  · rw [if_neg h1]
    rw [if_pos (by omega)] at mid
    by_cases h2 : x < a + bytes.length
    · rw [if_neg (by omega), if_pos ⟨by omega, h2⟩, ← mid]
      simp
    · have : (SampleMemory.cells a bytes).find? (fun c => c.1 == x) = none := by
        rw [List.getElem?_eq_none (by omega)] at mid
        simpa using mid
      rw [if_pos (by omega), this, if_neg (by omega)]
      simp

/-- Reading a byte after a write of sample memory. -/
theorem SampleMemory.read_write (m : List Host.Cell) (a x : Nat) (bytes : List Byte) :
    SampleMemory.read (SampleMemory.write m a bytes) x =
      if h : a ≤ x ∧ x < a + bytes.length then bytes[x - a]'(by omega) else SampleMemory.read m x := by
  unfold SampleMemory.read
  rw [SampleMemory.byte?_write]
  split
  · rename_i h
    rw [List.getElem?_eq_getElem (by omega)]
    rfl
  · rfl

end Sys2Proof.Machine
end

