-- ==== Sys2Proof/Laws/Owners.lean ====
section
/-! SUPPORT. The slot owner map: what a configuration with no nozzle and no fixture present makes of it. -/

namespace Sys2Proof.Machine

/-- A map that owns no slot agrees with a configuration in which no nozzle and no fixture is present (R166). -/
theorem ownerMapOk_of_absent {nozzle : Nat → NozzleConfig} {fixture : Nat → FixtureConfig} {slots : Nat → Nat}
    {owner : Nat → Nat → SlotOwner} (hn : ∀ n, (nozzle n).present = false) (hf : ∀ f, (fixture f).present = false)
    (ho : ∀ l i, owner l i = .free) : OwnerMapOk nozzle fixture slots owner :=
  ⟨fun n _ h => by simp [hn n] at h, fun f _ h => by simp [hf f] at h, fun l _ i _ _ h => absurd (ho l i) h⟩

/-- Configurations none of which is present make no nozzle claim. -/
theorem nozzleClaimsOn_of_absent {l : Nat} {ns : List NozzleConfig} (h : ∀ c ∈ ns, c.present = false) :
    nozzleClaimsOn l ns = [] := by
  refine List.flatMap_eq_nil_iff.2 fun ci hi => ?_
  have := h ci.1 (List.fst_mem_of_mem_zipIdx hi)
  simp [this]

/-- Configurations none of which is present make no fixture claim. -/
theorem fixtureClaimsOn_of_absent {l : Nat} {fs : List FixtureConfig} (h : ∀ c ∈ fs, c.present = false) :
    fixtureClaimsOn l fs = [] := by
  refine List.flatMap_eq_nil_iff.2 fun ci hi => ?_
  have := h ci.1 (List.fst_mem_of_mem_zipIdx hi)
  simp [this]

/-- A frame start leaves the owner map as it was. -/
theorem Line.owner_startFrame (l : Line) (i : Nat) : l.startFrame.owner i = l.owner i := rfl

/-- An OFF line owns no slot. -/
theorem Line.owner_off (c : LineConfig) (i : Nat) : (Line.off c).owner i = .free := by
  show (List.replicate 512 SlotOwner.free).getD (i - 1) .free = .free
  rw [List.getD_eq_getElem?_getD, List.getElem?_replicate]
  split <;> rfl

/-- Start-up with no nozzle and no fixture present gives a line that owns no slot. -/
theorem startLine_owner_of_absent {c : SiteConfig} {l : Nat} {lc : LineConfig} (hn : ∀ x ∈ c.nozzles, x.present = false)
    (hf : ∀ x ∈ c.fixtures, x.present = false) (i : Nat) : (startLine c l lc).owner i = .free := by
  have h : startLine c l lc = if lc.enabled ∧ lc.slots ≠ 0 then (Line.off lc).startFrame else Line.off lc := by
    simp [startLine, nozzleClaimsOn_of_absent hn, fixtureClaimsOn_of_absent hf, Line.claim]
  rw [h]
  split
  · exact (Line.owner_startFrame _ i).trans (Line.owner_off lc i)
  · exact Line.owner_off lc i

/-- The site defaults make an owner map that agrees with them (R166, R201). -/
theorem SiteConfig.ownersOk_defaults : SiteConfig.defaults.ownersOk := by
  have nozzle : ∀ x ∈ SiteConfig.defaults.nozzles, x.present = false := fun x h => by
    rw [List.eq_of_mem_replicate h]; rfl
  have fixture : ∀ x ∈ SiteConfig.defaults.fixtures, x.present = false := fun x h => by
    rw [List.eq_of_mem_replicate h]; rfl
  refine ownerMapOk_of_absent (fun n => ?_) (fun f => ?_) fun l i => startLine_owner_of_absent nozzle fixture i
  · show ((List.replicate 384 NozzleConfig.blank).getD n NozzleConfig.blank).present = false
    rw [List.getD_eq_getElem?_getD, List.getElem?_replicate]
    split <;> rfl
  · show ((List.replicate 512 FixtureConfig.blank).getD f FixtureConfig.blank).present = false
    rw [List.getD_eq_getElem?_getD, List.getElem?_replicate]
    split <;> rfl

end Sys2Proof.Machine
end

