-- ==== Sys2Proof/Laws/PerInstr.lean ====
section
/-! SUPPORT. One lemma per command, for statements about all of them: a well-formed command message has at least one
byte and at most 512 (Table 0-6, R203). -/

namespace Sys2Proof.Laws

/-- The message of a well-formed command has 1..512 bytes; a row that is no message has none. -/
def Messages.Statement (i : Instr) : Prop :=
  i.wellFormed = true → ∀ bytes, encodeCommand i = some bytes → 0 < bytes.length ∧ bytes.length ≤ 512

theorem halfBytes_length (h : Half) : (halfBytes h).length = 2 := rfl

theorem quadBytes_length (q : Quad) : (quadBytes q).length = 4 := rfl

theorem colourBytes_length (l : WireLevel) : (colourBytes l).length = 8 := rfl

theorem heightBytes_length (l : WireLevel) : (heightBytes l).length = 2 := rfl

theorem namedBytes_length_le (b : Bool) (bytes : List Byte) : (namedBytes b bytes).length ≤ bytes.length := by
  cases b <;> simp [namedBytes]

theorem effectAddBytes_length_le (p : EffectAddParams) : (effectAddBytes p).length ≤ 52 := by
  unfold effectAddBytes
  cases p.short <;>
    simp [halfBytes_length, quadBytes_length, colourBytes_length, heightBytes_length]

theorem editBytes_length_le (set : Half) (v : EditValues) : (editBytes set v).length ≤ 42 := by
  simp only [editBytes, List.length_append]
  have h (b : Bool) (bytes : List Byte) := namedBytes_length_le b bytes
  have h0 := h (set.getLsbD 0) (colourBytes v.l0)
  have h1 := h (set.getLsbD 1) (colourBytes v.l1)
  have h2 := h (set.getLsbD 2) (quadBytes v.p)
  have h3 := h (set.getLsbD 3) (quadBytes v.w)
  have h4 := h (set.getLsbD 4) (halfBytes v.step)
  have h5 := h (set.getLsbD 5) (halfBytes v.seed)
  have h6 := h (set.getLsbD 6) [v.shape]
  have h7 := h (set.getLsbD 7) (quadBytes v.duration)
  have h8 := h (set.getLsbD 8) (quadBytes v.fadeOut)
  have h9 := h (set.getLsbD 9) [v.layer]
  have h10 := h (set.getLsbD 10) [v.mode]
  have h11 := h (set.getLsbD 11) [v.group]
  have h12 := h (set.getLsbD 12) [v.pinned]
  have h13 := h (set.getLsbD 13) [v.cls]
  simp only [halfBytes_length, quadBytes_length, colourBytes_length, List.length_singleton] at *
  omega

theorem flatMap_halfBytes_length (l : List Half) : (l.flatMap halfBytes).length = 2 * l.length := by
  induction l with
  | nil => rfl
  | cons a l ih => simp [ih, halfBytes_length]; omega

/-- A message that is some list of 1..512 bytes. -/
theorem Messages.of_some {o : Option (List Byte)} {m : List Byte} (ho : o = some m) (hm : 0 < m.length ∧ m.length ≤ 512) :
    ∀ bytes, o = some bytes → 0 < bytes.length ∧ bytes.length ≤ 512 := by
  intro bytes hb
  rw [ho] at hb
  cases hb
  exact hm

/-- A row that is no message. -/
theorem Messages.of_none {o : Option (List Byte)} (ho : o = none) :
    ∀ bytes, o = some bytes → 0 < bytes.length ∧ bytes.length ≤ 512 := by
  intro bytes hb
  rw [ho] at hb
  cases hb

theorem Messages.fullReset : Messages.Statement .fullReset := fun _ =>
  Messages.of_none rfl

theorem Messages.linkAttach : Messages.Statement .linkAttach := fun _ =>
  Messages.of_none rfl

theorem Messages.linkReset : Messages.Statement .linkReset := fun _ =>
  Messages.of_none rfl

theorem Messages.samplePeriod (inputs : Inputs) : Messages.Statement (.samplePeriod inputs) := fun _ =>
  Messages.of_none rfl

theorem Messages.commandPacket (packet : List Byte) : Messages.Statement (.commandPacket packet) := fun _ =>
  Messages.of_none rfl

theorem Messages.malformedCommand (transfer : List Byte) : Messages.Statement (.malformedCommand transfer) := fun _ =>
  Messages.of_none rfl

theorem Messages.replyPoll (accepted : Bool) : Messages.Statement (.replyPoll accepted) := fun _ =>
  Messages.of_none rfl

theorem Messages.noticePoll (accepted : Bool) : Messages.Statement (.noticePoll accepted) := fun _ =>
  Messages.of_none rfl

theorem Messages.clipBlock (packets : List (List Byte)) : Messages.Statement (.clipBlock packets) := fun _ =>
  Messages.of_none rfl

theorem Messages.showStart : Messages.Statement .showStart := fun _ =>
  Messages.of_some rfl ⟨Nat.succ_pos _, Nat.le_of_ble_eq_true rfl⟩

theorem Messages.showHold : Messages.Statement .showHold := fun _ =>
  Messages.of_some rfl ⟨Nat.succ_pos _, Nat.le_of_ble_eq_true rfl⟩

theorem Messages.showResume : Messages.Statement .showResume := fun _ =>
  Messages.of_some rfl ⟨Nat.succ_pos _, Nat.le_of_ble_eq_true rfl⟩

theorem Messages.showEnd (fade : Half) :
    Messages.Statement (.showEnd fade) := fun _ =>
  Messages.of_some rfl ⟨Nat.succ_pos _, Nat.le_of_ble_eq_true rfl⟩

theorem Messages.showStop : Messages.Statement .showStop := fun _ =>
  Messages.of_some rfl ⟨Nat.succ_pos _, Nat.le_of_ble_eq_true rfl⟩

theorem Messages.tempoSet (period anchor : Quad) :
    Messages.Statement (.tempoSet period anchor) := fun _ =>
  Messages.of_some rfl ⟨Nat.succ_pos _, Nat.le_of_ble_eq_true rfl⟩

theorem Messages.showQuery : Messages.Statement .showQuery := fun _ =>
  Messages.of_some rfl ⟨Nat.succ_pos _, Nat.le_of_ble_eq_true rfl⟩

theorem Messages.endTimeReached : Messages.Statement .endTimeReached := fun _ =>
  Messages.of_none rfl

theorem Messages.silenceTimerExpiry : Messages.Statement .silenceTimerExpiry := fun _ =>
  Messages.of_none rfl

theorem Messages.effectAdd (params : EffectAddParams) : Messages.Statement (.effectAdd params) := fun _ =>
  Messages.of_some rfl ⟨Nat.succ_pos _, by
    have := effectAddBytes_length_le params
    simp only [List.length_cons]; omega⟩

theorem Messages.effectEdit (handle : Half) (timing : Byte) (atTime : Quad) (present : Half) (values : EditValues) :
    Messages.Statement (.effectEdit handle timing atTime present values) := fun _ =>
  Messages.of_some rfl ⟨Nat.succ_pos _, by
    have := editBytes_length_le present values
    simp only [List.length_cons, List.length_append, halfBytes_length, quadBytes_length, List.length_nil]; omega⟩

theorem Messages.effectRetire (handle : Half) (mode : Byte) :
    Messages.Statement (.effectRetire handle mode) := fun _ =>
  Messages.of_some rfl ⟨Nat.succ_pos _, Nat.le_of_ble_eq_true rfl⟩

theorem Messages.effectQuery (handle : Half) :
    Messages.Statement (.effectQuery handle) := fun _ =>
  Messages.of_some rfl ⟨Nat.succ_pos _, Nat.le_of_ble_eq_true rfl⟩

theorem Messages.groupDefine (group kind : Byte) (members : List Half) :
    Messages.Statement (.groupDefine group kind members) := fun h =>
  Messages.of_some rfl ⟨Nat.succ_pos _, by
    have : members.length ≤ 254 := by simpa [Instr.wellFormed] using h
    simp only [List.length_cons, flatMap_halfBytes_length]; omega⟩

theorem Messages.groupQuery (group : Byte) :
    Messages.Statement (.groupQuery group) := fun _ =>
  Messages.of_some rfl ⟨Nat.succ_pos _, Nat.le_of_ble_eq_true rfl⟩

theorem Messages.effectBoundary : Messages.Statement .effectBoundary := fun _ =>
  Messages.of_none rfl

theorem Messages.pendingEditApplied (slot : Fin 256) : Messages.Statement (.pendingEditApplied slot) := fun _ =>
  Messages.of_none rfl

theorem Messages.effectStartReached (slot : Fin 256) : Messages.Statement (.effectStartReached slot) := fun _ =>
  Messages.of_none rfl

theorem Messages.naturalEnd (slot : Fin 256) : Messages.Statement (.naturalEnd slot) := fun _ =>
  Messages.of_none rfl

theorem Messages.fadeComplete (slot : Fin 256) : Messages.Statement (.fadeComplete slot) := fun _ =>
  Messages.of_none rfl

theorem Messages.jetFrame : Messages.Statement .jetFrame := fun _ =>
  Messages.of_none rfl

theorem Messages.envelopeUpdate : Messages.Statement .envelopeUpdate := fun _ =>
  Messages.of_none rfl

theorem Messages.lightComputation : Messages.Statement .lightComputation := fun _ =>
  Messages.of_none rfl

theorem Messages.nozzleSet (params : NozzleSetParams) :
    Messages.Statement (.nozzleSet params) := fun _ =>
  Messages.of_some rfl ⟨Nat.succ_pos _, Nat.le_of_ble_eq_true rfl⟩

theorem Messages.nozzleQuery (nozzle : Half) :
    Messages.Statement (.nozzleQuery nozzle) := fun _ =>
  Messages.of_some rfl ⟨Nat.succ_pos _, Nat.le_of_ble_eq_true rfl⟩

theorem Messages.pumpUpdate : Messages.Statement .pumpUpdate := fun _ =>
  Messages.of_none rfl

theorem Messages.pumpStartTimeout (pump : Fin 16) : Messages.Statement (.pumpStartTimeout pump) := fun _ =>
  Messages.of_none rfl

theorem Messages.pumpStopTimeout (pump : Fin 16) : Messages.Statement (.pumpStopTimeout pump) := fun _ =>
  Messages.of_none rfl

theorem Messages.destage (manifold : Fin 8) : Messages.Statement (.destage manifold) := fun _ =>
  Messages.of_none rfl

theorem Messages.startGrant : Messages.Statement .startGrant := fun _ =>
  Messages.of_none rfl

theorem Messages.manifoldSet (params : ManifoldSetParams) :
    Messages.Statement (.manifoldSet params) := fun _ =>
  Messages.of_some rfl ⟨Nat.succ_pos _, Nat.le_of_ble_eq_true rfl⟩

theorem Messages.manifoldQuery (manifold : Byte) :
    Messages.Statement (.manifoldQuery manifold) := fun _ =>
  Messages.of_some rfl ⟨Nat.succ_pos _, Nat.le_of_ble_eq_true rfl⟩

theorem Messages.pumpSet (params : PumpSetParams) :
    Messages.Statement (.pumpSet params) := fun _ =>
  Messages.of_some rfl ⟨Nat.succ_pos _, Nat.le_of_ble_eq_true rfl⟩

theorem Messages.pumpQuery (pump : Byte) :
    Messages.Statement (.pumpQuery pump) := fun _ =>
  Messages.of_some rfl ⟨Nat.succ_pos _, Nat.le_of_ble_eq_true rfl⟩

theorem Messages.pumpRelease (pump : Byte) :
    Messages.Statement (.pumpRelease pump) := fun _ =>
  Messages.of_some rfl ⟨Nat.succ_pos _, Nat.le_of_ble_eq_true rfl⟩

theorem Messages.pumpLockout (pump : Byte) :
    Messages.Statement (.pumpLockout pump) := fun _ =>
  Messages.of_some rfl ⟨Nat.succ_pos _, Nat.le_of_ble_eq_true rfl⟩

theorem Messages.pumpClear (pump : Byte) :
    Messages.Statement (.pumpClear pump) := fun _ =>
  Messages.of_some rfl ⟨Nat.succ_pos _, Nat.le_of_ble_eq_true rfl⟩

theorem Messages.startSet (interval : Half) :
    Messages.Statement (.startSet interval) := fun _ =>
  Messages.of_some rfl ⟨Nat.succ_pos _, Nat.le_of_ble_eq_true rfl⟩

theorem Messages.windGate : Messages.Statement .windGate := fun _ =>
  Messages.of_none rfl

theorem Messages.windHoldRelease (zone : Fin 17) : Messages.Statement (.windHoldRelease zone) := fun _ =>
  Messages.of_none rfl

theorem Messages.presenceDebounced (input : Fin 8) : Messages.Statement (.presenceDebounced input) := fun _ =>
  Messages.of_none rfl

theorem Messages.emergencyStopAssertion : Messages.Statement .emergencyStopAssertion := fun _ =>
  Messages.of_none rfl

theorem Messages.levelLow : Messages.Statement .levelLow := fun _ =>
  Messages.of_none rfl

theorem Messages.levelRestored : Messages.Statement .levelRestored := fun _ =>
  Messages.of_none rfl

theorem Messages.zoneSet (params : ZoneSetParams) :
    Messages.Statement (.zoneSet params) := fun _ =>
  Messages.of_some rfl ⟨Nat.succ_pos _, Nat.le_of_ble_eq_true rfl⟩

theorem Messages.zoneCap (zone : Byte) (cap : Half) :
    Messages.Statement (.zoneCap zone cap) := fun _ =>
  Messages.of_some rfl ⟨Nat.succ_pos _, Nat.le_of_ble_eq_true rfl⟩

theorem Messages.zoneRelease (zone : Byte) :
    Messages.Statement (.zoneRelease zone) := fun _ =>
  Messages.of_some rfl ⟨Nat.succ_pos _, Nat.le_of_ble_eq_true rfl⟩

theorem Messages.siteRelease : Messages.Statement .siteRelease := fun _ =>
  Messages.of_some rfl ⟨Nat.succ_pos _, Nat.le_of_ble_eq_true rfl⟩

theorem Messages.windSet (factor : Half) (decay : Byte) :
    Messages.Statement (.windSet factor decay) := fun _ =>
  Messages.of_some rfl ⟨Nat.succ_pos _, Nat.le_of_ble_eq_true rfl⟩

theorem Messages.siteQuery (zone : Byte) :
    Messages.Statement (.siteQuery zone) := fun _ =>
  Messages.of_some rfl ⟨Nat.succ_pos _, Nat.le_of_ble_eq_true rfl⟩

theorem Messages.fixtureSet (params : FixtureSetParams) :
    Messages.Statement (.fixtureSet params) := fun _ =>
  Messages.of_some rfl ⟨Nat.succ_pos _, Nat.le_of_ble_eq_true rfl⟩

theorem Messages.fixtureQuery (fixture : Half) :
    Messages.Statement (.fixtureQuery fixture) := fun _ =>
  Messages.of_some rfl ⟨Nat.succ_pos _, Nat.le_of_ble_eq_true rfl⟩

theorem Messages.lightMaster (level : Half) :
    Messages.Statement (.lightMaster level) := fun _ =>
  Messages.of_some rfl ⟨Nat.succ_pos _, Nat.le_of_ble_eq_true rfl⟩

theorem Messages.lineSet (params : LineSetParams) :
    Messages.Statement (.lineSet params) := fun _ =>
  Messages.of_some rfl ⟨Nat.succ_pos _, Nat.le_of_ble_eq_true rfl⟩

theorem Messages.lineQuery (line : Byte) (first : Half) (count : Byte) :
    Messages.Statement (.lineQuery line first count) := fun _ =>
  Messages.of_some rfl ⟨Nat.succ_pos _, Nat.le_of_ble_eq_true rfl⟩

theorem Messages.lineGapEnd (line : Fin 4) : Messages.Statement (.lineGapEnd line) := fun _ =>
  Messages.of_none rfl

theorem Messages.clipCreate (channels : Byte) (length : Quad) :
    Messages.Statement (.clipCreate channels length) := fun _ =>
  Messages.of_some rfl ⟨Nat.succ_pos _, Nat.le_of_ble_eq_true rfl⟩

theorem Messages.clipRetire (handle : Half) :
    Messages.Statement (.clipRetire handle) := fun _ =>
  Messages.of_some rfl ⟨Nat.succ_pos _, Nat.le_of_ble_eq_true rfl⟩

theorem Messages.clipQuery (handle : Half) :
    Messages.Statement (.clipQuery handle) := fun _ =>
  Messages.of_some rfl ⟨Nat.succ_pos _, Nat.le_of_ble_eq_true rfl⟩

theorem Messages.deckCue (deck : Byte) (handle : Half) (cue : Quad) :
    Messages.Statement (.deckCue deck handle cue) := fun _ =>
  Messages.of_some rfl ⟨Nat.succ_pos _, Nat.le_of_ble_eq_true rfl⟩

theorem Messages.deckStart (deck startCode : Byte) (start : Quad) :
    Messages.Statement (.deckStart deck startCode start) := fun _ =>
  Messages.of_some rfl ⟨Nat.succ_pos _, Nat.le_of_ble_eq_true rfl⟩

theorem Messages.deckStop (deck : Byte) (ramp : Half) :
    Messages.Statement (.deckStop deck ramp) := fun _ =>
  Messages.of_some rfl ⟨Nat.succ_pos _, Nat.le_of_ble_eq_true rfl⟩

theorem Messages.deckGain (deck : Byte) (target ramp : Half) :
    Messages.Statement (.deckGain deck target ramp) := fun _ =>
  Messages.of_some rfl ⟨Nat.succ_pos _, Nat.le_of_ble_eq_true rfl⟩

theorem Messages.deckQuery (deck : Byte) :
    Messages.Statement (.deckQuery deck) := fun _ =>
  Messages.of_some rfl ⟨Nat.succ_pos _, Nat.le_of_ble_eq_true rfl⟩

theorem Messages.audioSet (master : Half) (decay : Quad) :
    Messages.Statement (.audioSet master decay) := fun _ =>
  Messages.of_some rfl ⟨Nat.succ_pos _, Nat.le_of_ble_eq_true rfl⟩

theorem Messages.deckPeriod : Messages.Statement .deckPeriod := fun _ =>
  Messages.of_none rfl

theorem Messages.deckBegin (deck : Fin 2) : Messages.Statement (.deckBegin deck) := fun _ =>
  Messages.of_none rfl

theorem Messages.deckStopComplete (deck : Fin 2) : Messages.Statement (.deckStopComplete deck) := fun _ =>
  Messages.of_none rfl

theorem Messages.linkSet (mask : Half) (timeout : Byte) (fade : Half) :
    Messages.Statement (.linkSet mask timeout fade) := fun _ =>
  Messages.of_some rfl ⟨Nat.succ_pos _, Nat.le_of_ble_eq_true rfl⟩

theorem Messages.linkQuery : Messages.Statement .linkQuery := fun _ =>
  Messages.of_some rfl ⟨Nat.succ_pos _, Nat.le_of_ble_eq_true rfl⟩

theorem Messages.storeSave : Messages.Statement .storeSave := fun _ =>
  Messages.of_some rfl ⟨Nat.succ_pos _, Nat.le_of_ble_eq_true rfl⟩

theorem Messages.storeQuery : Messages.Statement .storeQuery := fun _ =>
  Messages.of_some rfl ⟨Nat.succ_pos _, Nat.le_of_ble_eq_true rfl⟩

theorem Messages.saveCompletion : Messages.Statement .saveCompletion := fun _ =>
  Messages.of_none rfl

end Sys2Proof.Laws
end

