-- ==== Sys2Proof/Laws/Transfer.lean ====
section
/-! SUPPORT. What taking a command can do (R190 to R193), said once; the command meanings are all of this shape. -/

namespace Sys2Proof.Machine

/-- No check fails exactly when every condition of the list is false. -/
theorem firstFailure_eq_none {l : List (Bool × ResultCode)} :
    firstFailure l = none ↔ ∀ c ∈ l, c.1 = false := by
  induction l with
  | nil => simp [firstFailure]
  | cons c l ih => obtain ⟨b, r⟩ := c; cases b <;> simp [firstFailure, ih]

/-- A command whose checks all pass is carried out. -/
theorem checked_of_none {l : List (Bool × ResultCode)} (go : Handler) (s : State) (h : firstFailure l = none) :
    checked l go s = go s := by simp [checked, h]

/-- A command of which a check fails is refused with the first failing check's code. -/
theorem checked_of_some {l : List (Bool × ResultCode)} {c : ResultCode} (go : Handler) (s : State)
    (h : firstFailure l = some c) : checked l go s = (s, ⟨c, []⟩) := by simp [checked, h, refuse]

/-- A link that can take no transfer leaves everything as it is. -/
theorem takeCommand_of_cannot {h : Handler} {s : State} (hs : canTake s = false) : takeCommand h s = s := by
  simp [takeCommand, hs]

/-- A taken command: the owner acts once the transfer has been taken, and its answer joins the reply queue. -/
theorem takeCommand_of_can {h : Handler} {s : State} (hs : canTake s = true) :
    takeCommand h s = (h s.transferTaken).1.pushReply (h s.transferTaken).2 := by simp [takeCommand, dispatch, hs]

/-- A transfer whose handler refuses it does nothing but answer. -/
theorem dispatch_refuse (c : ResultCode) (s : State) : dispatch (refuse c) s = s.answered c [] := rfl

/-- A link that is ready takes a whole transfer. -/
theorem canTake_iff {s : State} : canTake s = true ↔ s.ready := by
  simp only [canTake, placesHeld, State.ready, Bool.and_eq_true, Option.isNone_iff_eq_none]
  constructor
  · rintro ⟨⟨ha, ht⟩, hl⟩
    exact ⟨ha, ht, by simpa [ht] using hl⟩
  · rintro ⟨ha, ht, hl⟩
    exact ⟨⟨ha, ht⟩, by simpa [ht] using hl⟩

/-- Taking a transfer does not depend on what it had brought before its short packet. -/
theorem dispatch_closed (h : Handler) (s : State) :
    dispatch h { s with link := { s.link with transfer := none } } = dispatch h s := rfl

/-- Packets that join one after another keep what all of them together would keep. -/
theorem withPacket_withPacket (limit : Nat) (transfer : Option (List Byte)) (a b : List Byte) :
    withPacket limit (some (withPacket limit transfer a)) b = withPacket limit transfer (a ++ b) := by
  simp only [withPacket, Option.getD_some, ← List.append_assoc]
  rw [List.take_append, List.take_append (l₁ := transfer.getD [] ++ a), List.take_take, Nat.min_self]
  congr 1
  rw [List.length_take]
  by_cases hl : limit + 1 ≤ (transfer.getD [] ++ a).length
  · rw [Nat.min_eq_left hl, Nat.sub_self, Nat.sub_eq_zero_of_le hl]
  · rw [Nat.min_eq_right (by omega)]

/-- No more of a transfer is kept than its limit and one byte. -/
theorem withPacket_length_le (limit : Nat) (transfer : Option (List Byte)) (packet : List Byte) :
    (withPacket limit transfer packet).length ≤ limit + 1 := by
  simp only [withPacket, List.length_take]
  omega

/-- All that a packet of the command pipe can do (R189, R191): nothing, when it is not accepted; join the transfer, when
it is full; end it, when it is short. -/
theorem execCommandPacket_eq (packet : List Byte) (s : State) :
    (acceptsPacket packet s = false ∧ execCommandPacket s packet = .next s)
    ∨ (acceptsPacket packet s = true ∧ isShort packet = false ∧ execCommandPacket s packet =
        .next { s with link := { s.link with transfer := some (withPacket messageLimit s.link.transfer packet) } })
    ∨ (acceptsPacket packet s = true ∧ isShort packet = true ∧ execCommandPacket s packet =
        .next (dispatch (handlerOfTransfer (withPacket messageLimit s.link.transfer packet)) s)) := by
  cases ha : acceptsPacket packet s <;> cases hp : isShort packet <;> simp [execCommandPacket, done, ha, hp]

/-- All that a packet of the clip pipe can do (R189, R190, R196): nothing, on a DETACHED link or over 64 bytes; join the
transfer, when it is full; end it, when it is short. -/
theorem State.clipPacket_eq (packet : List Byte) (s : State) :
    ((s.link.attached = false ∨ packetSize < packet.length) ∧ s.clipPacket packet = s)
    ∨ (s.link.attached = true ∧ packet.length = packetSize ∧ s.clipPacket packet =
        { s with link := { s.link with clipTransfer := some (withPacket blockLimit s.link.clipTransfer packet) } })
    ∨ (s.link.attached = true ∧ packet.length < packetSize ∧ s.clipPacket packet =
        State.judgeBlock (withPacket blockLimit s.link.clipTransfer packet)
          { s with link := { s.link with clipTransfer := none } }) := by
  rcases Nat.lt_trichotomy packet.length packetSize with h | h | h <;> cases ha : s.link.attached <;>
    simp [State.clipPacket, isShort, ha, h, Nat.le_of_lt, Nat.not_le.2, Nat.lt_asymm]

/-- A refused command does nothing but answer. -/
theorem takeCommand_refuse {h : Handler} {c : ResultCode} {s : State} (hs : canTake s = true)
    (hr : h s.transferTaken = (s.transferTaken, ⟨c, []⟩)) : takeCommand h s = s.answered c [] := by
  rw [takeCommand_of_can hs, hr]; rfl

/-- Whatever a handler and the taking of a transfer both keep, a command keeps. -/
theorem takeCommand_keeps (P : State → Prop) {h : Handler} {s : State} (hs : P s)
    (htake : P s → P s.transferTaken) (hh : P s.transferTaken → P (h s.transferTaken).1)
    (hpush : ∀ t a, P t → P (t.pushReply a)) : P (takeCommand h s) := by
  by_cases hc : canTake s = true
  · rw [takeCommand_of_can hc]; exact hpush _ _ (hh (htake hs))
  · rw [takeCommand_of_cannot (by simpa using hc)]; exact hs

/-- A taken transfer's reply holds the transfer's place: no more than four are held after it (R191). -/
theorem placesHeld_after {s t : State} (hs : s.link.replies.length < 4)
    (ht : t.link.replies = s.link.replies) (ho : t.link.transfer = none) (a : Answer) :
    placesHeld (t.pushReply a).link ≤ 4 := by
  simp only [placesHeld, State.pushReply_link, ht, ho, List.length_append, List.length_singleton,
    Option.isSome_none, Bool.false_eq_true, if_false]
  omega

end Sys2Proof.Machine
end

