-- ==== Sys2Proof/Tests/Slice0.lean ====
section
/-! SUPPORT. Tests: the well-formedness checks, the worked examples of the spec (the expected figures are the
spec's own, at the place each comment names), and for each statement that has hypotheses a concrete state and
operands that meet them, clause by clause. -/

namespace Sys2Proof.Tests

open Machine

-- The kernel's checks of this file run one after another: each holds a thread of its own otherwise.
set_option Elab.async false

/-! ### Helpers -/

/-- The part right after reset, with its link ATTACHED. -/
def attached : State := { State.reset with link := { State.reset.link with attached := true } }

/-- The state a command leaves. -/
def after (c : Instr) (s : State) : State :=
  match exec c s with
  | .next t => t
  | .fault _ => s
  | .refused _ => s

/-- In a given show state. -/
def showing (sh : ShowState) (s : State) : State := { s with timer := { s.timer with showState := sh } }

/-- At a given show time. -/
def atClock (t : ShowTime) (s : State) : State := { s with timer := { s.timer with clock := t } }

/-- With every boundary event outstanding. -/
def allDue (s : State) : State := { s with due := ⟨true, true, true, true, true, true, false, false⟩ }

/-- With a record in a slot of the effect table, at generation 1. -/
def withRecord (i : Nat) (r : EffectRecord) (s : State) : State := s.modifyEffectSlot i fun _ => ⟨1, some r⟩

/-- With a group defined. -/
def withGroup (g : Nat) (k : Kind) (members : List Nat) (s : State) : State :=
  s.modifyGroup g fun x => { x with defined := some ⟨k, members⟩ }

/-- With a clip in a slot of the clip table, at generation 1. -/
def withClip (i : Nat) (c : Clip) (s : State) : State := s.modifyClipSlot i fun _ => ⟨1, some c⟩

/-- With a deck as given. -/
def withDeck (d : Nat) (k : Deck) (s : State) : State := s.modifyDeck d fun _ => k

/-- A JET record: STEADY, REPLACE, group 0, layer 0, level L1 in centimetres. -/
def jetRecord (height : Nat) (st : EffectState) : EffectRecord where
  params := ⟨.jet, 0, 0, .replace, 0, 0, 0, 0, .steady, ⟨0, 0, 0, 0⟩, ⟨height, 0, 0, 0⟩, 0, 0, 0, 0⟩
  cls := .showClass
  pinned := false
  state := st
  addSeq := 0
  touch := 0
  imposed := none
  edit := none
  limits := Limits.empty
  reported := 0

/-! ### Well-formedness: each check refuses a term -/

/-- EFFECT_ADD of kind 0 with a second channel, which its message does not carry (Table 12-4). -/
theorem test_illFormed_effectAdd : (Instr.effectAdd
    ⟨0, 0, 0, 0, 0, 0, 0, 0, 0, 0, 0, 0, 0, 0, 0, 0, ⟨1, 1, 0, 0⟩, ⟨0, 0, 0, 0⟩⟩).wellFormed = false := by decide

/-- EFFECT_EDIT with a value for a field its set does not name (Table 12-5). -/
theorem test_illFormed_effectEdit : (Instr.effectEdit 0x0100 0 0 0
    ⟨⟨0, 0, 0, 0⟩, ⟨0, 0, 0, 0⟩, 1, 0, 0, 0, 0, 0, 0, 0, 0, 0, 0, 0⟩).wellFormed = false := by decide

/-- GROUP_DEFINE with one index more than a message of 512 bytes holds (R203). -/
theorem test_illFormed_groupDefine : (Instr.groupDefine 0 0 (List.replicate 255 0)).wellFormed = false := by decide +kernel

/-- COMMAND_PACKET and CLIP_BLOCK with a packet of 65 bytes; 64 is the size of a packet (R189). -/
theorem test_illFormed_packets :
    (Instr.commandPacket (List.replicate 65 0)).wellFormed = false
    ∧ (Instr.clipBlock [[], List.replicate 65 0]).wellFormed = false
    ∧ (Instr.clipBlock [List.replicate 64 0, []]).wellFormed = true := by decide +kernel

/-- MALFORMED_COMMAND with a transfer that passes the framing checks: SHOW_START, code 0x01 (R192). -/
theorem test_illFormed_malformedCommand : (Instr.malformedCommand [0x01]).wellFormed = false := by decide

/-- An unknown code and an empty transfer are malformed (R192). -/
theorem test_wellFormed_malformedCommand :
    (Instr.malformedCommand [0xFF]).wellFormed = true ∧ (Instr.malformedCommand []).wellFormed = true := by decide

/-! ### Messages (chapter 12) -/

/-- Section 12.3.1: the EFFECT_EDIT on the wire is the edit of handle 0x0305, timing AT 150,000, with L1 = 5000 and
group 20. -/
theorem test_effectEdit_bytes : frameTransfer
    [0x11, 0x05, 0x03, 2, 0xF0, 0x49, 0x02, 0x00, 0x02, 0x08, 0x88, 0x13, 9, 9, 9, 9, 9, 9, 20]
      = .command (.effectEdit 0x0305 2 150000 0x0802
        ⟨⟨0, 0, 0, 0⟩, ⟨5000, 0x0909, 0x0909, 0x0909⟩, 0, 0, 0, 0, 0, 0, 0, 0, 0, 20, 0, 0⟩) := by decide

/-- The table of commands gives no row bits (log entry 2). -/
theorem test_noRowHasBits : decodeTableWord 8 1 = none := rfl

/-! ### Show time (chapter 1) -/

/-- Section 1.5.1, case 1: the grid of 6,144,000 with anchor 1000 gives 73,000 at 50,000. -/
theorem test_nextBeat_case1 : nextBeat ⟨6144000, 1000⟩ 50000 = 73000 := by decide +kernel

/-- Section 1.5.1, case 2: 140 beats per minute at 100,000 gives 102,857. -/
theorem test_nextBeat_case2 : nextBeat ⟨5266286, 0⟩ 100000 = 102857 := by decide +kernel

/-- Section 1.5.1, case 3: an anchor at or after t is the next beat itself. -/
theorem test_nextBeat_case3 : nextBeat ⟨5266286, 200000⟩ 150000 = 200000 := by decide +kernel

/-! ### Evaluation (chapter 3) -/

/-- The record of section 3.2.1: start 1,000,000, fade in 48,000, duration 0, fade out 96,000. -/
def retired (st : EffectState) (f : Option ImposedFade) : EffectRecord :=
  { jetRecord 0 st with
    params := { (jetRecord 0 st).params with start := 1000000, fadeIn := 48000, fadeOut := 96000 }, imposed := f }

/-- Table 3-3: the envelope before the retire, and both columns of the boundary 1,024,160. -/
theorem test_envelope_retire_seen_ahead :
    envelopeAt .running (retired .active none) 1023680 = 32331
    ∧ envelopeAt .running (retired .active none) 1024000 = 32768
    ∧ envelopeAt .running (retired .fading (some ⟨1024000, 32768⟩)) 1024160 = 32713
    ∧ envelopeAt .running (retired .fading (some ⟨1024000, 32768⟩)) 1072160 = 16329
    ∧ envelopeAt .running (retired .fading (some ⟨1024000, 32768⟩)) 1120160 = 0 := by decide +kernel

/-- The level of member `m` at τ of the chase of section 3.3.1. -/
def chase (tau m : Nat) : Nat :=
  mixLevel (blend { (jetRecord 0 .active).params with shape := .wave, p := 48000, step := 896 } 0 tau m) 500 4500

/-- Table 3-6, the three columns of levels. -/
theorem test_wave_chase :
    (List.range 8).map (chase 0) = [500, 1085, 2500, 3914, 4500, 3914, 2500, 1085]
    ∧ (List.range 8).map (chase 3000) = [652, 652, 1734, 3265, 4347, 4347, 3265, 1734]
    ∧ (List.range 8).map (chase 6000) = [1085, 500, 1085, 2500, 3914, 4500, 3914, 2500] := by decide +kernel

/-- Table 3-7: the final values of the two draws. -/
theorem test_sparkle_draws : sparkleDraw 1234 3 3 = 37610 ∧ sparkleDraw 1234 3 4 = 39677 := by decide +kernel

/-- Table 3-8: five layers on one nozzle. -/
theorem test_layers_compose : composeChannel 10000 Level.r
    [⟨0, 112, .replace, 65536, ⟨2000, 0, 0, 0⟩⟩, ⟨0, 147, .add, 32768, ⟨1500, 0, 0, 0⟩⟩,
      ⟨2, 95, .replace, 0, ⟨6000, 0, 0, 0⟩⟩, ⟨3, 160, .scale, 49152, ⟨6000, 0, 0, 0⟩⟩,
      ⟨5, 40, .max, 65536, ⟨2500, 0, 0, 0⟩⟩] = 2500 := by decide +kernel

/-! ### Nozzles, lights and lines (chapters 4, 7 and 8) -/

/-- Nozzle 120 of section 4.4, with its valve at `v`. -/
def nozzle120 (v : Nat) : Nozzle := ⟨⟨true, 3, 2400, 12000, 500, 50, 1, 41⟩, { NozzleLive.zero with valve := v }⟩

/-- The manifold of section 4.4 at frame 1: nozzles 120 and 121 under one JET record of 1800 cm. -/
def frameOne : State :=
  ((withRecord 0 (jetRecord 1800 .active) (withGroup 0 .jet [120, 121] (showing .running attached))).modifyNozzle 120
    (fun _ => nozzle120 600)).modifyNozzle 121
      (fun _ => { nozzle120 600 with cfg := { (nozzle120 600).cfg with first := 43 } })
    |>.modifyManifold 3 (fun m => { m with supply := 3400 })
    |>.modifyDue (fun d => { d with jet := true })

/-- Tables 4-6 and 4-7, frame 1: the factor, the scaled flow and height, the valve and the effective height. -/
theorem test_jetFrame_short_manifold :
    let t := after .jetFrame frameOne
    let z := (t.nozzle 120).live
    (t.frame 3).demand = 3972 ∧ (t.frame 3).factor = 56098 ∧ z.flow = 1986 ∧ z.scaledFlow = 1699
      ∧ z.scaledHeight = 1318 ∧ z.valveTarget = 740 ∧ z.valve = 650 ∧ z.effective = 1014
      ∧ z.flags = ⟨false, false, false, true, true⟩ := by decide +kernel

/-- Section 4.4: slot 41 of line 1 receives 166 and slot 42 receives 101. -/
theorem test_jetFrame_valve_slots :
    ((after .jetFrame frameOne).line 1).back.getD 40 0 = 166 ∧ ((after .jetFrame frameOne).line 1).back.getD 41 0 = 101 := by
  decide +kernel

/-- Section 7.4, frame 1 with the jet frame first: the four slot values of fixture 200. -/
theorem test_light_follows_jet :
    let c : FixtureConfig := ⟨true, 1, 101, .rgbw, some 120, true, .square⟩
    [50000, 20000, 65535, 0].map (slotValue c (some (1014 * 65536 / 2400)) 65535) = [26, 4, 45, 0]
    ∧ slotValue c (some 47349) 49152 50000 = 43 ∧ slotValue { c with curve := .linear } (some 27688) 65535 50000 = 82 := by
  decide +kernel

/-- Table 8-5: the system clocks of a frame. -/
theorem test_frame_timing :
    frameClocks ⟨true, 11, 512, 22⟩ = 1186176 ∧ frameClocks ⟨true, 11, 104, 22⟩ = 246144
    ∧ frameClocks ⟨true, 12, 512, 22⟩ = 1285024 ∧ frameClocks ⟨true, 1, 8, 2⟩ = 3520 := by decide +kernel

/-! ### Pumps (chapter 5) -/

/-- A pump of Table 5-7 in a given state at a given speed. -/
def pumpOf (rank rated : Nat) (st : PumpState) (speed : Nat) : Pump :=
  { Pump.blank with cfg := ⟨true, 3, rank, rated, 350, 500, 2000, 5000⟩, state := st, command := speed }

/-- Manifold 3 of section 5.7 with its four pumps, an update outstanding, the basin OK. -/
def manifoldThree (p8 p9 p10 p11 : Pump) (inputs : Inputs) : State :=
  { ((((attached.modifyPump 8 fun _ => p8).modifyPump 9 fun _ => p9).modifyPump 10 fun _ => p10).modifyPump 11
      fun _ => p11).modifyManifold 3 (fun m => { m with cfg := ⟨4000, 100, 3000⟩, demand := 3972, forecast := 4400 })
      |>.modifyDue (fun d => { d with pump := true }) with
    site := { attached.site with level := .ok }, pins := inputs }

/-- Table 5-8, U0: pumps 8, 9 and 10 queue in rank order and 8 is granted at its minimum speed. -/
theorem test_pumpUpdate_queues_and_grants :
    let t := after .pumpUpdate (manifoldThree (pumpOf 0 2000 .idle 0) (pumpOf 1 2000 .idle 0) (pumpOf 2 1500 .idle 0)
      (pumpOf 3 1500 .idle 0) Inputs.idle)
    (t.manifold 3).needed = 4840 ∧ (t.manifold 3).targets = [8, 9, 10] ∧ t.pumps.queue = [9, 10]
      ∧ (t.pump 8).state = .starting ∧ (t.pump 8).command = 350 ∧ (t.pump 11).state = .idle := by decide +kernel

/-- Table 5-9, U42: pump 9 starts running; the common target is 692 and each speed moves by 50. -/
theorem test_pumpUpdate_shares_needed_flow :
    let t := after .pumpUpdate (manifoldThree (pumpOf 0 2000 .running 968) (pumpOf 1 2000 .starting 350)
      (pumpOf 2 1500 .running 968) (pumpOf 3 1500 .running 968) { Inputs.idle with feedback := 0x0F00 })
    [8, 9, 10, 11].map (fun n => (t.pump n).command) = [918, 400, 918, 918] ∧ (t.manifold 3).supply = 5390 := by
  decide +kernel

/-! ### Wind (chapter 6) -/

/-- Zone 2 of section 6.9 in a given wind state. -/
def zoneTwo (w : WindState) (count : Nat) : Zone := ⟨⟨true, 0, 50, 3000, 60, 110, 4, none, none⟩, w, count, false⟩

/-- Table 6-5, gates G2, G4, G11 and G15 of zone 2, and the caps of both zones. -/
theorem test_gust_sequence :
    heldWindOf (rawWindOf 60 125) 50 10 = 75 ∧ (zoneTwo .clear 0).atGate 75 = zoneTwo .derated 0
    ∧ currentCap false 75 (zoneTwo .derated 0) = 2100
    ∧ (zoneTwo .derated 0).atGate 115 = zoneTwo .windHold 0 ∧ currentCap false 115 (zoneTwo .windHold 0) = 0
    ∧ (zoneTwo .windHold 1).atGate 65 = zoneTwo .windHold 0
    ∧ (zoneTwo .windHold 3).atGate 25 = zoneTwo .clear 0 := by decide +kernel

/-! ### Soundtrack (chapter 9) -/

/-- Section 9.6: pages of clip Y, the mixed sample of the period of 1,005,000. -/
theorem test_clip_pages_and_mix :
    pagesNeeded 160000 2 = 10 ∧ pagesNeeded 600000 2 = 37
    ∧ mixSample 2776250 (-1406250) 32768 = 1370000
    ∧ (deckContribution ⟨20000, 0⟩ 17768).left = 2776250 ∧ (deckContribution ⟨-12000, 0⟩ 15000).left = -1406250 := by
  decide +kernel

/-! ### Single commands -/

/-- SHOW_START from STOPPED (R7): RUNNING at clock 0, SHOW_STATE raised, one reply OK with show state RUNNING. -/
theorem test_showStart :
    let t := after .showStart attached
    t.timer.showState = .running ∧ t.timer.clock = 0 ∧ t.link.summary = 1#16 <<< Event.showState.bit
      ∧ t.link.replies = [⟨.ok, .running, [], none, 0⟩] := by decide

/-- SAMPLE_PERIOD number 480 reaches a jet boundary (R2). -/
theorem test_samplePeriod_reaches_boundary :
    let s := { State.reset with nozzles := { State.reset.nozzles with phase := 479 } }
    (after (.samplePeriod Inputs.idle) s).due.jet = true ∧ (after (.samplePeriod Inputs.idle) s).nozzles.phase = 0 := by
  decide +kernel

/-- The lowest free slot takes generation 1: handle 0x0100 for slot 0 (R20, R21, R26). -/
theorem test_effectAdd_first_handle :
    (after (.effectAdd ⟨0, 0, 0, 0, 0, 0, 0, 0, 0, 0, 0, 0, 0, 0, 0, 0, ⟨0, 0, 0, 0⟩, ⟨100, 0, 0, 0⟩⟩)
      (withGroup 0 .jet [0] attached)).link.replies.map (·.payload) = [[0x00, 0x01, 0, 0, 0, 0, 0, 0]] := by
  decide +kernel

/-! ### The hypotheses of the statements can be met

One theorem for each statement that has hypotheses: for each clause, in the statement's order, a state and operands
that meet the clause's hypotheses, at a boundary of its range where it has one. -/

/-- A reply of no payload. -/
def okReply : Reply := ⟨.ok, .stopped, [], none, 0⟩

/-- With `n` replies in the queue. -/
def withReplies (n : Nat) (s : State) : State := { s with link := { s.link with replies := List.replicate n okReply } }

/-- While a save is in progress. -/
def saving (s : State) : State := { s with store := { s.store with saving := true } }

theorem witness_StepTakesTheFront : State.reset.pending = [] := rfl

/-- With a command transfer in progress that has brought its first packet: a GROUP_DEFINE of 30 indexes and more. -/
def openTransfer (s : State) : State :=
  { s with link := { s.link with transfer := some ([0x14, 0, 0, 40] ++ List.replicate 60 0) } }

theorem witness_CommandTransfers_whole :
    (encodeCommand .showStart).isSome = true ∧ ¬ State.reset.ready ∧ ¬ (withReplies 4 attached).ready
      ∧ ¬ (openTransfer attached).ready ∧ ∃ transfer, Instr.malformedCommand [] = .malformedCommand transfer :=
  ⟨by decide, by decide, by decide, by decide, [], rfl⟩

theorem witness_CommandTransfers_packets :
    State.reset.link.attached = false ∧ 64 < (List.replicate 65 (0 : Byte)).length
    ∧ ((withReplies 4 attached).link.transfer = none ∧ 4 ≤ (withReplies 4 attached).link.replies.length)
    ∧ attached.link.attached = true ∧ attached.link.replies.length < 4
    ∧ ((openTransfer (withReplies 3 attached)).link.transfer ≠ none
        ∧ (openTransfer (withReplies 3 attached)).link.replies.length < 4)
    ∧ (List.replicate 64 (0 : Byte)).length = 64 ∧ (List.replicate 63 (0 : Byte)).length < 64
    ∧ frameTransfer [] = .badLength ∧ frameTransfer [0xFF] = .unknownCommand
    ∧ frameTransfer [0x01] = .command .showStart := by
  and_intros <;> decide +kernel

/-- `ready` alone, also with the fourth place still free. -/
theorem witness_ready : attached.ready ∧ (withReplies 3 attached).ready := by decide

theorem witness_ConfigurationNeedsStoppedAndIdle :
    isConfiguration (.startSet 0) = true ∧ (showing .ending attached).ready
      ∧ (showing .ending attached).timer.showState ≠ .stopped
      ∧ (saving attached).ready ∧ (saving attached).timer.showState = .stopped ∧ (saving attached).store.saving = true := by
  decide

theorem witness_ShowEndOutcomes :
    (attached.ready ∧ attached.sized ∧ attached.runningOrHeld = false)
    ∧ ((showing .held attached).ready ∧ (showing .held attached).sized ∧ (showing .held attached).runningOrHeld = true)
    ∧ (0 : Half) ≠ 65535 ∧ min (0 : Half).toNat 60000 = 0 ∧ 0 < min (1 : Half).toNat 60000
    ∧ 0 < (showing .held attached).timer.storedFade := by
  and_intros <;> decide +kernel

theorem witness_ShowStopOutcomes :
    attached.timer.showState = .stopped ∧ attached.sized
      ∧ (showing .ending attached).timer.showState ≠ .stopped ∧ (showing .ending attached).sized := by
  decide +kernel

/-- An ENDING show at its end time. -/
def atEnd : State := { atClock 4800 (showing .ending attached) with
  timer := { (atClock 4800 (showing .ending attached)).timer with endTime := some 4800 } }

/-- A RUNNING show whose silence timer has just reached its timeout of one second. -/
def silent (fade : Nat) : State :=
  { showing .running attached with
    link := { attached.link with timeout := 1, silence := 48000 }
    timer := { (showing .running attached).timer with storedFade := fade } }

theorem witness_EndTimeAndSilence :
    (atEnd.sized ∧ atEnd.timer.showState = .ending ∧ atEnd.timer.endTime = some atEnd.timer.clock)
    ∧ attached.timer.showState ≠ .ending
    ∧ ((silent 0).runningOrHeld = true ∧ 0 < (silent 0).link.timeout
        ∧ (silent 0).link.timeout * 48000 ≤ (silent 0).link.silence ∧ (silent 0).timer.storedFade = 0)
    ∧ ((silent 1).runningOrHeld = true ∧ 0 < (silent 1).timer.storedFade)
    ∧ attached.runningOrHeld = false := by
  decide +kernel

theorem witness_EmergencyStopStopsTheSite :
    attached.sized
    ∧ (attached.pins.stop = false ∧ attached.timer.showState = .stopped)
    ∧ ((showing .running attached).pins.stop = false ∧ (showing .running attached).timer.showState ≠ .stopped)
    ∧ (let held := { attached with pins := { attached.pins with stop := true } }
       held.due.stop = false ∧ held.pins.stop = true) := by
  decide +kernel

theorem witness_NextBeatIsTheLeastBeat :
    attached.timer.grid = none
    ∧ ({ attached with timer := { attached.timer with grid := some ⟨256, 0⟩ } } : State).timer.grid = some ⟨256, 0⟩
    ∧ 256 ≤ (256 : Quad).toNat ∧ atOrAfter (7 : ShowTime) 7 = true ∧ atOrAfter (7 : ShowTime) 8 = false
    ∧ atOrAfter (0 : ShowTime) 2147483648 = false := by
  decide

/-! #### The effect table -/

/-- EFFECT_ADD parameters of a STEADY JET record for group 0. -/
def addParams : EffectAddParams :=
  ⟨0, 0, 0, 0, 0, 0, 0, 0, 0, 0, 0, 0, 0, 0, 0, 0, ⟨0, 0, 0, 0⟩, ⟨100, 0, 0, 0⟩⟩

/-- An evictable record: ACTIVE, AMBIENT, not pinned (R27). -/
def ambient : EffectRecord := { jetRecord 100 .active with cls := .ambient }

/-- With every slot of the effect table taken by one record. -/
def fullTable (r : EffectRecord) (s : State) : State :=
  { s with effects := { s.effects with slots := List.replicate 256 ⟨1, some r⟩ } }

/-- With the add counter at its last value (R22). -/
def countersEnd (s : State) : State := { s with effects := { s.effects with addCounter := 4294967295 } }

/-- A state in which group 0 is a NOZZLE group of one member. -/
def grouped : State := withGroup 0 .jet [0] attached

/-- The codes of `addParams`. -/
def addParamsCodes : AddCodes := ⟨.jet, .replace, .showClass, false, .steady, .absolute⟩

theorem witness_EffectRefusals_add :
    (showing .ending attached).timer.showState = .ending
    ∧ addCodes { addParams with kind := 2 } = none ∧ attached.timer.showState ≠ .ending
    ∧ addCodes { addParams with shape := 5 } = some { addParamsCodes with shape := .audio }
    ∧ (∃ c, addCodes { addParams with shape := 1 } = some c ∧ c.shape.needsPeriod = true
        ∧ ({ addParams with shape := 1 } : EffectAddParams).p = 0)
    ∧ addCodes addParams = some addParamsCodes ∧ addParamsCodes.shape.needsPeriod = false
    ∧ (attached.group addParams.group.toNat).defined = none
    ∧ ((withGroup 0 .light [0] attached).group addParams.group.toNat).defined = some ⟨.light, [0]⟩
    ∧ (grouped.group addParams.group.toNat).defined = some ⟨.jet, [0]⟩
    ∧ (countersEnd grouped).effects.addCounter = 4294967295
    ∧ grouped.effects.addCounter ≠ 4294967295 := by
  refine ⟨by decide, ?_, ?_, ?_, ⟨{ addParamsCodes with shape := .ramp }, by decide⟩, ?_⟩ <;> decide

theorem witness_EffectRefusals_fullTable :
    (fullTable (jetRecord 0 .active) grouped).effects.addCounter ≠ 4294967295
    ∧ ∀ e ∈ (fullTable (jetRecord 0 .active) grouped).effects.slots, ∃ r, e.record = some r ∧ r.evictable = false := by
  refine ⟨by decide, fun e he => ⟨jetRecord 0 .active, ?_, by decide⟩⟩
  exact congrArg (·.record) (List.eq_of_mem_replicate he)

/-- Edit values that carry L1 alone, and those that carry group 0 alone. -/
def editValues : EditValues := ⟨⟨0, 0, 0, 0⟩, ⟨200, 0, 0, 0⟩, 0, 0, 0, 0, 0, 0, 0, 0, 0, 0, 0, 0⟩

theorem witness_EffectRefusals_edit :
    timingOf 3 = none ∧ (timingOf 2).isSome = true ∧ editCoded 0x0002 editValues = true
    ∧ editCoded 0x0400 { editValues with mode := 4 } = false
    ∧ attached.lookupEffect 0x0100 = none
    ∧ (withRecord 0 (jetRecord 0 .fading) grouped).lookupEffect 0x0100 = some (jetRecord 0 .fading)
    ∧ (withRecord 0 (jetRecord 0 .active) attached).lookupEffect 0x0100 = some (jetRecord 0 .active)
    ∧ ((jetRecord 0 .active).resulting (editFields .jet 0x0040 { editValues with shape := 1 })).shape.needsPeriod = true
    ∧ ((jetRecord 0 .active).resulting (editFields .jet 0x0040 { editValues with shape := 1 })).p = 0
    ∧ ((jetRecord 0 .active).resulting (editFields .jet 0x0800 editValues)).shape.needsPeriod = false
    ∧ named 0x0800 11 = true
    ∧ ((withRecord 0 (jetRecord 0 .active) attached).group 0).defined = none
    ∧ ((withRecord 0 (jetRecord 0 .active) (withGroup 0 .light [0] attached)).group 0).defined = some ⟨.light, [0]⟩ := by
  and_intros <;> decide +kernel

theorem witness_EffectAddPlaces_free :
    grouped.ready ∧ grouped.sized ∧ addCodes addParams = some addParamsCodes ∧ grouped.effects.addCounter ≠ 4294967295
    ∧ (grouped.group addParams.group.toNat).defined = some ⟨.jet, [0]⟩
    ∧ (grouped.effectSlot 0).record = none
    ∧ (let s := withRecord 0 ambient grouped
       (s.effectSlot 1).record = none ∧ ∀ j < 1, (s.effectSlot j).record ≠ none) := by
  and_intros <;> decide +kernel

/-- A full table whose last slot holds the evictable record. -/
def evicting : State := withRecord 255 ambient (fullTable (jetRecord 0 .active) grouped)

theorem witness_EffectAddPlaces_evicting :
    evicting.ready ∧ evicting.sized ∧ (evicting.effectSlot 255).record = some ambient ∧ ambient.evictable = true
    ∧ ∀ j < 256, ((evicting.effectSlot j).record.all fun r' =>
        decide (r'.evictable = true → ambient.touch < r'.touch ∨ (ambient.touch = r'.touch ∧ 255 ≤ j))) = true
      ∧ (evicting.effectSlot j).record.isSome = true := by
  and_intros <;> decide +kernel

theorem witness_EffectEditAccepted :
    timingOf 0 = some .now ∧ editCoded 0x0802 editValues = true ∧ named 0x0802 11 = true
    ∧ (withRecord 0 (jetRecord 0 .scheduled) grouped).lookupEffect 0x0100 = some (jetRecord 0 .scheduled)
    ∧ (withRecord 0 (jetRecord 0 .active) grouped).lookupEffect 0x0100 = some (jetRecord 0 .active)
    ∧ ((jetRecord 0 .active).resulting (editFields .jet 0x0802 editValues)).shape.needsPeriod = false
    ∧ ((withRecord 0 (jetRecord 0 .active) grouped).group 0).defined = some ⟨.jet, [0]⟩
    ∧ namesStaged 0x0802 = true ∧ namesStaged 0x1000 = false ∧ editCoded 0x1000 editValues = true := by
  and_intros <;> decide

theorem witness_EffectRetireOutcomes :
    2 ≤ (2 : Byte).toNat ∧ (1 : Byte).toNat ≤ 1 ∧ attached.lookupEffect 0x0100 = none
    ∧ (withRecord 0 (jetRecord 0 .scheduled) grouped).lookupEffect 0x0100 = some (jetRecord 0 .scheduled)
    ∧ (withRecord 0 (jetRecord 0 .fading) grouped).lookupEffect 0x0100 = some (jetRecord 0 .fading)
    ∧ (withRecord 0 (jetRecord 0 .active) grouped).lookupEffect 0x0100 = some (jetRecord 0 .active) := by
  and_intros <;> decide +kernel

theorem witness_GroupDefineOutcomes :
    63 < (64 : Byte).toNat ∧ 64 < (List.replicate 65 (0 : Half)).length ∧ 383 < (384 : Half).toNat
    ∧ ¬ (63 < (63 : Byte).toNat ∨ 1 < (1 : Byte).toNat ∨ 64 < [(511 : Half), 511].length
        ∨ ((1 : Byte) = 0 ∧ ∃ m ∈ [(511 : Half), 511], 383 < m.toNat)
        ∨ ((1 : Byte) = 1 ∧ ∃ m ∈ [(511 : Half), 511], 511 < m.toNat))
    ∧ ¬ [(511 : Half), 511].Nodup ∧ [(511 : Half)].Nodup
    ∧ ((attached.addRef 63).group 63).refs ≠ 0 ∧ (attached.group 63).refs = 0 := by
  refine ⟨?_, ?_, ?_, by simp, ?_⟩ <;> decide

/-- A RUNNING show with a boundary outstanding at clock 480 and one record in slot 0. -/
def atBoundary (r : EffectRecord) : State := atClock 480 (showing .running (allDue (withRecord 0 r grouped)))

/-- An edit of L1 alone, at a boundary. -/
def editOf (boundary : ShowTime) : PendingEdit :=
  ⟨⟨none, some ⟨5000, 0, 0, 0⟩, none, none, none, none, none, none, none, none, none, none⟩, boundary⟩

theorem witness_BoundarySteps :
    attached.due.effects = false
    ∧ (atBoundary ambient).due.effects = true ∧ (atBoundary ambient).timer.showState ≠ .stopped
    ∧ (atBoundary ambient).sized ∧ ((atBoundary ambient).effectSlot (0 : Fin 256)).record = some ambient
    ∧ (attached.effectSlot (0 : Fin 256)).record = none
    ∧ atOrAfter (480 : ShowTime) (editOf 480).boundary = true ∧ atOrAfter (480 : ShowTime) (editOf 481).boundary = false
    ∧ (let r := jetRecord 0 .scheduled
       r.state = .scheduled ∧ atOrAfter (480 : ShowTime) r.params.start = true)
    ∧ (let r := { ambient with params := { ambient.params with duration := 480 } }
       r.edit = none ∧ r.state = .active ∧ r.params.duration ≠ 0
        ∧ atOrAfter (480 : ShowTime) (r.params.start + BitVec.ofNat 32 r.params.duration) = true)
    ∧ (jetRecord 0 .fading).fadeOver 480 = true
    ∧ ambient.fadeOver 480 = false := by
  and_intros <;> decide +kernel

/-- R42: EFFECT_START_REACHED and PENDING_EDIT_APPLIED take the boundary that makes their transition, so that an edit NOW
after them finds none outstanding that would apply it. -/
theorem test_effect_rows_take_the_boundary :
    (after (.effectStartReached 0) (atBoundary (jetRecord 100 .scheduled))).due.effects = false
    ∧ (after (.pendingEditApplied 0) (atBoundary { ambient with edit := some (editOf 480) })).due.effects = false := by
  and_intros <;> decide +kernel

/-- A row whose transition the boundary does not make leaves the boundary outstanding. -/
theorem test_effect_rows_wait_for_their_boundary :
    (after (.naturalEnd 0) (atBoundary (jetRecord 100 .scheduled))).due.effects = true
    ∧ (after (.fadeComplete 0) (atBoundary ambient)).due.effects = true
    ∧ (after (.naturalEnd 0) (atBoundary { ambient with params :=
        { ambient.params with duration := 480, fadeOut := 1 } })).due.effects = false := by
  and_intros <;> decide +kernel

theorem witness_EffectBoundaryIsRecordwise :
    attached.sized ∧ attached.due.effects = false
    ∧ (allDue attached).sized ∧ (allDue attached).due.effects = true ∧ (allDue attached).timer.showState = .stopped
    ∧ (atBoundary ambient).sized ∧ (atBoundary ambient).due.effects = true
    ∧ (atBoundary ambient).timer.showState ≠ .stopped := by
  and_intros <;> decide +kernel

/-! #### Evaluation and nozzles -/

theorem witness_LayerArithmetic : (65535 ≤ 65535 ∧ 65536 ≤ 65536) ∧ (0 ≤ 10000 ∧ 0 ≤ 65536) := by decide

theorem witness_LayerArithmetic_layers : ∀ r ∈ frameOne.records, r.addSeq < 4294967296 := by decide +kernel

theorem witness_FadeInPulseAndRoot :
    (0 : Nat) < 1 ∧ (1 : Nat) ≤ 1 ∧ (2879999 < 2880000 ∧ 2880000 ≤ 2880000)
    ∧ (let f := { ambient.params with shape := .pulse, p := 4, w := 2 }
       f.shape = .pulse ∧ 0 < f.p ∧ 1 % f.p < f.w ∧ f.w ≤ 2 % f.p ∧ 0 < f.w)
    ∧ (let f := { ambient.params with shape := .pulse, p := 4, w := 4 }
       f.shape = .pulse ∧ f.w = f.p) := by decide

/-- References that agree with the effect table, so that `refsFollow` speaks of what becomes of them. -/
theorem witness_refsFollow :
    ((atBoundary ambient).addRef 0).groupsOk
      ∧ ((withRecord 255 ambient (fullTable (jetRecord 0 .active) grouped)).modifyGroup 0 fun g =>
          { g with refs := 256 }).groupsOk := by
  and_intros <;> decide +kernel

theorem witness_EvaluationStaysInRange : frameOne.levelsOk := by decide +kernel

theorem witness_JetFramePublishes :
    attached.due.jet = false
    ∧ frameOne.sized ∧ frameOne.due.jet = true ∧ frameOne.due.envelope = false ∧ frameOne.due.effects = false
    ∧ (frameOne.nozzle 120).cfg.present = true ∧ (frameOne.nozzle 383).cfg.present = false
    ∧ frameOne.timer.showState ≠ .stopped
    ∧ (let s := showing .stopped frameOne
       s.sized ∧ s.due.jet = true ∧ s.timer.showState = .stopped)
    ∧ (120 : Nat) < 384 ∧ (16 : Nat) < 17 := by
  and_intros <;> decide +kernel

/-- A boundary with every event outstanding, as JetFramePublishes and LightComputationPublishes take it. -/
theorem witness_EventsBeforeTheFrame :
    ∃ u v, (allDue attached).due.jet = true ∧ (allDue attached).due.light = true
      ∧ exec .envelopeUpdate (allDue attached) = .next u ∧ exec .effectBoundary u = .next v :=
  ⟨_, _, rfl, rfl, rfl, rfl⟩

/-- `frameOne` meets the hypotheses of JetFrameReports and FlowsWithinSupply, and its frame gives a next state. -/
theorem witness_FlowsWithinSupply : ∃ t, frameOne.sized ∧ frameOne.due.jet = true ∧ exec .jetFrame frameOne = .next t :=
  ⟨_, by decide +kernel, by decide, rfl⟩

/-- `frameOne` with the site stop latch set, or with the default zone in WIND_HOLD. -/
def stoppedFrame (latch : Bool) : State :=
  if latch then { frameOne with site := { frameOne.site with stopLatch := true } }
  else frameOne.modifyZone 16 fun x => { x with wind := .windHold }

theorem witness_StopHoldsTargetsAtZero :
    (stoppedFrame true).sized ∧ (stoppedFrame false).sized
      ∧ ((stoppedFrame true).nozzle 120).cfg.present = true ∧ ((stoppedFrame false).nozzle 120).cfg.present = true
      ∧ (stoppedFrame true).site.stopLatch = true
      ∧ 16 ∈ (stoppedFrame false).governing 120 ∧ ((stoppedFrame false).zone 16).wind = .windHold := by
  and_intros <;> decide +kernel

theorem witness_StopHoldsTargetsAtZero_next :
    ∃ t u, exec .jetFrame (stoppedFrame true) = .next t ∧ exec .jetFrame (stoppedFrame false) = .next u :=
  ⟨_, _, rfl, rfl⟩

theorem witness_ValveWithinSlew :
    (∃ t, frameOne.sized ∧ frameOne.valvesOk ∧ exec .jetFrame frameOne = .next t)
    ∧ (∃ t, exec .fullReset frameOne = .next t)
    ∧ (Instr.showStart ≠ .jetFrame ∧ ∀ inputs, Instr.showStart ≠ .samplePeriod inputs) :=
  ⟨⟨_, by decide +kernel, by decide +kernel, rfl⟩, ⟨_, rfl⟩, nofun, nofun⟩

/-- NOZZLE_SET parameters that are in range on a line of eight slots. -/
def nozzleParams : NozzleSetParams := ⟨383, 1, 7, 10000, 1, 2000, 1000, 3, 7⟩

/-- With line 3 configured for eight slots. -/
def lined : State := attached.modifyLine 3 fun l => { l with cfg := ⟨false, 11, 8, 2⟩ }

/-- The same, with nozzle 383 present on slots 1 and 2 and its valve open or closed. -/
def fitted (v : Nat) : State :=
  (lined.modifyNozzle 383 fun _ => ⟨⟨true, 7, 10000, 1, 2000, 1000, 3, 1⟩, { NozzleLive.zero with valve := v }⟩).modifyLine 3
    (Line.claim (valveClaims 383 ⟨true, 7, 10000, 1, 2000, 1000, 3, 1⟩))

theorem witness_NozzleSetOutcomes :
    lined.configurable ∧ (fitted 1).configurable
    ∧ 383 < (384 : Half).toNat ∧ nozzleParams.nozzle.toNat ≤ 383 ∧ nozzleParams.present = 1
    ∧ ((fitted 1).nozzle 383).cfg.present = true ∧ 0 < ((fitted 1).nozzle 383).live.valve
    ∧ ¬ (0 < ((fitted 0).nozzle 383).live.valve)
    ∧ (lined.line 2).cfg.slots < 7 + 1
    ∧ ¬ (7 < nozzleParams.manifold.toNat ∨ nozzleParams.maxHeight.toNat = 0 ∨ 10000 < nozzleParams.maxHeight.toNat
        ∨ nozzleParams.coefficient.toNat = 0 ∨ 2000 < nozzleParams.lead.toNat ∨ nozzleParams.slew.toNat = 0
        ∨ 1000 < nozzleParams.slew.toNat ∨ 3 < nozzleParams.line.toNat ∨ nozzleParams.first.toNat = 0
        ∨ 511 < nozzleParams.first.toNat ∨ (lined.line 3).cfg.slots < nozzleParams.first.toNat + 1)
    ∧ nozzleParams.first.toNat ≠ ((fitted 1).nozzle 383).cfg.first
    ∧ ((fitted 0).line 3).owner 2 ≠ .free ∧ ((fitted 0).line 3).owner 2 ≠ .valveLow 382
    ∧ (lined.line 3).owner 7 = .free ∧ (lined.line 3).owner 8 = .free := by
  and_intros <;> decide +kernel

/-! #### Pumps and the site -/

/-- A site with a RUNNING pump 8 and a QUEUED pump 9, an update outstanding, published supply in agreement. -/
def pumping (p8 p9 : Pump) (queue : List Nat) (inputs : Inputs) : State :=
  { ((attached.modifyPump 8 fun _ => p8).modifyPump 9 fun _ => p9).modifyDue (fun d => { d with pump := true }) with
    pins := inputs }
    |> fun s => { s with pumps := { s.pumps with suspended := false, queue := queue } }

/-- With the basin level OK, so that staging is not suspended. -/
def basinOk (s : State) : State := { s with site := { s.site with level := .ok } }

theorem witness_PumpUpdatePublishes :
    (pumping (pumpOf 0 2000 .starting 350) (pumpOf 1 2000 .queued 0) [9] Inputs.idle).pumpsOk
    ∧ (pumping (pumpOf 0 2000 .starting 350) (pumpOf 1 2000 .queued 0) [9] Inputs.idle).due.pump = true
    ∧ attached.due.pump = false := by
  and_intros <;> decide +kernel

/-- The clauses on target sets and speeds: manifold 3 needs 4000 of its two pumps, and pump 9 has just become RUNNING. -/
theorem witness_PumpUpdatePublishes_running :
    let t := after .pumpUpdate (basinOk (pumping (pumpOf 0 2000 .running 968) (pumpOf 1 2000 .starting 350) []
      { Inputs.idle with feedback := 0x0300 }) |>.modifyManifold 3 fun m => { m with demand := 4000 })
    (t.manifold 3).needed = 4000 ∧ (t.manifold 3).targets = [8, 9] ∧ (t.pump 9).cfg.present = true
      ∧ (t.pump 9).state = .running ∧ (t.pump 9).cfg.manifold < 8 ∧ (t.pump 9).command = 400 := by
  decide +kernel

/-- Pump 8 in a state, marked or not, with its timer, faulted and fed back as given; pump 9 is LOCKED_OUT. -/
def onePump (st : PumpState) (mark : Bool) (timer : Nat) (fault feedback : Bool) : State :=
  pumping { pumpOf 0 2000 st 350 with mark := mark, timer := timer } (pumpOf 1 2000 .lockedOut 0)
    (if st = .queued then [8] else [])
    { Inputs.idle with fault := if fault then 0x0100 else 0, feedback := if feedback then 0x0100 else 0 }

/-- Each clause of PumpInputTransitions, with the timers at the timeout or one short of it. -/
theorem witness_PumpInputTransitions :
    let meets := fun (s : State) => s.pumpsOk ∧ s.due.pump = true ∧ (s.pump 8).cfg.present = true
    meets (onePump .starting true 0 false false)
    ∧ meets (onePump .running false 0 true true)
    ∧ meets (onePump .starting false 96000 false false)
    ∧ meets (onePump .running false 0 false false)
    ∧ meets (onePump .stopping false 0 true false)
    ∧ meets (onePump .stopping true 0 false false)
    ∧ meets (onePump .stopping false 240000 false true)
    ∧ meets (onePump .stopping false 239999 false true)
    ∧ meets (onePump .queued false 0 true false)
    ∧ meets (onePump .fault false 0 true false)
    ∧ meets (basinOk (onePump .starting false 0 false true))
    ∧ meets (onePump .running false 0 false true)
    ∧ meets (basinOk (onePump .starting false 95999 false false))
    ∧ meets (onePump .stopping false 0 false false)
    ∧ meets (onePump .idle false 0 true false)
    ∧ meets (onePump .idle false 0 false false) := by
  and_intros <;> decide +kernel

theorem witness_PumpInputTransitions_inputs :
    (onePump .stopping false 240000 true true).pins.fault.getLsbD 8 = true
    ∧ (onePump .stopping false 240000 true true).pins.feedback.getLsbD 8 = true
    ∧ (onePump .starting false 96000 false false).pins.feedback.getLsbD 8 = false
    ∧ ((onePump .starting false 96000 false false).pump 8).cfg.startTimeout * 48
        ≤ ((onePump .starting false 96000 false false).pump 8).timer
    ∧ attached.site.level = .low
    ∧ (basinOk attached).site.level ≠ .low ∧ (basinOk attached).site.stopLatch = false := by
  and_intros <;> decide +kernel

theorem witness_PumpInputTransitions_next : ∃ t, exec .pumpUpdate (onePump .running false 0 false false) = .next t :=
  ⟨_, rfl⟩

/-- U0 of Table 5-8: pumps 8, 9 and 10 stand in the target set afterwards, pump 11 outside it. -/
theorem witness_PumpInputTransitions_targets :
    let s := manifoldThree (pumpOf 0 2000 .idle 0) (pumpOf 1 2000 .idle 0) (pumpOf 2 1500 .idle 0)
      (pumpOf 3 1500 .idle 0) Inputs.idle
    s.pumpsOk ∧ s.due.pump = true ∧ ((after .pumpUpdate s).manifold 3).targets = [8, 9, 10] := by
  and_intros <;> decide +kernel

/-- Manifold 3 with pump 8 RUNNING outside the target set and its destage delay reached, and pump 9 at the head of the
start queue. -/
def destaging : State :=
  (pumping (pumpOf 0 2000 .running 350) (pumpOf 1 2000 .queued 0) [9] { Inputs.idle with feedback := 0x0100 }).modifyManifold
    3 fun m => { m with cfg := ⟨0, 0, 3000⟩, destage := some 144000, supply := 700 }

/-- Pumps 9 and 8 of manifold 3 wait in that order, pump 10 is IDLE and needed, none runs, and the basin is OK. -/
def granting : State :=
  let s := basinOk (manifoldThree (pumpOf 0 2000 .queued 0) (pumpOf 1 2000 .queued 0) (pumpOf 2 1500 .idle 0)
    (pumpOf 3 1500 .lockedOut 0) { Inputs.idle with feedback := 0x0100 })
  { s with pumps := { s.pumps with suspended := false, queue := [9, 8] } }

theorem witness_PumpSteps_timeouts :
    attached.due.pump = false
    ∧ (let s := onePump .starting false 96000 false false
       s.due.pump = true ∧ s.pumpsOk ∧ (s.pump 8).cfg.present = true ∧ (s.pump 8).state = .starting
        ∧ (s.pump 8).mark = false ∧ s.pins.fault.getLsbD 8 = false ∧ s.pins.feedback.getLsbD 8 = false
        ∧ (s.pump 8).cfg.startTimeout * 48 ≤ (s.pump 8).timer)
    ∧ (let s := onePump .stopping false 240000 false true
       s.due.pump = true ∧ s.pumpsOk ∧ (s.pump 8).cfg.present = true ∧ (s.pump 8).state = .stopping
        ∧ s.pins.fault.getLsbD 8 = false ∧ s.pins.feedback.getLsbD 8 = true
        ∧ (s.pump 8).cfg.stopTimeout * 48 ≤ (s.pump 8).timer) := by
  and_intros <;> decide +kernel

theorem witness_PumpSteps_destage :
    (let v := (basinOk destaging).updateInputs.stageTargets 3
     (basinOk destaging).due.pump = true ∧ (basinOk destaging).pumpsOk ∧ v.pumps.suspended = false
      ∧ (v.manifold 3).destage = some 144000 ∧ ((basinOk destaging).manifold 3).cfg.destage * 48 ≤ 144000
      ∧ v.destageVictim 3 = some 8)
    ∧ (destaging.updateInputs.stageTargets 3).pumps.suspended = true ∧ destaging.pumpsOk
    ∧ destaging.due.pump = true := by
  and_intros <;> decide +kernel

theorem witness_PumpSteps_grant :
    granting.due.pump = true ∧ granting.pumpsOk ∧ granting.updateStaged.pumps.queue = 9 :: [8, 10]
    ∧ granting.updateStaged.pumps.suspended = false ∧ granting.updateStaged.startingPump = none
    ∧ granting.intervalPassed = true ∧ destaging.updateStaged.pumps.queue = [] := by
  and_intros <;> decide +kernel

/-- One destage a manifold at one update (R117): DESTAGE takes the update that stops pump 9, the larger rank of the two
pumps outside the target set, and PUMP_UPDATE then finds none outstanding. -/
theorem test_destage_then_update_stops_one :
    let s := basinOk (manifoldThree (pumpOf 0 2000 .running 350) (pumpOf 1 2000 .running 350) (pumpOf 2 1500 .lockedOut 0)
      (pumpOf 3 1500 .lockedOut 0) { Inputs.idle with feedback := 0x0300 })
      |>.modifyManifold 3 fun m => { m with cfg := ⟨0, 0, 0⟩, demand := 0, forecast := 0, destage := some 0 }
    let s := { s with pumps := { s.pumps with suspended := false } }
    let t := after .pumpUpdate (after (.destage 3) s)
    (t.pump 8).state = .running ∧ (t.pump 9).state = .stopping ∧ t.due.pump = false := by decide +kernel

/-- DESTAGE stops no pump of the target set that the update itself forms (R114, R117): the demand has grown since the set
of the last update, which was empty, was formed. -/
theorem test_destage_uses_the_updates_own_targets :
    let s := (basinOk destaging).modifyManifold 3 fun m => { m with demand := 1 }
    let t := after (.destage 3) s
    s.destageVictim 3 = some 8 ∧ (t.pump 8).state = .running ∧ t.due.pump = true := by decide +kernel

/-- One grant an update, to the head of the queue (R119): START_GRANT takes the update that grants pump 9, and PUMP_UPDATE
then finds none outstanding. -/
theorem test_grant_then_update_grants_one :
    let t := after .pumpUpdate (after .startGrant granting)
    (t.pump 9).state = .starting ∧ (t.pump 8).state = .queued ∧ t.pumps.queue = [8, 10] := by decide +kernel

/-- START_GRANT grants nothing at an update that finds the site stop latch set (R112, R119). -/
theorem test_startGrant_heeds_suspension :
    let t := after .startGrant { granting with site := { granting.site with stopLatch := true } }
    (t.pump 9).state = .queued ∧ t.pumps.lastGrant = none ∧ t.due.pump = true := by decide +kernel

theorem witness_VictimAndArbiter :
    destaging.destageVictim 3 = some 8 ∧ destaging.pumps.lastGrant = none ∧ destaging.startingPump = none
    ∧ (let s := basinOk destaging
       let t := after .pumpUpdate s
       s.pumpsOk ∧ s.due.pump = true ∧ (s.pump 8).cfg.present = true ∧ (s.pump 8).cfg.manifold = 3
        ∧ 8 ∉ (t.manifold 3).targets ∧ (s.pump 8).state = .running ∧ (s.pump 8).mark = false
        ∧ s.pins.fault.getLsbD 8 = false ∧ s.pins.feedback.getLsbD 8 = true ∧ (t.pump 8).state = .stopping
        ∧ s.site.stopLatch = false ∧ s.site.level = .ok) := by
  and_intros <;> decide +kernel

/-- The clauses on a timer that no destage restarts: at one period short of the delay it keeps counting, with no pump
outside the set it stops. -/
theorem witness_VictimAndArbiter_timer :
    (let s := (basinOk destaging).modifyManifold 3 fun m => { m with destage := some 143999 }
     let t := after .pumpUpdate s
     s.pumpsOk ∧ s.due.pump = true ∧ (t.pump 8).state = .running ∧ 8 ∉ (t.manifold 3).targets
      ∧ (t.manifold 3).destage = some 143999)
    ∧ (let s := (basinOk destaging).modifyManifold 3 fun m => { m with demand := 1 }
       let t := after .pumpUpdate s
       s.pumpsOk ∧ (t.pump 8).state = .running ∧ 8 ∈ (t.manifold 3).targets ∧ (t.manifold 3).destage = none) := by
  and_intros <;> decide +kernel

/-- The clauses on the queue: pump 10 joins behind the two that wait, and pump 9, at the head, is granted; in suspension
nothing is. -/
theorem witness_VictimAndArbiter_queue :
    granting.pumpsOk ∧ granting.due.pump = true ∧ granting.pumps.queue = [9, 8] ∧ (granting.pump 10).state = .idle
    ∧ granting.intervalPassed = true ∧ (∀ n < 16, (granting.pump n).state ≠ .starting)
    ∧ (after .pumpUpdate granting).pumps.queue = [8, 10]
    ∧ (let s := { granting with site := { granting.site with stopLatch := true } }
       s.pumpsOk ∧ s.due.pump = true ∧ (after .pumpUpdate s).pumps.queue = []) := by
  and_intros <;> decide +kernel

theorem witness_PumpStateCommands :
    attached.ready ∧ 15 < (16 : Byte).toNat ∧ (8 : Byte).toNat ≤ 15 ∧ (onePump .idle false 0 false false).sized
    ∧ ((onePump .idle false 0 false false).pump 8).state = .idle
    ∧ ((onePump .queued false 0 false false).pump 8).state = .queued
    ∧ ((onePump .stopping false 0 false true).pump 8).state = .stopping
    ∧ ((onePump .fault false 0 true false).pump 8).state = .fault
    ∧ ((onePump .lockedOut false 0 true false).pump 8).cfg.present = true
    ∧ (onePump .lockedOut false 0 true false).pins.fault.getLsbD 8 = true
    ∧ ¬ ((onePump .lockedOut false 0 false false).pins.fault.getLsbD 8 = true
        ∨ (onePump .lockedOut false 0 false false).pins.feedback.getLsbD 8 = true) := by
  and_intros <;> decide +kernel

/-- PUMP_SET parameters in range, for pump 9 of manifold 3 at the rank of pump 8. -/
def pumpParams (rank : Byte) : PumpSetParams := ⟨9, 1, 3, rank, 20000, 900, 1000, 30000, 60000⟩

theorem witness_PumpSetOutcomes :
    attached.configurable ∧ 15 < (16 : Byte).toNat ∧ (pumpParams 0).pump.toNat ≤ 15 ∧ (pumpParams 0).present = 1
    ∧ pumpFieldsBad (pumpParams 0) = false ∧ pumpFieldsBad { pumpParams 0 with minSpeed := 99 } = true
    ∧ (pumping (pumpOf 0 2000 .idle 0) (pumpOf 1 2000 .idle 0) [] Inputs.idle).configurable
    ∧ ((pumping (pumpOf 0 2000 .idle 0) (pumpOf 1 2000 .idle 0) [] Inputs.idle).pump 9).state ≠ .lockedOut
    ∧ (let s := onePump .idle false 0 false false
       (s.pump 9).state = .lockedOut ∧ (s.pump 8).cfg.present = true ∧ (s.pump 8).cfg.manifold = 3
        ∧ (s.pump 8).cfg.rank = (pumpParams 0).rank.toNat ∧ (s.pump 8).cfg.rank ≠ (pumpParams 2).rank.toNat) := by
  and_intros <;> decide +kernel

theorem witness_SettingsReplaced : attached.ready ∧ attached.configurable := by decide

/-- With zone 2 of section 6.9 in a wind state, a gate outstanding, the held wind given. -/
def gusty (w : WindState) (count held : Nat) : State :=
  { (attached.modifyZone 2 fun _ => zoneTwo w count).modifyDue (fun d => { d with wind := true }) with
    site := { (attached.modifyZone 2 fun _ => zoneTwo w count).site with heldWind := held } }

/-- The clauses of WindGatePlacesZones at the limits soft 60, hard 110 and hold 4. -/
theorem witness_WindGatePlacesZones :
    attached.due.wind = false ∧ (gusty .clear 0 110).due.wind = true ∧ (gusty .clear 0 110).sized
    ∧ ((gusty .clear 0 110).zone 2).heedsWind = true ∧ ((gusty .clear 0 110).zone 2).wind ≠ .windHold
    ∧ (attached.zone 16).heedsWind = false
    ∧ ((gusty .windHold 3 60).zone 2).wind = .windHold ∧ (gusty .windHold 3 60).gateWind ≤ 60
    ∧ ((gusty .windHold 3 60).zone 2).cfg.hold ≤ ((gusty .windHold 3 60).zone 2).holdCount + 1
    ∧ ((gusty .windHold 2 60).zone 2).holdCount + 1 < ((gusty .windHold 2 60).zone 2).cfg.hold
    ∧ 60 < (gusty .windHold 3 61).gateWind := by
  and_intros <;> decide +kernel

/-- One WIND_STATE a gate (R135): WIND_HOLD_RELEASE of zone 2 takes the gate, at which zone 3 changes too, and WIND_GATE
raises nothing after it. -/
theorem test_windHoldRelease_raises_once :
    let s := (gusty .windHold 3 60).modifyZone 3 fun _ => { zoneTwo .derated 0 with cfg :=
      { (zoneTwo .derated 0).cfg with soft := 70 } }
    let t := after (.windHoldRelease 2) s
    let u := after .windGate { t with link := { t.link with summary := 0 } }
    (t.zone 2).wind = .clear ∧ (t.zone 3).wind = .clear ∧ t.link.summary = Event.windState.mask
      ∧ u.link.summary = 0 := by decide +kernel

/-- With presence input 0 at a count and level, zones 2 and 7 enabled, zone 2 naming the input, both of stop group 1. -/
def sensed (count : Nat) (input : Bool) : State :=
  let s := (attached.modifyZone 2 fun z => { z with cfg := ⟨true, 0, 50, 3000, 0, 0, 0, some 1, some 0⟩ }).modifyZone 7
    fun z => { z with cfg := ⟨true, 60, 90, 3000, 0, 0, 0, some 1, none⟩ }
  { (s.modifyPresence 0 fun p => { p with count := count }) with
    pins := { s.pins with presence := if input then 1 else 0 } }

theorem witness_DebouncedInputs :
    ((sensed 4799 true).presence 0).count < 4800 ∧ 4800 ≤ ((sensed 4800 true).presence 0).count
    ∧ (sensed 4800 false).pins.presence.getLsbD 0 = false ∧ (sensed 4800 true).pins.presence.getLsbD 0 = true
    ∧ (sensed 4800 true).sized
    ∧ ((sensed 4800 true).zone 2).cfg.enabled = true ∧ ((sensed 4800 true).zone 2).cfg.presence = some 0
    ∧ ((sensed 4800 true).zone 7).cfg.stopGroup = ((sensed 4800 true).zone 2).cfg.stopGroup
    ∧ ((sensed 4800 true).zone 2).latch = false := by
  and_intros <;> decide +kernel

/-- ZONE_SET parameters for zone 2, enabled, with presence input 0. -/
def zoneParams : ZoneSetParams := ⟨2, 1, 0, 383, 10000, 998, 999, 3600, 255, 0⟩

theorem witness_ZoneSetOutcomes :
    attached.configurable ∧ 16 < (17 : Byte).toNat ∧ zoneParams.zone.toNat = 2 ∧ zoneParams.enabled = 1
    ∧ (∀ p ∈ [zoneParams, { zoneParams with soft := 65535, hard := 0 }],
        ¬ (10000 < p.cap.toNat ∨ 999 < p.hard.toNat ∨ 3600 < p.hold.toNat
          ∨ (0 < p.hard.toNat ∧ (998 < p.soft.toNat ∨ p.hard.toNat ≤ p.soft.toNat))))
    ∧ ¬ (383 < zoneParams.last.toNat ∨ zoneParams.last.toNat < zoneParams.first.toNat)
    ∧ zoneParams.presence.toNat ≤ 7
    ∧ (attached.presence 0).debounced = false
    ∧ (let s := attached.modifyPresence 0 fun p => { p with debounced := true }
       s.configurable ∧ s.sized ∧ (s.presence 0).debounced = true ∧ (s.zone 2).latch = false)
    ∧ (let s := (attached.modifyPresence 0 fun p => { p with debounced := true }).modifyZone 2 fun x =>
         { x with latch := true }
       s.configurable ∧ s.sized ∧ (s.presence 0).debounced = true
        ∧ ∀ y < 16, y ≠ 2 → (s.zone y).cfg.enabled = false) := by
  and_intros <;> decide +kernel

/-- With a wind hard of 0 the wind soft is not checked (R129); with a wind hard above 0 a wind soft above 998 is refused,
as it is for being at or above the wind hard. -/
theorem test_zoneSet_checks_soft_only_with_hard :
    (after (.zoneSet { zoneParams with soft := 999, hard := 0 }) attached).link.replies.map (·.result) = [.ok]
    ∧ (after (.zoneSet { zoneParams with soft := 999 }) attached).link.replies.map (·.result) = [.badParam] := by
  and_intros <;> decide +kernel

theorem witness_ReleaseCommands :
    (sensed 0 false).ready ∧ (sensed 0 false).sized ∧ 15 < (16 : Byte).toNat ∧ (15 : Byte).toNat ≤ 15
    ∧ (attached.zone 15).cfg.enabled = false
    ∧ ((sensed 0 false).zone 7).cfg.enabled = true ∧ ((sensed 0 false).presence 0).debounced = false
    ∧ (let s := (sensed 0 true).modifyPresence 0 fun p => { p with debounced := true }
       s.sized ∧ (s.zone 7).cfg.enabled = true ∧ (s.zone 2).cfg.stopGroup = (s.zone 7).cfg.stopGroup
        ∧ (s.zone 2).cfg.presence = some 0 ∧ (s.presence 0).debounced = true) := by
  and_intros <;> decide +kernel

/-! #### Light and lines -/

/-- With fixture 200 of section 7.4 present, following nozzle 120, a light computation outstanding. -/
def litState (follow : Bool) : State :=
  (frameOne.modifyFixture 200 fun x => { x with cfg := ⟨true, 1, 101, .rgbw, some 120, follow, .square⟩ }).modifyDue
    fun d => { d with light := true }

theorem witness_LightComputationPublishes :
    attached.due.light = false ∧ (litState true).sized ∧ (litState true).due.light = true
    ∧ (litState true).due.envelope = false ∧ (litState true).due.effects = false
    ∧ ((litState true).fixture 200).cfg.present = true ∧ ((litState true).fixture 511).cfg.present = false
    ∧ ((litState true).fixture 200).cfg.follow = true ∧ ((litState true).fixture 200).cfg.linked = some 120
    ∧ ((litState true).nozzle 120).cfg.present = true ∧ ((litState false).fixture 200).cfg.follow = false
    ∧ (attached.nozzle 120).cfg.present = false := by
  and_intros <;> decide +kernel

/-- FIXTURE_SET parameters for fixture 511 on line 3. -/
def fixtureParams (first : Half) (layout : Byte) : FixtureSetParams := ⟨511, 1, 3, first, layout, 0xFFFF, 1, 1⟩

theorem witness_FixtureSetOutcomes :
    let rgbw := fun (first : Nat) => (⟨true, 3, first, .rgbw, none, true, .square⟩ : FixtureConfig)
    lined.configurable ∧ 511 < (512 : Half).toNat ∧ (fixtureParams 1 0).fixture.toNat ≤ 511
    ∧ fixtureConfigOf (fixtureParams 0 0) = none ∧ fixtureConfigOf (fixtureParams 1 3) = none
    ∧ (fixtureConfigOf (fixtureParams 510 2) = some (rgbw 510) ∧ 512 < (rgbw 510).lastSlot)
    ∧ (fixtureConfigOf (fixtureParams 6 2) = some (rgbw 6) ∧ (rgbw 6).lastSlot ≤ 512
        ∧ (lined.line 3).cfg.slots < (rgbw 6).lastSlot)
    ∧ (fixtureConfigOf (fixtureParams 5 2) = some (rgbw 5) ∧ (rgbw 5).lastSlot ≤ (lined.line 3).cfg.slots
        ∧ ∀ k ∈ fixtureSlots (rgbw 5), (lined.line 3).owner k = .free)
    ∧ (fixtureConfigOf (fixtureParams 2 2) = some (rgbw 2) ∧ 2 ∈ fixtureSlots (rgbw 2)
        ∧ ((fitted 0).line 3).owner 2 = .valveLow 383) := by
  and_intros <;> decide +kernel

/-- Line 0 sending a frame of the shortest length, at a count of its clocks, left enabled or not. -/
def sendingLine (enabled : Bool) (clocks : Nat) : State :=
  attached.modifyLine 0 fun l =>
    { l with cfg := ⟨enabled, 1, 8, 2⟩, run := ⟨true, 1, 8, 2⟩, sending := true, clocks := clocks }

/-- DrivenSignals: an OFF line, and a sent frame at its first bit, its data bits, the last clock of its last slot and the
first of its gap; a running pump's run output. -/
theorem witness_DrivenSignals :
    (attached.line 0).sending = false
    ∧ ((sendingLine true 0).line 0).output = false ∧ ((sendingLine true 288).line 0).output = true
    ∧ ((sendingLine true 3455).line 0).sending = true
    ∧ 3455 / (16 * (1 + 1)) < 12 * (8 + 1) ∧ 12 * (8 + 1) ≤ 3456 / (16 * (1 + 1))
    ∧ (onePump .running false 0 false true).runOutput 8 = true
    ∧ (onePump .running false 0 false true).speedReference 8 = 350
    ∧ (onePump .stopping false 0 false true).speedReference 8 = 0 := by
  and_intros <;> decide +kernel

/-- LINE_SET parameters for line 3. -/
def lineParams (slots : Half) : LineSetParams := ⟨3, 1, 1, slots, 2⟩

theorem witness_LineOutcomes :
    attached.configurable ∧ 1 ≤ (lineParams 7).slots.toNat ∧ (lineParams 7).slots.toNat ≤ 7
    ∧ (let p := lineParams 8
       ¬ (3 < p.line.toNat ∨ 1 < p.enabled.toNat ∨ p.divider = 0 ∨ (1 ≤ p.slots.toNat ∧ p.slots.toNat ≤ 7)
        ∨ 512 < p.slots.toNat ∨ p.gap.toNat < 2 ∨ (p.slots.toNat = 0 ∧ p.enabled = 1)))
    ∧ (∀ o ∈ (attached.line 3).owners, o = .free)
    ∧ (attached.line 3).sending = false
    ∧ (sendingLine true 3519).sized ∧ ((sendingLine true 3519).line 0).clocks < 3520
    ∧ ((sendingLine true 3520).line 0).sending = true ∧ 3520 ≤ ((sendingLine true 3520).line 0).clocks
    ∧ (12 * (((sendingLine true 3520).line 0).run.slots + 1) + ((sendingLine true 3520).line 0).run.gap)
        * (16 * (((sendingLine true 3520).line 0).run.divider + 1)) = 3520
    ∧ ((sendingLine true 3520).line 0).cfg.enabled = true ∧ ((sendingLine false 3520).line 0).cfg.enabled = false := by
  and_intros <;> decide +kernel

/-! #### Clips and decks -/

/-- A READY mono clip of two frames on page 0. -/
def smallClip (st : ClipState) (refs : Nat) : Clip := ⟨st, 1, 2, [0], [true], 2, refs⟩

/-- The page owners with page 0 owned by slot 0. -/
def pageZeroOwned : List (Option Nat) := (List.replicate 2048 none).set 0 (some 0)

/-- The part with that clip in slot 0 and a deck 0 that holds it. -/
def cued (st : ClipState) (k : Deck) : State :=
  let s := withDeck 0 { k with clip := some 0x0100 } (withClip 0 (smallClip st 1) attached)
  { s with clips := { s.clips with owner := pageZeroOwned } }

theorem witness_ClipCreateAndRetire :
    attached.ready ∧ attached.sized
    ∧ ((2 : Byte) ≠ 1 ∧ (3 : Byte) ≠ 1 ∧ (3 : Byte) ≠ 2) ∧ 67108864 < (67108865 : Quad).toNat
    ∧ ¬ (((2 : Byte) ≠ 1 ∧ (2 : Byte) ≠ 2) ∨ (67108864 : Quad) = 0 ∨ 67108864 < (67108864 : Quad).toNat)
    ∧ (attached.clipSlot 0).clip = none
    ∧ (67108864 * (2 * 2) + 65535) / 65536 = 4096 ∧ (33554432 * (2 * 2) + 65535) / 65536 = 2048
    ∧ attached.lookupClip 0x0100 = none
    ∧ (withClip 0 (smallClip .ready 0) attached).lookupClip 0x0100 = some (smallClip .ready 0)
    ∧ (withClip 0 (smallClip .retiring 1) attached).lookupClip 0x0100 = some (smallClip .retiring 1)
    ∧ (smallClip .ready 1).state ≠ .retiring ∧ 0 < (smallClip .ready 1).refs := by
  and_intros <;> decide +kernel

/-- A full clip table, and the free pages of sample memory at reset. -/
theorem witness_ClipCreate_full :
    (∀ e ∈ ({ attached with clips := { attached.clips with
      slots := List.replicate 64 ⟨1, some (smallClip .ready 0)⟩ } } : State).clips.slots, e.clip ≠ none)
    ∧ attached.freePages.length = 2048 := by
  constructor
  · intro e he
    rw [List.eq_of_mem_replicate he]
    decide
  · have h : attached.freePages = List.range 2048 := by
      refine List.filter_eq_self.mpr fun p _ => ?_
      show decide ((List.replicate 2048 none).getD p none = none) = true
      rw [List.getD_eq_getElem?_getD, List.getElem?_replicate]
      split <;> rfl
    rw [h, List.length_range]

/-- A clip of two pages, the second of two bytes, with its first page loaded. -/
def twoPages (st : ClipState) : Clip := ⟨st, 1, 32769, [0, 1], [true, false], 32768, 0⟩

/-- A full packet of zeros (R189). -/
def fullPacket : List Byte := List.replicate 64 0

theorem witness_ClipBlockOutcomes :
    State.reset.link.attached = false ∧ attached.link.attached = true
    ∧ 64 < (List.replicate 65 (0 : Byte)).length
    ∧ ((∀ p ∈ [fullPacket], p.length = 64) ∧ [fullPacket] ≠ []) ∧ (List.replicate 63 (0 : Byte)).length < 64
    ∧ (List.replicate 7 (0 : Byte)).length < 8 ∧ 8 ≤ (List.replicate 8 (0 : Byte)).length
    ∧ 65544 < (List.replicate 1024 fullPacket).flatten.length + (List.replicate 9 (0 : Byte)).length
    ∧ halfOf 0x00 0x01 = 0x0100 ∧ quadOf 1 0 0 0 = 1 ∧ quadOf 2 0 0 0 = 2
    ∧ attached.lookupClip 0x0100 = none
    ∧ (withClip 0 (twoPages .retiring) attached).lookupClip 0x0100 = some (twoPages .retiring)
    ∧ (withClip 0 (twoPages .loading) attached).lookupClip 0x0100 = some (twoPages .loading)
    ∧ (twoPages .loading).pages.length ≤ (2 : Quad).toNat ∧ (1 : Quad).toNat < (twoPages .loading).pages.length
    ∧ ¬ (1 + 1 < (twoPages .loading).pages.length)
    ∧ (twoPages .loading).length * ((twoPages .loading).channels * 2) - 65536 = [(5 : Byte), 6].length
    ∧ (∀ b ∈ (twoPages .loading).loaded.set 1 true, b = true)
    ∧ ¬ (twoPages .ready).state = .loading := by
  and_intros <;> first
    | (simp only [List.length_flatten, List.map_replicate, List.sum_replicate, fullPacket, List.length_replicate]; decide)
    | decide +kernel

/-- R196: the block of page 1 in one short packet makes the clip READY. -/
theorem test_clipBlock_short_packet :
    let t := after (.clipBlock [[0x00, 0x01, 1, 0, 0, 0, 0, 0, 5, 6]]) (withClip 0 (twoPages .loading) attached)
    (t.lookupClip 0x0100).map (·.state) = some .ready ∧ t.link.clipTransfer = none := by decide +kernel

/-- R189, R196: a full packet leaves the block in progress, and the zero-length packet ends it. -/
theorem test_clipBlock_full_packet :
    let s := withClip 0 (twoPages .loading) attached
    let t := after (.clipBlock [fullPacket]) s
    t.link.clipTransfer = some fullPacket ∧ t.link.rejection = attached.link.rejection
      ∧ (after (.clipBlock [[]]) t).link.clipTransfer = none
      ∧ (after (.clipBlock [[]]) t).link.rejection = ⟨0, 0, .staleHandle⟩ := by decide +kernel

/-- R189, R192: a GROUP_DEFINE of 40 indexes comes in two packets; its first holds a place, its second is answered. -/
theorem test_groupDefine_in_packets :
    let bytes := [0x14, 7, 0, 40] ++ (List.range 40).flatMap fun i => halfBytes (BitVec.ofNat 16 i)
    let t := after (.commandPacket (bytes.take 64)) attached
    let u := after (.commandPacket (bytes.drop 64)) t
    t.link.transfer = some (bytes.take 64) ∧ t.link.replies = []
      ∧ u.link.transfer = none ∧ u.link.replies = [⟨.ok, .stopped, [], none, 0⟩]
      ∧ (u.group 7).defined = some ⟨.jet, List.range 40⟩ := by decide +kernel

theorem witness_DeckCommandOutcomes :
    attached.ready ∧ attached.sized ∧ 1 < (2 : Byte).toNat ∧ (1 : Byte).toNat ≤ 1
    ∧ ((cued .ready { Deck.blank with state := .playing }).deck 0).sounding = true
    ∧ (attached.deck 0).sounding = false ∧ attached.lookupClip 0x0100 = none
    ∧ (cued .retiring { Deck.blank with state := .cued }).lookupClip 0x0100 = some (smallClip .retiring 1)
    ∧ (cued .ready { Deck.blank with state := .cued }).lookupClip 0x0100 = some (smallClip .ready 1)
    ∧ (smallClip .ready 1).length ≤ (2 : Quad).toNat ∧ (1 : Quad).toNat < (smallClip .ready 1).length
    ∧ 2 ≤ (2 : Byte).toNat ∧ (showing .ending attached).timer.showState = .ending
    ∧ (attached.deck 0).state ≠ .cued ∧ (attached.deck 0).state = .empty
    ∧ ((cued .ready { Deck.blank with state := .cued }).deck 0).state = .cued
    ∧ ((cued .ready { Deck.blank with state := .starved, gain := 0 }).deck 0).gain = 0
    ∧ ((cued .ready { Deck.blank with state := .playing, gain := 1 }).deck 0).gain = 1
    ∧ 0 < min (60001 : Half).toNat 60000 ∧ min (0 : Half).toNat 60000 = 0
    ∧ ((cued .ready { Deck.blank with state := .playing, stopPending := true }).deck 0).stopPending = true
    ∧ (attached.deck 0).stopPending = false := by
  and_intros <;> decide +kernel

/-- Where only page 0 is owned, by slot 0, an owned page is page 0 and its owner slot 0. -/
theorem owned_onePage {n p i : Nat} (h : ((List.replicate n none).set 0 (some 0)).getD p none = some i) :
    p = 0 ∧ i = 0 := by
  cases n with
  | zero => simp at h
  | succ n =>
    cases p with
    | zero => exact ⟨rfl, (by simpa [List.replicate_succ] using h : 0 = i).symm⟩
    | succ p =>
      change (List.replicate n none).getD p none = some i at h
      rw [List.getD_eq_getElem?_getD, List.getElem?_replicate] at h
      split at h <;> simp at h

/-- What is left to show of the clip invariant for a state whose one owned page is page 0 of slot 0. -/
theorem clipsOk_of_onePage {s : State} {c : Clip} (hs : s.sized)
    (hc : ∀ i < 64, ∀ c ∈ (s.clipSlot i).clip, s.clipOk i c)
    (ho : s.clips.owner = pageZeroOwned) (h0 : (s.clipSlot 0).clip = some c)
    (hp : 0 ∈ c.pages)
    (hd : ∀ k ∈ s.decks.table, (k.state = .empty ↔ k.clip = none) ∧ k.clip.all (fun h => (s.lookupClip h).isSome) = true)
    (hm : SampleMemory.wf s.clips.memory) : s.clipsOk := by
  refine ⟨hs, hc, fun p _ i hi => ?_, fun k hk => ⟨(hd k hk).1, fun h hh => ?_⟩, hm⟩
  rotate_left
  · have := (hd k hk).2
    rw [hh] at this
    exact this
  obtain ⟨rfl, rfl⟩ := owned_onePage (ho ▸ hi)
  exact ⟨c, h0, hp⟩

/-- A deck 0 WAITING for a start, or PLAYING at its last frame, in a RUNNING show. -/
def deckAt (st : DeckState) (cue : Nat) (position : Nat) : State :=
  showing .running (cued .ready { Deck.blank with state := st, cue := cue, position := position })

/-- `clipsReleased` in ShowStopOutcomes and its fellows: a RETIRING clip whose one holder is PLAYING, in a RUNNING show. -/
theorem witness_clipsReleased :
    let s := showing .running (cued .retiring { Deck.blank with state := .playing })
    s.clipsOk ∧ s.sized ∧ s.timer.showState ≠ .stopped ∧ s.soundingHolders 0 = 1
      ∧ ((s.clipSlot 0).released 1).clip = none := by
  refine ⟨clipsOk_of_onePage (by decide +kernel) (by decide +kernel) rfl
      (show _ = some (smallClip .retiring 1) by decide +kernel) (by decide +kernel) (by decide +kernel)
      (by decide +kernel), ?_⟩
  and_intros <;> decide +kernel

theorem witness_DeckPeriods_waiting :
    (deckAt .waiting 1 0).clipsOk ∧ (deckAt .waiting 2 0).clipsOk ∧ (deckAt .playing 0 0).clipsOk
      ∧ (deckAt .playing 0 1).clipsOk := by
  refine ⟨?_, ?_, ?_, ?_⟩ <;>
    exact clipsOk_of_onePage (by decide +kernel) (by decide +kernel) rfl
      (show _ = some (smallClip .ready 1) by decide +kernel) (by decide +kernel) (by decide +kernel)
      (by decide +kernel)

/-- The clauses on what ended the show at the end of the last period. -/
theorem witness_DeckPeriods_ends :
    (let s := (deckAt .playing 0 0).modifyDue fun d => { d with stop := true }
     s.clipsOk ∧ s.timer.showState = .running ∧ s.due.decksDone = false ∧ s.due.stop = true)
    ∧ (let s := { deckAt .playing 0 0 with link := { attached.link with timeout := 1, silence := 48000 } }
       s.clipsOk ∧ s.due.stop = false ∧ s.silenceExpired = true)
    ∧ (let s := { deckAt .playing 0 0 with timer := atEnd.timer }
       s.clipsOk ∧ s.timer.showState = .ending ∧ s.due.stop = false ∧ s.atEndTime = true) := by
  refine ⟨⟨?_, ?_⟩, ⟨?_, ?_⟩, ⟨?_, ?_⟩⟩
  all_goals first
    | decide +kernel
    | exact clipsOk_of_onePage (by decide +kernel) (by decide +kernel) rfl
        (show _ = some (smallClip .ready 1) by decide +kernel) (by decide +kernel) (by decide +kernel)
        (by decide +kernel)

/-- The show whose end time the last period has reached is over for the decks (R11): DECK_PERIOD stops it and they give
nothing. -/
theorem test_deckPeriod_after_the_end_time :
    let t := after .deckPeriod { deckAt .playing 0 0 with timer := atEnd.timer }
    t.timer.showState = .stopped ∧ t.deck 0 = Deck.blank ∧ t.due.decksDone = false := by decide +kernel

/-- DECK_BEGIN takes the period in which the deck begins (R179, R180): it has played its first frame, and DECK_PERIOD does
nothing more. -/
theorem test_deckBegin_takes_the_period :
    let t := after .deckPeriod (after (.deckBegin 0) (deckAt .waiting 0 0))
    (t.deck 0).state = .playing ∧ (t.deck 0).position = 1 ∧ t.due.decksDone = true := by decide +kernel

theorem witness_DeckPeriods_clauses :
    (let s := deckAt .waiting 1 0
     s.timer.showState = .running ∧ s.due.decksDone = false ∧ (s.deck 0).state = .waiting
      ∧ atOrAfter s.timer.clock (s.deck 0).start = true ∧ (s.deck 0).cue + (s.timer.clock - (s.deck 0).start).toNat = 1
      ∧ s.deckLength 0 = 2 ∧ s.deckClip 0 = some (smallClip .ready 1))
    ∧ (let s := deckAt .waiting 2 0
       s.deckLength 0 ≤ (s.deck 0).cue + (s.timer.clock - (s.deck 0).start).toNat)
    ∧ ((deckAt .playing 0 0).deck 0).position + 1 ≠ (smallClip .ready 1).length
    ∧ ((deckAt .playing 0 1).deck 0).position + 1 = (smallClip .ready 1).length
    ∧ (let s := showing .stopped (cued .ready { Deck.blank with state := .cued, stopPending := true, gain := 0 })
       s.timer.showState = .stopped ∧ (s.deck (0 : Fin 2)).stopPending = true ∧ (s.deck (0 : Fin 2)).gain = 0) := by
  and_intros <;> decide +kernel

/-! #### The link, the store, the sample period and the invariants -/

theorem witness_LinkEvents :
    attached.linkOk ∧ attached.ready
    ∧ 512 < (List.replicate 513 (0 : Byte)).length ∧ (List.replicate 512 (0 : Byte)).length ≤ 512
    ∧ (readerOf 0xFF false).isNone = true ∧ (readerOf 0x01 false).isSome = true := by
  and_intros <;> decide +kernel

theorem witness_LinkEvents_read :
    ∃ r, readerOf 0x01 false = some r ∧ whole (r [0]) = none ∧ (whole (r [])).isSome = true :=
  ⟨_, rfl, by decide, by decide⟩

theorem witness_PollOutcomes :
    State.reset.link.attached = false ∧ attached.link.replies = []
    ∧ ((withReplies 1 attached).link.attached = true ∧ (withReplies 1 attached).link.replies = okReply :: [])
    ∧ (attached.link.notice = none ∧ attached.link.summary &&& attached.link.mask = 0)
    ∧ (let l := { attached.link with summary := 0x8000, mask := 0x8000 }
       l.attached = true ∧ l.notice = none ∧ l.summary &&& l.mask ≠ 0)
    ∧ ({ attached.link with notice := some 1 } : ShowLink).notice = some 1 := by decide

theorem witness_StoreOutcomes :
    attached.configurable
    ∧ (let s := { attached with store := { attached.store with saving := true, count := 43200 } }
       s.store.saving = true ∧ 43200 ≤ s.store.count)
    ∧ attached.store.saving = false
    ∧ (let s := { attached with store := { attached.store with saving := true, count := 43199 } }
       s.store.count < 43200) := by decide

/-- A part whose image is valid. -/
def saved : State := { attached with store := { attached.store with marker := true, checkMatches := true } }

theorem witness_FullResetOutcomes :
    attached.store.marker = false ∧ saved.store.marker = true ∧ saved.store.checkMatches = true
    ∧ saved.store.image.lines.length = 4 := by decide

/-- A DECK_PERIOD of the same state gives a next state, so SamplePeriodCounts speaks of it. -/
theorem witness_SamplePeriodCounts :
    ∃ u, (showing .running attached).quiet ∧ (showing .running attached).sized
      ∧ exec .deckPeriod (showing .running attached) = .next u :=
  ⟨_, by and_intros <;> decide +kernel, by decide +kernel, rfl⟩

/-- The master of an AUDIO_SET taken between DECK_PERIOD and SAMPLE_PERIOD counts from the next sample period (R185): this
frame is still at unity, and the next period has half the volume. -/
theorem test_audioSet_counts_from_the_next_period :
    let s := { attached with decks := { attached.decks with
      table := [{ Deck.blank with given := ⟨1000, 0⟩ }, Deck.blank] } }
    let t := after (.samplePeriod Inputs.idle) (after (.audioSet 16384 0) s)
    t.decks.out = ⟨1000, 0⟩ ∧ t.decks.masterNow = 16384
      ∧ ({ s with decks := { s.decks with masterNow := t.decks.masterNow } } : State).outputFrame = ⟨500, 0⟩ := by
  decide +kernel

theorem witness_EnvelopeAndSettling : attached.due.envelope = false ∧ (allDue attached).due.envelope = true := by decide

theorem witness_CommandBytesRoundTrip :
    (Instr.showEnd 5).wellFormed = true ∧ encodeCommand (.showEnd 5) = some [0x04, 5, 0]
    ∧ frameTransfer [0x04, 5, 0] = .command (.showEnd 5) := by decide

/-- With a command waiting. -/
def waiting (c : Instr) (s : State) : State := { s with pending := [c] }

theorem witness_ShowStateKept :
    ∃ t, (waiting .showStart attached).showOk ∧ step (waiting .showStart attached) = .next t :=
  ⟨_, by and_intros <;> decide +kernel, rfl⟩

theorem witness_EffectTableKept :
    ∃ t, (waiting (.effectAdd addParams) grouped).groupsOk ∧ (waiting (.effectAdd addParams) grouped).addSeqOk
      ∧ step (waiting (.effectAdd addParams) grouped) = .next t :=
  ⟨_, by and_intros <;> decide +kernel, by and_intros <;> decide +kernel, rfl⟩

theorem witness_PumpsKept :
    ∃ t, (waiting .pumpUpdate destaging).pumpsOk ∧ (waiting .pumpUpdate destaging).supplyOk
      ∧ step (waiting .pumpUpdate destaging) = .next t :=
  ⟨_, by and_intros <;> decide +kernel, by and_intros <;> decide +kernel, rfl⟩

theorem witness_ClipStoreKept :
    ∃ t, (waiting (.clipRetire 0x0100) (deckAt .playing 0 0)).clipsOk
      ∧ step (waiting (.clipRetire 0x0100) (deckAt .playing 0 0)) = .next t :=
  ⟨_, clipsOk_of_onePage (by decide +kernel) (by decide +kernel) rfl
      (show _ = some (smallClip .ready 1) by decide +kernel) (by decide +kernel) (by decide +kernel)
    (by decide +kernel), rfl⟩

theorem witness_FiguresKept :
    ∃ t, (waiting .jetFrame frameOne).levelsOk ∧ (waiting .jetFrame frameOne).windOk
      ∧ (waiting .jetFrame frameOne).valvesOk ∧ step (waiting .jetFrame frameOne) = .next t :=
  ⟨_, by decide +kernel, by decide +kernel, by decide +kernel, rfl⟩

theorem witness_FiguresKept_link :
    ∃ t, (waiting (.commandPacket fullPacket) (withReplies 3 attached)).linkOk
      ∧ step (waiting (.commandPacket fullPacket) (withReplies 3 attached)) = .next t :=
  ⟨_, by decide +kernel, rfl⟩

set_option synthInstance.maxSize 1000 in
/-- Line 3 with nozzle 383 on its slots 1 and 2, no image saved, and a ZONE_RELEASE waiting. -/
theorem witness_OwnerMapKept :
    ∃ t, (waiting (.zoneRelease 0) (fitted 0)).ownersOk ∧ step (waiting (.zoneRelease 0) (fitted 0)) = .next t := by
  refine ⟨_, ⟨by decide +kernel, ?_, SiteConfig.ownersOk_defaults, SiteConfig.ownersOk_defaults⟩, rfl⟩
  decide +kernel

end Sys2Proof.Tests
end

section
/-! PROOF. What the changes of show state do in the Effect Scheduler (R34, R35, R49, R50), slot by slot. -/
namespace Sys2Proof.Machine

/-! ### Changes of one entry of a list -/

/-- Changing an entry by two functions that agree on it gives the same list. -/
theorem modify_congr_of_entry {α : Type} {l : List α} {i : Nat} {f g : α → α} (h : ∀ a, l[i]? = some a → f a = g a) :
    l.modify i f = l.modify i g := by
  refine List.ext_getElem? fun j => ?_
  simp only [List.getElem?_modify]
  split
  · next hij =>
    subst hij
    cases ha : l[i]? with
    | none => rfl
    | some a => simp [h a ha]
  · rfl

/-- A change that leaves the entry as it is leaves the list. -/
theorem modify_eq_of_entry {α : Type} {l : List α} {i : Nat} {f : α → α} (h : ∀ a, l[i]? = some a → f a = a) :
    l.modify i f = l :=
  (modify_congr_of_entry (g := id) h).trans (List.modify_id i l)

/-- A figure that a change of an entry keeps is the same in every entry. -/
theorem map_modify_of_same {α β : Type} (l : List α) (i : Nat) {f : α → α} {g : α → β} (h : ∀ a, g (f a) = g a) :
    (l.modify i f).map g = l.map g := by
  refine List.ext_getElem? fun j => ?_
  simp only [List.getElem?_map, List.getElem?_modify]
  split
  · cases l[j]? <;> simp [h]
  · simp

/-- The slot read is the slot listed. -/
theorem State.effectSlot_of_getElem? {s : State} {i : Nat} {e : EffectSlot} (h : s.effects.slots[i]? = some e) :
    s.effectSlot i = e := by
  simp [State.effectSlot, List.getD_eq_getElem?_getD, h]

/-! ### References -/

/-- How many references a slot's record, if it holds one, makes to a group (R43). -/
def EffectSlot.refsTo (g : Nat) (e : EffectSlot) : Nat := (e.record.map (EffectRecord.refsTo g)).getD 0

/-- The references of the effect table, summed over its slots. -/
theorem State.refsTo_eq_sum (s : State) (g : Nat) : s.refsTo g = (s.effects.slots.map (EffectSlot.refsTo g)).sum := by
  unfold State.refsTo State.records
  induction s.effects.slots with
  | nil => rfl
  | cons e l ih => cases h : e.record <;> simp [EffectSlot.refsTo, h, ih]

/-- What is left of a sum, once each term has given part of itself away. -/
theorem sum_map_eq_given_add_kept {α : Type} (l : List α) {b a : α → Nat} (h : ∀ x, a x ≤ b x) :
    (l.map b).sum = (l.map fun x => b x - a x).sum + (l.map a).sum := by
  induction l with
  | nil => rfl
  | cons x l ih =>
    have := h x
    simp only [List.map_cons, List.sum_cons]
    omega

/-! ### One record changed -/

/-- A slot once `k` has been made of its record; with `none` the record is freed. -/
def EffectSlot.change (k : EffectRecord → Option EffectRecord) (e : EffectSlot) : EffectSlot :=
  { e with record := e.record.bind k }

theorem EffectSlot.change_of_none {k : EffectRecord → Option EffectRecord} {e : EffectSlot} (h : e.record = none) :
    e.change k = e := by
  cases e; simp_all [EffectSlot.change]

theorem EffectSlot.change_of_some {k : EffectRecord → Option EffectRecord} {e : EffectSlot} {r : EffectRecord}
    (h : e.record = some r) : e.change k = { e with record := k r } := by
  simp [EffectSlot.change, h]

/-- `t` is `s` with the record of slot `i` become what `k` makes of it: the references it no longer makes are released, and
all else stands as it was (R34, R35). -/
structure State.RecordChange (i : Nat) (k : EffectRecord → Option EffectRecord) (s t : State) : Prop where
  slots : t.effects.slots = s.effects.slots.modify i (EffectSlot.change k)
  refs : ∀ g < s.effects.groups.length, (t.group g).refs =
    (s.group g).refs - ((s.effectSlot i).refsTo g - ((s.effectSlot i).change k).refsTo g)
  defined : t.effects.groups.map (·.defined) = s.effects.groups.map (·.defined)
  counters : t.effects.addCounter = s.effects.addCounter ∧ t.effects.touchCounter = s.effects.touchCounter
  outside : ∃ effects, t = { s with effects := effects }

/-- Where the slot stays as it is, nothing changes. -/
theorem State.RecordChange.of_same {i : Nat} {k : EffectRecord → Option EffectRecord} {s : State}
    (h : (s.effectSlot i).change k = s.effectSlot i) : s.RecordChange i k s where
  slots := (modify_eq_of_entry fun a ha => by rw [← State.effectSlot_of_getElem? ha, h]).symm
  refs g _ := by rw [h]; omega
  defined := rfl
  counters := ⟨rfl, rfl⟩
  outside := ⟨_, rfl⟩

/-- A change of a record followed by one that keeps its references. -/
theorem State.RecordChange.modifyRecord {i : Nat} {s t : State} {k : EffectRecord → Option EffectRecord}
    (h : s.RecordChange i k t) (m : EffectRecord → EffectRecord) (hm : ∀ g r, (m r).refsTo g = r.refsTo g) :
    s.RecordChange i (fun r => (k r).map m) (t.modifyRecord i m) where
  slots := by
    rw [State.modifyRecord_effects, h.slots, List.modify_modify_eq]
    refine congrArg (s.effects.slots.modify i) (funext fun e => ?_)
    cases hr : e.record <;> simp [EffectSlot.change, hr]
  refs g hg := by
    have he : ((s.effectSlot i).change fun r => (k r).map m).refsTo g = ((s.effectSlot i).change k).refsTo g := by
      cases hr : (s.effectSlot i).record with
      | none => simp [EffectSlot.change, hr]
      | some r => cases hk : k r <;> simp [EffectSlot.change, EffectSlot.refsTo, hr, hk, hm]
    rw [he]
    exact h.refs g hg
  defined := h.defined
  counters := h.counters
  outside := by
    obtain ⟨effects, rfl⟩ := h.outside
    exact ⟨_, rfl⟩

/-- Two functions that make the same of the slot's record make the same change. -/
theorem State.RecordChange.congr {i : Nat} {s t : State} {k m : EffectRecord → Option EffectRecord}
    (h : s.RecordChange i k t) (hkm : ∀ r, (s.effectSlot i).record = some r → k r = m r) : s.RecordChange i m t := by
  have hi : (s.effectSlot i).change k = (s.effectSlot i).change m := by
    cases hr : (s.effectSlot i).record with
    | none => simp [EffectSlot.change, hr]
    | some r => simp [EffectSlot.change, hr, hkm r hr]
  exact { h with
    slots := h.slots.trans (modify_congr_of_entry fun a ha => by rw [← State.effectSlot_of_getElem? ha, hi])
    refs := fun g hg => by rw [h.refs g hg, hi] }

/-- A reference released, read back. -/
theorem State.refs_dropRef? (s : State) (j : Option Nat) (g : Nat) (hg : g < s.effects.groups.length) :
    ((s.dropRef? j).group g).refs = (s.group g).refs - if j = some g then 1 else 0 := by
  cases j with
  | none => simp [State.dropRef?]
  | some j =>
    simp only [State.dropRef?, State.dropRef, State.group_modifyGroup]
    by_cases h : j = g <;> simp [h, hg]

/-- The release of a reference touches the count of one group. -/
theorem State.dropRef?_eq (j : Option Nat) (s : State) :
    ∃ groups, s.dropRef? j = { s with effects := { s.effects with groups := groups } }
      ∧ groups.map (·.defined) = s.effects.groups.map (·.defined) := by
  cases j with
  | none => exact ⟨_, rfl, rfl⟩
  | some j => exact ⟨_, rfl, map_modify_of_same _ _ fun _ => rfl⟩

/-- A slot changed once the references `own` and `more` have been released is a change of its record, when those are the
references that the record no longer makes. -/
theorem State.recordChange_of_dropRefs {i : Nat} {s : State} {own more : Option Nat} {f : EffectSlot → EffectSlot}
    {k : EffectRecord → Option EffectRecord} {r : EffectRecord} (hr : (s.effectSlot i).record = some r)
    (hf : ∀ e, e.record = some r → f e = { e with record := k r })
    (hrefs : ∀ g, r.refsTo g - ((k r).map (EffectRecord.refsTo g)).getD 0 =
      (if own = some g then 1 else 0) + if more = some g then 1 else 0) :
    s.RecordChange i k (((s.dropRef? own).dropRef? more).modifyEffectSlot i f) := by
  obtain ⟨groups, howner, hdef⟩ := State.dropRef?_eq own s
  obtain ⟨groups', hmore, hdef'⟩ := State.dropRef?_eq more (s.dropRef? own)
  have hlen : (s.dropRef? own).effects.groups.length = s.effects.groups.length := by
    rw [howner]
    simpa using congrArg List.length hdef
  refine ⟨?_, fun g hg => ?_, ?_, ?_, ?_⟩
  · rw [hmore, howner]
    refine modify_congr_of_entry fun a ha => ?_
    have ha := (State.effectSlot_of_getElem? ha) ▸ hr
    rw [hf a ha, EffectSlot.change_of_some ha]
  · have hgiven := hrefs g
    have hread := State.refs_dropRef? (s.dropRef? own) more g (by rwa [hlen])
    rw [State.refs_dropRef? _ _ _ hg] at hread
    rw [EffectSlot.change_of_some hr]
    simp only [EffectSlot.refsTo, hr, Option.map_some, Option.getD_some]
    exact hread.trans (by omega)
  · rw [hmore]
    exact hdef'.trans (by rw [howner]; exact hdef)
  · rw [hmore, howner]
    exact ⟨rfl, rfl⟩
  · rw [hmore, howner]
    exact ⟨_, rfl⟩

/-! ### Freeing, settling, fading and ending a record -/

/-- Freeing a record (R35). -/
theorem State.freeRecord_change (i : Nat) (s : State) : s.RecordChange i (fun _ => none) (s.freeRecord i) := by
  unfold State.freeRecord
  split
  · next h => exact .of_same (EffectSlot.change_of_none h)
  · next r h =>
    refine State.recordChange_of_dropRefs (own := some r.params.group) (more := r.reserved) h (fun _ _ => rfl) fun g => ?_
    simp [EffectRecord.refsTo]

/-- A record whose pending edit has been settled at `t` (R34). -/
def EffectRecord.afterEdit (t : ShowTime) (r : EffectRecord) : EffectRecord := { r with params := r.settled t, edit := none }

/-- A record whose edit is applied belongs to the edit's group, if that names one; to its own otherwise. -/
theorem EffectRecord.group_settled (t : ShowTime) (r : EffectRecord) :
    (r.settled t).group = ((r.editAt t).bind (·.fields.group)).getD r.params.group := by
  unfold EffectRecord.settled
  cases r.editAt t <;> rfl

/-- A record without a pending edit has nothing to settle. -/
theorem EffectRecord.afterEdit_of_none {t : ShowTime} {r : EffectRecord} (h : r.edit = none) : r.afterEdit t = r := by
  cases r; subst h; rfl

/-- The pending edit of a record is settled (R34). -/
theorem State.settleEdit_change (i : Nat) (t : ShowTime) (s : State) :
    s.RecordChange i (fun r => some (r.afterEdit t)) (s.settleEdit i t) := by
  unfold State.settleEdit
  split
  · next h => exact .of_same (EffectSlot.change_of_none h)
  next r h =>
  split
  · next hr => exact .of_same (by rw [EffectSlot.change_of_some h, EffectRecord.afterEdit_of_none hr, ← h])
  next e hr =>
  split
  · next ht =>
    have hat : r.editAt t = some e := by simp [EffectRecord.editAt, hr, ht]
    have change := State.recordChange_of_dropRefs (own := e.fields.group.map fun _ => r.params.group) (more := none)
      (f := fun e' => { e' with record := e'.record.map fun r =>
        { r with params := (r.params.overlay e.fields).normalise, edit := none } })
      (k := fun r => some (r.afterEdit t)) h
      (fun e' he' => by simp [he', EffectRecord.afterEdit, EffectRecord.settled, hat]) fun g => by
        cases hg : e.fields.group <;>
          simp [EffectRecord.refsTo, EffectRecord.reserved, EffectRecord.afterEdit, EffectRecord.group_settled, hr, hat, hg]
    unfold State.applyEdit
    cases hg : e.fields.group <;> rw [hg] at change <;> exact change
  · next ht =>
    have hat : r.editAt t = none := by simp [EffectRecord.editAt, hr, ht]
    refine State.recordChange_of_dropRefs (own := none) (more := e.fields.group) h (fun e' he' => ?_) fun g => ?_
    · simp [he', EffectRecord.afterEdit, EffectRecord.settled, hat]
    · simp [EffectRecord.refsTo, EffectRecord.reserved, EffectRecord.afterEdit, EffectRecord.settled, hr, hat]

/-- A record enters FADING with an imposed fade (R33). -/
theorem State.imposeFade_change (i : Nat) (t : ShowTime) (s : State) :
    s.RecordChange i (fun r => some (r.faded s.timer.showState t)) (s.imposeFade i t) := by
  unfold State.imposeFade
  split
  · next h => exact .of_same (EffectSlot.change_of_none h)
  · next r h =>
    refine ((s.settleEdit_change i t).modifyRecord _ ?_).congr fun q hq => ?_
    · exact fun _ _ => rfl
    obtain rfl : r = q := by simpa [h] using hq
    rfl

/-- One record at the entry into ENDING (R49). -/
theorem State.endRecord_change (t : ShowTime) (fade i : Nat) (s : State) :
    s.RecordChange i (EffectRecord.ended s.timer.showState t fade) (s.endRecord t fade i) := by
  unfold State.endRecord
  split
  · next h => exact .of_same (EffectSlot.change_of_none h)
  next r h =>
  split
  · next hs =>
    refine (s.freeRecord_change i).congr fun q hq => ?_
    obtain rfl : r = q := by simpa [h] using hq
    simp [EffectRecord.ended, hs]
  · next hs =>
    refine ((s.imposeFade_change i t).modifyRecord _ ?_).congr fun q hq => ?_
    · exact fun _ _ => rfl
    obtain rfl : r = q := by simpa [h] using hq
    simp [EffectRecord.ended, hs, EffectRecord.faded]

/-! ### Every record changed -/

/-- `t` is `s` with every record of the slots below `n` become what `k` makes of it, and the references that those no longer
make released. -/
structure State.RecordsChange (n : Nat) (k : EffectRecord → Option EffectRecord) (s t : State) : Prop where
  slots : ∀ j : Nat, t.effects.slots[j]? =
    if j < n then s.effects.slots[j]?.map (EffectSlot.change k) else s.effects.slots[j]?
  refs : ∀ g < s.effects.groups.length, (t.group g).refs = (s.group g).refs
    - ((s.effects.slots.take n).map fun e => e.refsTo g - (e.change k).refsTo g).sum
  defined : t.effects.groups.map (·.defined) = s.effects.groups.map (·.defined)
  counters : t.effects.addCounter = s.effects.addCounter ∧ t.effects.touchCounter = s.effects.touchCounter
  outside : ∃ effects, t = { s with effects := effects }

/-- A change of one record after those of the slots before it. -/
theorem State.RecordsChange.next {n : Nat} {k : EffectRecord → Option EffectRecord} {s t u : State}
    (h : s.RecordsChange n k t) (hu : t.RecordChange n k u) : s.RecordsChange (n + 1) k u where
  slots j := by
    rw [hu.slots, List.getElem?_modify, h.slots j]
    rcases Nat.lt_trichotomy j n with hj | rfl | hj
    · simp [hj, Nat.lt_succ_of_lt hj, Nat.ne_of_gt hj]
    · simp
    · simp [Nat.not_lt_of_gt hj, show ¬ j < n + 1 by omega, Nat.ne_of_lt hj]
  refs g hg := by
    have hlen : t.effects.groups.length = s.effects.groups.length := by simpa using congrArg List.length h.defined
    have hn : t.effectSlot n = s.effectSlot n := by
      simp [State.effectSlot, List.getD_eq_getElem?_getD, h.slots n]
    rw [hu.refs g (by omega), h.refs g hg, hn, List.take_add_one, List.map_append, List.sum_append, Nat.sub_sub]
    congr 2
    cases he : s.effects.slots[n]? with
    | none => simp [State.effectSlot, List.getD_eq_getElem?_getD, he, EffectSlot.blank, EffectSlot.refsTo]
    | some e => simp [State.effectSlot_of_getElem? he]
  defined := hu.defined.trans h.defined
  counters := ⟨hu.counters.1.trans h.counters.1, hu.counters.2.trans h.counters.2⟩
  outside := by
    obtain ⟨effects, rfl⟩ := h.outside
    obtain ⟨effects', rfl⟩ := hu.outside
    exact ⟨_, rfl⟩

/-- A pass over the slots that changes each record by `k`. -/
theorem State.recordsChange_forEach {k : EffectRecord → Option EffectRecord} {f : Nat → State → State} {s : State}
    (hf : ∀ i effects, State.RecordChange i k { s with effects := effects } (f i { s with effects := effects }))
    (n : Nat) : s.RecordsChange n k (forEach (List.range n) f s) := by
  induction n with
  | zero => exact ⟨fun j => by simp, fun g _ => by simp, rfl, ⟨rfl, rfl⟩, ⟨_, rfl⟩⟩
  | succ n ih =>
    have hstep : forEach (List.range (n + 1)) f s = f n (forEach (List.range n) f s) := by
      simp [forEach, List.range_succ]
    obtain ⟨effects, heq⟩ := ih.outside
    rw [hstep]
    exact ih.next (heq ▸ hf n effects)

/-- A pass over all the slots, as a list. -/
theorem State.RecordsChange.slots_eq {n : Nat} {k : EffectRecord → Option EffectRecord} {s t : State}
    (h : s.RecordsChange n k t) (hn : s.effects.slots.length ≤ n) :
    t.effects.slots = s.effects.slots.map (EffectSlot.change k) := by
  refine List.ext_getElem? fun j => ?_
  rw [h.slots j, List.getElem?_map]
  split
  · rfl
  · rw [List.getElem?_eq_none (by omega)]; rfl

/-- A pass over all the slots leaves the references that were made less those given up. -/
theorem State.RecordsChange.refs_eq {n : Nat} {k : EffectRecord → Option EffectRecord} {s t : State}
    (h : s.RecordsChange n k t) (hn : s.effects.slots.length ≤ n) {g : Nat} (hg : g < s.effects.groups.length) :
    (t.group g).refs = (s.group g).refs
      - (s.effects.slots.map fun e => e.refsTo g - (e.change k).refsTo g).sum := by
  rw [h.refs g hg, List.take_of_length_le hn]

/-- A pass that frees or fades each record keeps the counts in agreement with the table (R43). -/
theorem State.RecordsChange.refs_follow {n : Nat} {k : EffectRecord → Option EffectRecord} {s t : State}
    (h : s.RecordsChange n k t) (hn : s.effects.slots.length ≤ n) (hk : ∀ e g, (EffectSlot.change k e).refsTo g ≤ e.refsTo g)
    {g : Nat} (hg : g < s.effects.groups.length) (hs : (s.group g).refs = s.refsTo g) : (t.group g).refs = t.refsTo g := by
  rw [h.refs_eq hn hg, hs, State.refsTo_eq_sum, State.refsTo_eq_sum, h.slots_eq hn, List.map_map,
    sum_map_eq_given_add_kept _ (b := EffectSlot.refsTo g) (a := fun e => (EffectSlot.change k e).refsTo g) (hk · g)]
  simp [Function.comp_def]

/-- What a record that is freed, or fades over the end fade, still refers to. -/
theorem EffectRecord.refsTo_ended_le (sh : ShowState) (t : ShowTime) (fade : Nat) (e : EffectSlot) (g : Nat) :
    (e.change (EffectRecord.ended sh t fade)).refsTo g ≤ e.refsTo g := by
  cases hr : e.record with
  | none => rw [EffectSlot.change_of_none hr]
  | some r =>
    rw [EffectSlot.change_of_some hr]
    by_cases hs : r.state = .scheduled
    · simp [EffectSlot.refsTo, EffectRecord.ended, hs]
    · have hat : (r.editAt t).bind (·.fields.group) = r.reserved ∨ (r.editAt t).bind (·.fields.group) = none := by
        unfold EffectRecord.editAt EffectRecord.reserved
        cases r.edit with
        | none => simp
        | some e => by_cases ha : atOrAfter t e.boundary <;> simp [ha]
      simp only [EffectSlot.refsTo, EffectRecord.ended, hs, hr, EffectRecord.faded, EffectRecord.refsTo, if_false,
        Option.map_some, Option.getD_some, EffectRecord.group_settled]
      rcases hat with hat | hat <;> rw [hat]
      · cases hres : r.reserved <;> simp [EffectRecord.reserved]
      · simp [EffectRecord.reserved]

end Sys2Proof.Machine
end

section
/-! PROOF. What the decks' release of their clips does in the Clip Store (R174, R176, R184). -/
namespace Sys2Proof.Machine

/-! ### Releasing a clip (R174) -/

/-- A handle is of the generation of the slot it names (R169). -/
def State.namesClip (s : State) (h : Half) : Prop := handleGen h ≠ 0 ∧ (s.clipSlot (handleSlot h)).gen = handleGen h

theorem State.lookupClip_of_names {s : State} {h : Half} (hn : s.namesClip h) :
    s.lookupClip h = (s.clipSlot (handleSlot h)).clip := by
  obtain ⟨hz, hg⟩ := hn
  exact if_neg (not_or_intro hz (not_not_intro hg))

/-- A handle that finds a clip finds it in the slot it names. -/
theorem State.lookupClip_eq_some {s : State} {h : Half} {c : Clip} :
    s.lookupClip h = some c ↔ s.namesClip h ∧ (s.clipSlot (handleSlot h)).clip = some c := by
  by_cases hz : handleGen h = 0 <;> by_cases hg : (s.clipSlot (handleSlot h)).gen = handleGen h <;>
    simp [State.lookupClip, State.namesClip, hz, hg]

/-- A slot that holds a clip is one of the table's. -/
theorem State.clipSlot_lt_of_some {s : State} {i : Nat} {c : Clip} (h : (s.clipSlot i).clip = some c) :
    i < s.clips.slots.length := by
  by_contra hi
  simp [State.clipSlot, List.getD_eq_getElem?_getD, List.getElem?_eq_none (Nat.le_of_not_lt hi), ClipSlot.blank] at h

/-- A slot without a clip has none to release. -/
theorem ClipSlot.released_of_none {n : Nat} {e : ClipSlot} (h : e.clip = none) : e.released n = e := by
  cases e; simp_all [ClipSlot.released]

/-- Releasing nothing changes nothing, when a RETIRING clip is still held. -/
theorem ClipSlot.released_zero {e : ClipSlot} (h : ∀ c ∈ e.clip, c.state = .retiring → 0 < c.refs) : e.released 0 = e := by
  obtain ⟨gen, _ | c⟩ := e
  · rfl
  · have hc : c.state = .retiring → ¬ c.refs = 0 := fun hr => (h c rfl hr).ne'
    simpa [ClipSlot.released] using hc

/-- Releases one after another are releases all at once. -/
theorem ClipSlot.released_released (a b : Nat) (e : ClipSlot) : (e.released a).released b = e.released (a + b) := by
  obtain ⟨gen, _ | c⟩ := e
  · rfl
  · by_cases hr : c.state = .retiring
    · by_cases ha : c.refs ≤ a
      · simp [ClipSlot.released, hr, ha, Nat.le_add_right_of_le ha]
      · have hb : c.refs - a ≤ b ↔ c.refs ≤ a + b := by omega
        simp [ClipSlot.released, hr, ha, hb, Nat.sub_sub]
    · simp [ClipSlot.released, hr, Nat.sub_sub]

/-- A release leaves a clip with its count down by one, or, when it was the last of a RETIRING clip, frees it. -/
theorem State.clipSlot_releaseClip {s : State} {h : Half} (hn : s.namesClip h) (j : Nat) :
    (s.releaseClip h).clipSlot j = if handleSlot h = j then (s.clipSlot j).released 1 else s.clipSlot j := by
  unfold State.releaseClip
  rw [State.lookupClip_of_names hn]
  cases hc : (s.clipSlot (handleSlot h)).clip with
  | none =>
    by_cases hj : handleSlot h = j
    · subst hj; simp [ClipSlot.released_of_none hc]
    · simp [hj]
  | some c =>
    have hlt := State.clipSlot_lt_of_some hc
    by_cases hf : c.state = .retiring ∧ c.refs ≤ 1
    · have hread : ((s.freeClip (handleSlot h)).clipSlot j) =
          (s.modifyClipSlot (handleSlot h) fun e => { e with clip := none }).clipSlot j := rfl
      simp only [hf, and_self, if_true, hread, State.clipSlot_modifyClipSlot]
      by_cases hj : handleSlot h = j
      · subst hj; simp [hlt, ClipSlot.released, hc, hf]
      · simp [hj]
    · simp only [hf, if_false, State.clipSlot_modifyClipSlot]
      by_cases hj : handleSlot h = j
      · subst hj; simp [hlt, ClipSlot.released, hc, hf]
      · simp [hj]

/-- Each page of `s` is free in `t` exactly when it was free or its clip has been freed. -/
def State.pagesFollow (s t : State) : Prop := ∀ p, t.clips.owner.getD p none =
  (s.clips.owner.getD p none).bind fun i => if (t.clipSlot i).clip.isSome then some i else none

/-- A release frees a clip's pages with it. -/
theorem State.pagesFollow.releaseClip {s t : State} (hp : s.pagesFollow t) (h : Half) : s.pagesFollow (t.releaseClip h) := by
  unfold State.releaseClip
  split
  · exact hp
  next c hc =>
  obtain ⟨hn, hc⟩ := State.lookupClip_eq_some.1 hc
  have hlt := State.clipSlot_lt_of_some hc
  split
  · intro p
    have howner : (t.freeClip (handleSlot h)).clips.owner.getD p none =
        (t.clips.owner.getD p none).bind fun i => if i = handleSlot h then none else some i := by
      simp only [State.freeClip, State.modifyClipSlot, List.getD_eq_getElem?_getD, List.getElem?_map]
      rcases t.clips.owner[p]? with _ | _ | i <;> simp
    have hread (i : Nat) : (t.freeClip (handleSlot h)).clipSlot i =
        (t.modifyClipSlot (handleSlot h) fun e => { e with clip := none }).clipSlot i := rfl
    rw [howner, hp p]
    rcases s.clips.owner.getD p none with _ | i
    · rfl
    · simp only [hread, State.clipSlot_modifyClipSlot, Option.bind_some]
      by_cases hi : i = handleSlot h
      · subst hi; simp [hlt, hc]
      · simp only [Ne.symm hi, false_and, if_false]
        cases (t.clipSlot i).clip <;> simp [hi]
  · intro p
    have hsome (i : Nat) : ((t.modifyClipSlot (handleSlot h) fun e =>
        { e with clip := e.clip.map fun c => { c with refs := c.refs - 1 } }).clipSlot i).clip.isSome =
        (t.clipSlot i).clip.isSome := by
      rw [State.clipSlot_modifyClipSlot]
      split <;> simp
    simp only [hsome]
    exact hp p

/-- A release touches the clip table and the page owners alone. -/
theorem State.releaseClip_eq (h : Half) (s : State) :
    ∃ slots owner, s.releaseClip h = { s with clips := { s.clips with slots := slots, owner := owner } }
      ∧ slots.map (·.gen) = s.clips.slots.map (·.gen) ∧ owner.length = s.clips.owner.length := by
  unfold State.releaseClip
  split
  · exact ⟨_, _, rfl, rfl, rfl⟩
  · split
    · exact ⟨_, _, rfl, map_modify_of_same _ _ fun _ => rfl, by simp⟩
    · exact ⟨_, _, rfl, map_modify_of_same _ _ fun _ => rfl, rfl⟩

theorem State.releaseHeld_eq (d : Nat) (s : State) :
    ∃ slots owner, s.releaseHeld d = { s with clips := { s.clips with slots := slots, owner := owner } }
      ∧ slots.map (·.gen) = s.clips.slots.map (·.gen) ∧ owner.length = s.clips.owner.length := by
  unfold State.releaseHeld
  split
  · exact s.releaseClip_eq _
  · exact ⟨_, _, rfl, rfl, rfl⟩

/-- A slot's generation, read from the list of all. -/
theorem State.gen_clipSlot (s : State) (i : Nat) : (s.clipSlot i).gen = (s.clips.slots.map (·.gen)).getD i 0 := by
  simp only [State.clipSlot, List.getD_eq_getElem?_getD, List.getElem?_map]
  cases s.clips.slots[i]? <;> rfl

/-- States with the same generations name the same slots. -/
theorem State.namesClip_congr {s t : State} (h : t.clips.slots.map (·.gen) = s.clips.slots.map (·.gen)) (x : Half) :
    t.namesClip x ↔ s.namesClip x := by
  simp only [State.namesClip, State.gen_clipSlot, h]

/-! ### The decks at the entry into STOPPED (R184) -/

/-- A sounding deck becomes EMPTY at the entry into STOPPED; what it gave in the period stays. -/
def Deck.stopped (k : Deck) : Deck := if k.sounding then { Deck.blank with given := k.given } else k

theorem State.stopDeck_eq (d : Nat) (s : State) :
    ∃ slots owner, s.stopDeck d = { s with
        clips := { s.clips with slots := slots, owner := owner }
        decks := { s.decks with table := s.decks.table.modify d Deck.stopped } }
      ∧ slots.map (·.gen) = s.clips.slots.map (·.gen) ∧ owner.length = s.clips.owner.length := by
  have hread {k : Deck} (hk : s.decks.table[d]? = some k) : s.deck d = k := by
    simp [State.deck, List.getD_eq_getElem?_getD, hk]
  unfold State.stopDeck State.emptyDeck
  split
  · next hs =>
    obtain ⟨slots, owner, heq, hgen, hlen⟩ := s.releaseHeld_eq d
    refine ⟨slots, owner, ?_, hgen, hlen⟩
    have htable : s.decks.table.modify d (fun k => { Deck.blank with given := k.given }) =
        s.decks.table.modify d Deck.stopped :=
      modify_congr_of_entry fun k hk => by simp [Deck.stopped, ← hread hk, hs]
    rw [heq, ← htable]
    rfl
  · next hs =>
    refine ⟨s.clips.slots, s.clips.owner, ?_, rfl, rfl⟩
    rw [modify_eq_of_entry fun k hk => by simp [Deck.stopped, ← hread hk, hs]]

/-- Whether a deck sounds from the clip of slot `i`. -/
def Deck.soundsFrom (i : Nat) (k : Deck) : Bool := k.sounding && decide (k.clip.map handleSlot = some i)

/-- A deck's stop releases its clip once, if it sounds from one. -/
theorem State.clipSlot_stopDeck {s : State} {d : Nat} (hn : ∀ h ∈ (s.deck d).clip, s.namesClip h) (i : Nat) :
    (s.stopDeck d).clipSlot i =
      if (s.deck d).soundsFrom i then (s.clipSlot i).released 1 else s.clipSlot i := by
  have hempty : (s.emptyDeck d).clipSlot i = (s.releaseHeld d).clipSlot i := rfl
  unfold State.stopDeck Deck.soundsFrom
  cases hs : (s.deck d).sounding with
  | false => simp
  | true =>
    simp only [if_true, hempty, State.releaseHeld]
    cases hc : (s.deck d).clip with
    | none => simp
    | some h => simp [State.clipSlot_releaseClip (hn h hc)]

theorem State.pagesFollow.stopDeck {s t : State} (hp : s.pagesFollow t) (d : Nat) : s.pagesFollow (t.stopDeck d) := by
  unfold State.stopDeck State.emptyDeck State.releaseHeld
  split
  · split
    · exact hp.releaseClip _
    · exact hp
  · exact hp

/-- In a state of the clip invariant each deck's handle names its clip's slot (R176). -/
theorem State.clipsOk.names {s : State} (hs : s.clipsOk) (d : Nat) : ∀ h ∈ (s.deck d).clip, s.namesClip h := by
  obtain ⟨-, -, -, hdecks, -⟩ := hs
  intro h hh
  have hmem : s.deck d ∈ s.decks.table := by
    by_contra hd
    have hnone : s.decks.table[d]? = none := by
      by_contra hx
      obtain ⟨k, hk⟩ := Option.ne_none_iff_exists'.1 hx
      refine hd ?_
      simpa [State.deck, List.getD_eq_getElem?_getD, hk] using List.mem_of_getElem? hk
    simp [State.deck, List.getD_eq_getElem?_getD, hnone, Deck.blank] at hh
  obtain ⟨c, hc⟩ := Option.isSome_iff_exists.1 ((hdecks _ hmem).2 h hh)
  exact (State.lookupClip_eq_some.1 hc).1

/-- In a state of the clip invariant an owned page's clip is in the table (R168). -/
theorem State.clipsOk.pagesFollow_self {s : State} (hs : s.clipsOk) : s.pagesFollow s := by
  obtain ⟨⟨-, -, -, -, -, -, -, -, -, -, -, -, hlen, -⟩, -, hpages, -⟩ := hs
  intro p
  cases hp : s.clips.owner.getD p none with
  | none => rfl
  | some i =>
    have hlt : p < 2048 := by
      by_contra hge
      simp [List.getD_eq_getElem?_getD, List.getElem?_eq_none (show s.clips.owner.length ≤ p by omega)] at hp
    obtain ⟨c, hc, -⟩ := hpages p hlt i hp
    simp [Option.mem_def.1 hc]

/-- A table of two decks. -/
theorem State.deckTable_eq {s : State} (h : s.decks.table.length = 2) : s.decks.table = [s.deck 0, s.deck 1] := by
  obtain ⟨a, b, hab⟩ := List.length_eq_two.1 h
  simp [State.deck, hab]

/-- Both decks' stop releases each clip as often as a deck sounds from it. -/
theorem State.clipsReleased_stopDecks {s : State} (hs : s.clipsOk) :
    s.clipsReleased (forEach [0, 1] State.stopDeck s) := by
  have hlen : s.decks.table.length = 2 := by
    obtain ⟨⟨-, -, -, -, -, -, -, -, -, -, -, -, -, hlen, -⟩, -⟩ := hs
    exact hlen
  refine ⟨fun i hi => ?_, fun p _ => (hs.pagesFollow_self.stopDeck 0).stopDeck 1 p⟩
  obtain ⟨slots, owner, heq, hgen, -⟩ := s.stopDeck_eq 0
  have hone : (s.stopDeck 0).deck 1 = s.deck 1 := by
    rw [heq]
    simp [State.deck]
  have hnames : ∀ h ∈ ((s.stopDeck 0).deck 1).clip, (s.stopDeck 0).namesClip h := fun h hh => by
    rw [hone] at hh
    exact (State.namesClip_congr (by rw [heq]; exact hgen) h).2 (hs.names 1 h hh)
  have hcount : s.soundingHolders i =
      (if (s.deck 0).soundsFrom i then 1 else 0) + if (s.deck 1).soundsFrom i then 1 else 0 := by
    unfold State.soundingHolders
    rw [State.deckTable_eq hlen]
    change (([s.deck 0, s.deck 1]).filter (Deck.soundsFrom i)).length = _
    cases h0 : (s.deck 0).soundsFrom i <;> cases h1 : (s.deck 1).soundsFrom i <;> simp [List.filter, h0, h1]
  have hheld : ∀ c ∈ (s.clipSlot i).clip, c.state = .retiring → 0 < c.refs := fun c hc hr => by
    obtain ⟨-, hclips, -⟩ := hs
    obtain ⟨-, -, -, -, -, -, -, -, -, hpos⟩ := hclips i hi c hc
    exact hpos hr
  rw [forEach_cons, forEach_cons, forEach_nil, State.clipSlot_stopDeck hnames, State.clipSlot_stopDeck (hs.names 0),
    hone, hcount]
  cases (s.deck 0).soundsFrom i <;> cases (s.deck 1).soundsFrom i <;>
    simp [ClipSlot.released_zero hheld, ClipSlot.released_released]

/-! ### A deck's frame and position steps (R181) -/

/-- Whether a deck finds its frame not loaded yet. -/
def State.starves (d : Nat) (s : State) : Bool := decide (s.deckPrefix d ≤ (s.deck d).position)

/-- What a playing deck gives for the period. -/
def State.deckGives (d : Nat) (s : State) : Stereo :=
  match s.deckClip d with
  | some c =>
    if s.starves d then Stereo.zero else deckContribution (c.frame s.clips.memory (s.deck d).position) (s.deck d).gain
  | none => Stereo.zero

/-- A playing deck after its frame and one step of its position, before its end is seen. -/
def State.playedDeck (d : Nat) (s : State) : State :=
  (s.raiseIf (s.starves d && decide ((s.deck d).state = .playing)) .deckStarved).modifyDeck d fun k =>
    { k with state := if s.starves d then .starved else .playing
             position := k.position + 1
             given := s.deckGives d }

theorem State.playDeck_eq (d : Nat) (s : State) : s.playDeck d =
    if (s.deck d).state = .playing ∨ (s.deck d).state = .starved then
      if (s.deck d).position + 1 = (s.playedDeck d).deckLength d then (s.playedDeck d).endDeckNow d else s.playedDeck d
    else s := rfl

end Sys2Proof.Machine
end

section
/-! PROOF. The entries into STOPPED and ENDING as a whole (R6, R10, R49, R50, R184). -/
namespace Sys2Proof.Machine

/-! ### The effect table at the entry into STOPPED (R50) -/

/-- A freed slot keeps its generation and no record. -/
theorem EffectSlot.change_free (e : EffectSlot) : e.change (fun _ => none) = { e with record := none } := by
  cases h : e.record <;> simp [EffectSlot.change, h]

theorem EffectSlot.refsTo_freed (g : Nat) (e : EffectSlot) : (e.change fun _ => none).refsTo g = 0 := by
  rw [EffectSlot.change_free]; rfl

/-- The effect table cleared, slot by slot and group by group (R50). -/
theorem State.clearEffects_eq {s : State} (hz : s.sized) : ∃ slots groups,
    s.clearEffects = { s with effects := ⟨slots, groups, 0, 0⟩ }
      ∧ slots = s.effects.slots.map (fun e => { e with record := none })
      ∧ groups.map (·.defined) = s.effects.groups.map (·.defined)
      ∧ ∀ g < 64, (groups.getD g Group.blank).refs = (s.group g).refs - s.refsTo g := by
  obtain ⟨hslots, hgroups, -⟩ := hz
  have hfree := State.recordsChange_forEach (s := s) (fun i _ => State.freeRecord_change i _) 256
  obtain ⟨⟨slots, groups, addCounter, touchCounter⟩, heq⟩ := hfree.outside
  have hlist := hfree.slots_eq (by omega)
  have hrefs := fun g (hg : g < 64) => hfree.refs_eq (g := g) (by omega) (by omega)
  have hdef := hfree.defined
  rw [heq] at hlist hrefs hdef
  refine ⟨slots, groups, by unfold State.clearEffects; rw [heq], ?_, hdef, fun g hg => (hrefs g hg).trans ?_⟩
  · exact hlist.trans (congrArg (List.map · s.effects.slots) (funext EffectSlot.change_free))
  · rw [State.refsTo_eq_sum]
    simp [EffectSlot.refsTo_freed]

/-- Clearing the effect table keeps the sizes of all tables. -/
theorem State.clearEffects_sized {s : State} (hz : s.sized) : s.clearEffects.sized := by
  obtain ⟨slots, groups, heq, hslots, hdef, -⟩ := State.clearEffects_eq hz
  obtain ⟨hs, hg, hrest⟩ := hz
  rw [heq]
  exact ⟨by simp [hslots, hs], by simpa [hg] using congrArg List.length hdef, hrest⟩

/-! ### STOPPED -/

/-- Both decks at the entry into STOPPED (R184). -/
theorem State.stopDecks_eq {s : State} (h : s.decks.table.length = 2) : ∃ slots owner,
    forEach [0, 1] State.stopDeck s = { s with
        clips := { s.clips with slots := slots, owner := owner }
        decks := { s.decks with table := s.decks.table.map Deck.stopped } }
      ∧ slots.map (·.gen) = s.clips.slots.map (·.gen) ∧ owner.length = s.clips.owner.length := by
  obtain ⟨slots, owner, h0, hgen, hlen⟩ := s.stopDeck_eq 0
  obtain ⟨slots', owner', h1, hgen', hlen'⟩ := (s.stopDeck 0).stopDeck_eq 1
  refine ⟨slots', owner', ?_, hgen'.trans (by rw [h0]; exact hgen), hlen'.trans (by rw [h0]; exact hlen)⟩
  have htable : s.decks.table.map Deck.stopped = (s.decks.table.modify 0 Deck.stopped).modify 1 Deck.stopped := by
    rw [State.deckTable_eq h]; rfl
  rw [forEach_cons, forEach_cons, forEach_nil, h1, h0, htable]

/-- The entry into STOPPED, said as what it makes of the state its decks' stop leaves. -/
theorem State.enterStopped_eq {s u : State} (h : s.timer.showState ≠ .stopped)
    (hu : forEach [0, 1] State.stopDeck s.clearEffects = u) : s.enterStopped = State.enterShow .stopped
      { u.clearSilence with timer := { u.timer with clock := 0, grid := none, endTime := none } } := by
  unfold State.enterStopped
  rw [if_neg h]
  dsimp only
  rw [hu]
  rfl

/-- A cause that finds the show STOPPED is no entry (R6). -/
theorem State.enterStopped_of_stopped {s : State} (h : s.timer.showState = .stopped) : s.enterStopped = s := by
  unfold State.enterStopped; rw [if_pos h]

/-- The entry into STOPPED from another show state (R6, R50, R184). -/
theorem State.enterStopped_stopsAs {s : State} (hz : s.sized) (h : s.timer.showState ≠ .stopped) :
    s.stopsAs s.enterStopped := by
  have hdecks : s.decks.table.length = 2 := by
    obtain ⟨-, -, -, -, -, -, -, -, -, -, -, -, -, hdecks, -⟩ := hz
    exact hdecks
  obtain ⟨slots, groups, hcleared, hslots, hdef, hrefs⟩ := State.clearEffects_eq hz
  obtain ⟨cslots, owner, hstopped, -, -⟩ := State.stopDecks_eq (s := s.clearEffects) (by rw [hcleared]; exact hdecks)
  have hclips : s.clipsOk → s.clipsReleased (forEach [0, 1] State.stopDeck s.clearEffects) := fun ⟨_, hs⟩ => by
    have hreleased := State.clipsReleased_stopDecks (s := s.clearEffects)
      ⟨State.clearEffects_sized hz, by rw [hcleared]; exact hs⟩
    rwa [hcleared] at hreleased ⊢
  rw [State.enterStopped_eq h hstopped]
  rw [hstopped, hcleared] at hclips
  rw [hcleared]
  exact ⟨rfl, hslots, rfl, rfl, hdef, hrefs, rfl, rfl, hclips, rfl, rfl, rfl, rfl, rfl, rfl, rfl, rfl, rfl, rfl⟩

/-! ### ENDING -/

/-- The entry into ENDING, said as what it makes of the state the pass over the records leaves. -/
theorem State.enterEnding_eq {s u : State} {fade : Nat}
    (hu : forEach (List.range 256) (State.endRecord s.timer.clock fade) s = u) : s.enterEnding fade =
      State.enterShow .ending { u.clearSilence with
        decks := { u.decks with table := u.decks.table.map (endDeck fade) }
        timer := { u.timer with endTime := some (after s.timer.clock fade) } } := by
  unfold State.enterEnding
  dsimp only
  rw [hu]
  rfl

/-- The entry into ENDING from a RUNNING or HELD show (R10, R49, R184). -/
theorem State.enterEnding_endsAs {s : State} (hz : s.sized) (fade : Nat) : s.endsAs fade (s.enterEnding fade) := by
  obtain ⟨hslots, hgroups, -⟩ := hz
  have hend := State.recordsChange_forEach (s := s) (f := State.endRecord s.timer.clock fade)
    (k := EffectRecord.ended s.timer.showState s.timer.clock fade)
    (fun i effects => State.endRecord_change s.timer.clock fade i { s with effects := effects }) 256
  obtain ⟨effects, heq⟩ := hend.outside
  have hlist := hend.slots_eq (by omega)
  have hfollow : s.refsFollow (forEach (List.range 256) (State.endRecord s.timer.clock fade) s) :=
    fun ⟨_, hs, _⟩ g hg =>
      hend.refs_follow (by omega) (EffectRecord.refsTo_ended_le _ _ _) (by omega) (hs g hg)
  have hdef := hend.defined
  have hcounters := hend.counters
  rw [State.enterEnding_eq heq]
  rw [heq] at hlist hfollow hdef hcounters
  exact ⟨rfl, hlist, hcounters.1, hcounters.2, hdef, hfollow, rfl, rfl, rfl, rfl, rfl, rfl, rfl, rfl, rfl, rfl, rfl, rfl⟩

end Sys2Proof.Machine
end

section
/-! PROOF. Show time (chapter 1): the commands that change the show state, the end of a show and the next beat. -/
namespace Sys2Proof.Machine

/-! ### A command taken by a ready link -/

/-- A ready link carries the command out on the state with its transfer taken, and queues the answer. -/
theorem takeCommand_of_ready {h : Handler} {s : State} (hs : s.ready) :
    takeCommand h s = (h s.transferTaken).1.pushReply (h s.transferTaken).2 :=
  takeCommand_of_can (canTake_iff.2 hs)

/-- An accepted command on a ready link. -/
theorem takeCommand_accept {f : State → State} {payload : State → List Byte} {s : State} (hs : s.ready) :
    takeCommand (accept f payload) s = (f s.transferTaken).pushReply ⟨.ok, payload (f s.transferTaken)⟩ :=
  takeCommand_of_ready hs

/-- A command whose only check is `failed`, on a ready link. -/
theorem takeCommand_checked {failed : State → Bool} {code : ResultCode} {go : Handler} {s : State} (hs : s.ready) :
    takeCommand (fun s => checked [(failed s, code)] go s) s =
      if failed s.transferTaken then s.answered code [] else takeCommand go s := by
  rw [takeCommand_of_ready hs]
  cases hf : failed s.transferTaken
  · simp [checked_of_none, firstFailure, takeCommand_of_ready hs]
  · rw [checked_of_some go (c := code) _ (by simp [firstFailure])]
    rfl

/-- A state whose transfer is taken already answers as the reply alone. -/
theorem State.pushReply_eq_answered {t : State} (ht : t.link.transfer = none) (hs : t.link.silence = 0) (c : ResultCode)
    (p : List Byte) : t.pushReply ⟨c, p⟩ = t.answered c p := by
  obtain ⟨_, _, _, _, _, _, _, _, _, _, _, _, ⟨_, _, _, _, _, _, _, _, _, _, _, _⟩, _⟩ := t
  cases ht
  cases hs
  rfl

/-! ### Commands that end the show -/

/-- On a ready link the taking of a transfer clears the silence timer alone. -/
theorem State.link_raise_transferTaken {s : State} (hs : s.ready) (e : Event) :
    { (s.transferTaken.raise e).link with silence := 0 } = { (s.raise e).link with silence := 0 } := by
  obtain ⟨-, htransfer, -⟩ := hs
  simp [htransfer]

/-- The taking of its transfer does not show in what an entry into STOPPED leaves. -/
theorem State.stopsAs_of_transferTaken {s t : State} (hs : s.ready) (h : s.transferTaken.stopsAs t) : s.stopsAs t := by
  obtain ⟨htimer, hslots, hadd, htouch, hdef, hrefs, hdecks, hmemory, hclips, hlink, hrest⟩ := h
  exact ⟨htimer, hslots, hadd, htouch, hdef, hrefs, hdecks, hmemory, hclips,
    hlink.trans (State.link_raise_transferTaken hs _), hrest⟩

theorem State.endsAs_of_transferTaken {s t : State} {fade : Nat} (hs : s.ready) (h : s.transferTaken.endsAs fade t) :
    s.endsAs fade t := by
  obtain ⟨htimer, hslots, hadd, htouch, hdef, hrefs, hdecks, hclips, hlink, hrest⟩ := h
  exact ⟨htimer, hslots, hadd, htouch, hdef, hrefs, hdecks, hclips,
    hlink.trans (State.link_raise_transferTaken hs _), hrest⟩

/-- A taken command that enters STOPPED. -/
theorem State.answered_of_stopsAs {s t : State} (h : s.transferTaken.stopsAs t) : t.pushReply ⟨.ok, []⟩ = t.answered .ok [] := by
  obtain ⟨-, -, -, -, -, -, -, -, -, hlink, -⟩ := h
  exact State.pushReply_eq_answered (by rw [hlink]; rfl) (by rw [hlink]) _ _

theorem State.answered_of_endsAs {s t : State} {fade : Nat} (h : s.transferTaken.endsAs fade t) :
    t.pushReply ⟨.ok, []⟩ = t.answered .ok [] := by
  obtain ⟨-, -, -, -, -, -, -, -, hlink, -⟩ := h
  exact State.pushReply_eq_answered (by rw [hlink]; rfl) (by rw [hlink]) _ _

/-- A fade of 0 ends the show with the entry into STOPPED, another with the entry into ENDING (R10). -/
theorem State.endShow_zero (s : State) : s.endShow 0 = s.enterStopped := by unfold State.endShow; rw [if_pos rfl]

theorem State.endShow_pos {ms : Nat} (h : 0 < ms) (s : State) : s.endShow ms = s.enterEnding (ms * 48) := by
  unfold State.endShow periodsOfMs; rw [if_neg (Nat.ne_of_gt h)]

/-- A show that is RUNNING or HELD is not STOPPED. -/
theorem State.not_stopped_of_runningOrHeld {s : State} (h : s.runningOrHeld = true) : s.timer.showState ≠ .stopped := by
  intro hs
  simp [State.runningOrHeld, hs] at h

/-- Settles O7: the entries into STOPPED and ENDING, after the transfer is taken. -/
theorem showEndOutcomes : Obligations.ShowEndOutcomes := by
  unfold Obligations.ShowEndOutcomes
  intro fade s hs hz ms
  have hexec : exec (.showEnd fade) s = .next (if s.runningOrHeld = false then s.answered .wrongShowState []
      else (s.transferTaken.endShow ms).pushReply ⟨.ok, []⟩) := by
    refine (congrArg Host.Outcome.next (takeCommand_checked hs)).trans ?_
    rw [takeCommand_accept hs]
    congr 1
    have hr : s.transferTaken.runningOrHeld = s.runningOrHeld := rfl
    rw [hr]
    cases s.runningOrHeld <;> rfl
  refine ⟨fun hr => ?_, fun hr hms => ?_, fun hr hms => ?_⟩ <;> rw [hexec]
  · rw [if_pos hr]
  · have hstops := State.enterStopped_stopsAs (s := s.transferTaken) hz (State.not_stopped_of_runningOrHeld hr)
    refine ⟨s.transferTaken.enterStopped, ?_, State.stopsAs_of_transferTaken hs hstops⟩
    rw [hms, State.endShow_zero, State.answered_of_stopsAs hstops]
    simp [hr]
  · have hends := State.enterEnding_endsAs (s := s.transferTaken) hz (ms * 48)
    refine ⟨s.transferTaken.enterEnding (ms * 48), ?_, State.endsAs_of_transferTaken hs hends⟩
    rw [State.endShow_pos hms, State.answered_of_endsAs hends]
    simp [hr]

/-- Settles O8: the entry into STOPPED, after the transfer is taken. -/
theorem showStopOutcomes : Obligations.ShowStopOutcomes := by
  unfold Obligations.ShowStopOutcomes
  intro s hs hz
  have hexec : exec .showStop s = .next (s.transferTaken.enterStopped.pushReply ⟨.ok, []⟩) :=
    congrArg Host.Outcome.next (takeCommand_accept hs)
  refine ⟨fun hstopped => ?_, fun hne => ?_⟩ <;> rw [hexec]
  · rw [State.enterStopped_of_stopped (s := s.transferTaken) hstopped]
    rfl
  · have hstops := State.enterStopped_stopsAs (s := s.transferTaken) hz hne
    exact ⟨_, by rw [State.answered_of_stopsAs hstops], State.stopsAs_of_transferTaken hs hstops⟩

/-! ### Events that end the show -/

theorem State.atEndTime_iff {s : State} :
    s.atEndTime = true ↔ s.timer.showState = .ending ∧ s.timer.endTime = some s.timer.clock := by
  simp [State.atEndTime]

theorem State.silenceExpired_iff {s : State} : s.silenceExpired = true ↔
    s.runningOrHeld = true ∧ 0 < s.link.timeout ∧ s.link.timeout * 48000 ≤ s.link.silence := by
  simp [State.silenceExpired, State.silenceCounts, and_assoc]

theorem State.takeEndTime_of_reached {s : State} (h : s.atEndTime = true) : s.takeEndTime = s.enterStopped := by
  unfold State.takeEndTime; rw [if_pos h]

theorem State.takeEndTime_of_not {s : State} (h : s.atEndTime = false) : s.takeEndTime = s := by
  unfold State.takeEndTime; rw [h]; rfl

theorem State.takeSilence_of_expired {s : State} (h : s.silenceExpired = true) :
    s.takeSilence = (s.endShow s.timer.storedFade).raise .linkSilence := by
  unfold State.takeSilence; rw [if_pos h]

theorem State.takeSilence_of_not {s : State} (h : s.silenceExpired = false) : s.takeSilence = s := by
  unfold State.takeSilence; rw [h]; rfl

/-- Settles O9: each event is taken exactly when its figure is reached. -/
theorem endTimeAndSilence : Obligations.EndTimeAndSilence := by
  unfold Obligations.EndTimeAndSilence
  intro s hz
  have hend : exec .endTimeReached s = .next s.takeEndTime := rfl
  have hsilence : exec .silenceTimerExpiry s = .next s.takeSilence := rfl
  refine ⟨fun hs ht => ⟨_, ?_, State.enterStopped_stopsAs hz (by simp [hs])⟩, fun hn => ?_, fun hr h0 hle => ?_, fun hn => ?_⟩
  · rw [hend, State.takeEndTime_of_reached (State.atEndTime_iff.2 ⟨hs, ht⟩)]
  · rw [hend, State.takeEndTime_of_not]
    rw [← Bool.not_eq_true, State.atEndTime_iff]
    tauto
  · rw [hsilence, State.takeSilence_of_expired (State.silenceExpired_iff.2 ⟨hr, h0, hle⟩)]
    refine ⟨fun hf => ⟨s.enterStopped, ?_, ?_⟩, fun hf => ⟨s.enterEnding (s.timer.storedFade * 48), ?_, ?_⟩⟩
    · rw [hf, State.endShow_zero]
    · exact State.enterStopped_stopsAs hz (State.not_stopped_of_runningOrHeld hr)
    · rw [State.endShow_pos hf]
    · exact State.enterEnding_endsAs hz _
  · rw [hsilence, State.takeSilence_of_not]
    rw [← Bool.not_eq_true, State.silenceExpired_iff]
    rintro ⟨hr, h0, hle⟩
    rcases hn with hn | hn | hn
    · simp [hn] at hr
    · omega
    · omega

/-- Settles O10: an assertion is the latch, the bit and the entry into STOPPED. -/
theorem emergencyStopStopsTheSite : Obligations.EmergencyStopStopsTheSite := by
  unfold Obligations.EmergencyStopStopsTheSite
  intro s hz u
  have htaken (h : s.due.stop = true ∨ s.pins.stop = false) : exec .emergencyStopAssertion s = .next u.enterStopped :=
    congrArg Host.Outcome.next (if_pos h)
  refine ⟨fun h hs => ?_, fun h hs => ⟨_, htaken h, State.enterStopped_stopsAs (s := u) hz hs⟩, fun hd hp => ?_⟩
  · rw [htaken h, State.enterStopped_of_stopped (s := u) hs]
  · exact congrArg Host.Outcome.next (if_neg (by simp [hd, hp]))

/-! ### SHOW_START, SHOW_HOLD and SHOW_RESUME -/

/-- Settles O6: each command by its checks. -/
theorem showCommandOutcomes : Obligations.ShowCommandOutcomes := by
  unfold Obligations.ShowCommandOutcomes
  intro s hs
  refine ⟨?_, ?_, ?_⟩
  · refine congrArg Host.Outcome.next ((takeCommand_of_ready hs).trans ?_)
    by_cases hstopped : s.timer.showState = .stopped
    · cases hlatch : s.site.stopLatch
      · simp [handleShowStart, checked, firstFailure, hstopped, hlatch]
        rfl
      · simp [handleShowStart, checked, firstFailure, hstopped, hlatch]
        rfl
    · simp [handleShowStart, checked, firstFailure, hstopped]
      rfl
  · refine congrArg Host.Outcome.next ((takeCommand_checked hs).trans ?_)
    by_cases h : s.timer.showState = .running
    · rw [if_neg (by simp [h]), if_pos h, takeCommand_accept hs]
      rfl
    · rw [if_pos (by simp [h]), if_neg h]
  · refine congrArg Host.Outcome.next ((takeCommand_checked hs).trans ?_)
    by_cases h : s.timer.showState = .held
    · rw [if_neg (by simp [h]), if_pos h, takeCommand_accept hs]
      rfl
    · rw [if_pos (by simp [h]), if_neg h]

/-! ### The next beat (R15) -/

theorem atOrAfter_iff {a b : ShowTime} : atOrAfter a b = true ↔ (a - b).toNat < 2147483648 := by simp [atOrAfter]

/-- Beats come no closer than one sample period, so the beat of the least index at or after `d` periods is fewer than
ceil(P / 256) periods after it. -/
theorem leastBeat_bounds {d P : Nat} (hP : 256 ≤ P) (hd : 1 ≤ d) :
    let k := ceilDiv (d * 256) P
    (∀ j < k, j * P / 256 < d) ∧ d ≤ k * P / 256 ∧ k * P / 256 < d + ceilDiv P 256 ∧ k * P < d * 256 + P := by
  intro k
  have hk : d * 256 ≤ k * P := (ceilDiv_le_iff (by omega)).1 (Nat.le_refl k)
  have hpos : 1 ≤ k := Nat.one_le_iff_ne_zero.2 fun h0 => by rw [h0] at hk; omega
  have hbefore : (k - 1) * P < d * 256 := by
    by_contra hge
    have := (ceilDiv_le_iff (n := d * 256) (k := k - 1) (by omega)).2 (Nat.le_of_not_lt hge)
    omega
  have hstep : k * P = (k - 1) * P + P := by
    conv_lhs => rw [← Nat.sub_add_cancel hpos, Nat.add_mul, Nat.one_mul]
  have hceil : P ≤ ceilDiv P 256 * 256 := (ceilDiv_le_iff (by omega)).1 (Nat.le_refl _)
  refine ⟨fun j hj => ?_, by omega, by omega, by omega⟩
  have : j * P ≤ (k - 1) * P := Nat.mul_le_mul_right P (by omega)
  omega

/-- Settles O11: the least index is a quotient rounded up, and its beat lies within one beat of `t`. -/
theorem nextBeatIsTheLeastBeat : Obligations.NextBeatIsTheLeastBeat := by
  unfold Obligations.NextBeatIsTheLeastBeat
  refine ⟨fun s h => by simp [State.beatTime, h], fun s g h => by simp [State.beatTime, h], fun g t hP => ?_⟩
  have hPlt : g.period.toNat < 2 ^ 32 := g.period.isLt
  have hbeat (h : atOrAfter g.anchor t = false) :
      nextBeat g t = g.anchor + BitVec.ofNat 32 (ceilDiv ((t - g.anchor).toNat * 256) g.period.toNat * g.period.toNat / 256) := by
    simp [nextBeat, h, after]
  have hfar (h : atOrAfter g.anchor t = false) : 1 ≤ (t - g.anchor).toNat ∧ (t - g.anchor).toNat ≤ 2147483648 := by
    rw [← Bool.not_eq_true, atOrAfter_iff] at h
    bv_omega
  have hafter (h : atOrAfter g.anchor t = false) (b : Nat) (hb : (t - g.anchor).toNat ≤ b) (hlt : b < 2 ^ 32) :
      (g.anchor + BitVec.ofNat 32 b - t).toNat = b - (t - g.anchor).toNat := by
    bv_omega
  refine ⟨fun h => by simp [nextBeat, h], fun h => ?_, fun hmin h => ?_⟩
  · obtain ⟨h1, h2⟩ := hfar h
    obtain ⟨hleast, hreach, hnear, hprod⟩ := leastBeat_bounds hP h1
    have hceil : ceilDiv g.period.toNat 256 ≤ 2 ^ 24 := (ceilDiv_le_iff (by omega)).2 (by omega)
    have htoNat := hafter h _ hreach (by omega)
    rw [← hbeat h] at htoNat
    exact ⟨h1, h2, by omega, by omega, hbeat h, hleast, hreach, atOrAfter_iff.2 (by omega), by omega⟩
  · have hk : ceilDiv ((t - g.anchor).toNat * 256) 256 = (t - g.anchor).toNat := by
      unfold ceilDiv; omega
    rw [hbeat h, hmin, hk, Nat.mul_div_cancel _ (by omega)]
    bv_omega

end Sys2Proof.Machine
end

section
/-! PROOF. The queries (Table 12-8) and the settings that one command replaces. -/
namespace Sys2Proof.Machine

/-- A query with a single check. -/
theorem takeCommand_query {failed : State → Bool} {code : ResultCode} {payload : State → List Byte} {s : State}
    (hs : s.ready) : takeCommand (fun s => checked [(failed s, code)] (accept id payload) s) s =
      if failed s.transferTaken then s.answered code [] else s.answered .ok (payload s.transferTaken) := by
  rw [takeCommand_checked hs, takeCommand_accept hs]
  rfl

/-- A query of one entry of a table: answered for an index in range, refused beyond it. -/
theorem takeCommand_indexed {n last : Nat} (payload : State → List Byte) {p : List Byte} {s : State} (hs : s.ready)
    (hp : payload s.transferTaken = p) :
    takeCommand (fun s => checked [(decide (last < n), .badParam)] (accept id payload) s) s =
      if n ≤ last then s.answered .ok p else s.answered .badParam [] := by
  rw [takeCommand_query hs, hp]
  by_cases hn : n ≤ last
  · rw [if_pos hn, if_neg (by simpa using hn)]
  · rw [if_neg hn, if_pos (by simpa using hn)]

/-- An outstanding envelope update and the taking of a transfer do not touch each other. -/
theorem State.takeEnvelope_transferTaken (s : State) : s.transferTaken.takeEnvelope = s.takeEnvelope.transferTaken := by
  unfold State.takeEnvelope
  rw [State.transferTaken_due]
  split <;> rfl

/-- Settles O4: each query by its check and its report, which the taking of the transfer does not touch. -/
theorem queriesReport : Obligations.QueriesReport := by
  unfold Obligations.QueriesReport
  intro s hs
  refine ⟨congrArg Host.Outcome.next (takeCommand_accept hs), congrArg Host.Outcome.next (takeCommand_accept hs),
    congrArg Host.Outcome.next (takeCommand_accept hs), fun h => congrArg Host.Outcome.next ?_,
    fun g => congrArg Host.Outcome.next (takeCommand_indexed (fun s => groupReport (s.group g.toNat)) hs rfl),
    fun n => congrArg Host.Outcome.next (takeCommand_indexed (fun s => nozzleReport s n.toNat) hs rfl),
    fun m => congrArg Host.Outcome.next (takeCommand_indexed (fun s => manifoldReport s m.toNat) hs rfl),
    fun n => congrArg Host.Outcome.next (takeCommand_indexed (fun s => pumpReport s n.toNat) hs rfl),
    fun z => congrArg Host.Outcome.next (takeCommand_indexed (fun s => siteReport s z.toNat) hs rfl),
    fun f => congrArg Host.Outcome.next (takeCommand_indexed (fun s => fixtureReport s f.toNat) hs rfl),
    fun l first count => congrArg Host.Outcome.next ((takeCommand_query hs).trans ?_),
    fun h => congrArg Host.Outcome.next ((takeCommand_of_ready hs).trans ?_),
    fun d => congrArg Host.Outcome.next ((takeCommand_checked hs).trans ?_)⟩
  case refine_1 =>
    rw [takeCommand_of_ready hs]
    have hlookup : s.transferTaken.lookupEffect h = s.lookupEffect h := rfl
    unfold handleEffectQuery
    rw [hlookup]
    cases s.lookupEffect h <;> rfl
  case refine_2 =>
    have hfirst : first = 0 ↔ first.toNat = 0 := by bv_omega
    by_cases hok : l.toNat ≤ 3 ∧ 1 ≤ first.toNat ∧ first.toNat ≤ 512 ∧ count.toNat ≤ 64
    · rw [if_pos hok, if_neg (by simp only [Bool.or_eq_true, decide_eq_true_eq, hfirst]; omega)]
      rfl
    · rw [if_neg hok, if_pos (by simp only [Bool.or_eq_true, decide_eq_true_eq, hfirst]; omega)]
  case refine_3 =>
    have hlookup : s.transferTaken.lookupClip h = s.lookupClip h := rfl
    unfold handleClipQuery
    rw [hlookup]
    by_cases hz : h = 0
    · rw [if_pos hz, if_pos hz]; rfl
    · rw [if_neg hz, if_neg hz]
      cases s.lookupClip h <;> rfl
  case refine_4 =>
    rw [takeCommand_accept hs]
    have htaken := s.takeEnvelope_transferTaken
    by_cases hd : d.toNat ≤ 1
    · rw [if_pos hd, if_neg (by simpa [badDeck] using hd), htaken]
      rfl
    · rw [if_neg hd, if_pos (by simpa [badDeck] using hd)]

/-! ### Settings -/

/-- A setting with one check on its fields: refused when `bad` holds of them, else its effect is made and answered. -/
theorem takeCommand_setting {failed : Bool} {bad : Prop} [Decidable bad] {effect : State → State} {s t : State} (hs : s.ready)
    (hbad : failed = true ↔ bad) (ht : (effect s.transferTaken).pushReply ⟨.ok, []⟩ = t) :
    takeCommand (fun s => checked [(failed, .badParam)] (accept effect) s) s =
      if bad then s.answered .badParam [] else t := by
  rw [takeCommand_checked (failed := fun _ => failed) hs, takeCommand_accept hs, ht]
  exact if_congr hbad rfl rfl

/-- A configuration command on an open configuration: its own check remains. -/
theorem takeCommand_configuration {failed : Bool} {bad : Prop} [Decidable bad] {effect : State → State} {s t : State}
    (hs : s.configurable) (hbad : failed = true ↔ bad) (ht : (effect s.transferTaken).pushReply ⟨.ok, []⟩ = t) :
    takeCommand (fun s => checked (configChecks s ++ [(failed, .badParam)]) (accept effect) s) s =
      if bad then s.answered .badParam [] else t := by
  obtain ⟨hready, hstopped, hsaving⟩ := hs
  have hchecks : firstFailure (configChecks s.transferTaken ++ [(failed, .badParam)]) =
      firstFailure [(failed, .badParam)] := by simp [configChecks, firstFailure, hstopped, hsaving]
  rw [← takeCommand_setting hready hbad ht, takeCommand_of_ready hready, takeCommand_of_ready hready]
  unfold checked
  rw [hchecks]

/-- Settles O34: each setting by its check and the figures it replaces. -/
theorem settingsReplaced : Obligations.SettingsReplaced := by
  unfold Obligations.SettingsReplaced
  intro s hs
  refine ⟨fun period anchor => congrArg Host.Outcome.next (takeCommand_setting hs (by simp) rfl),
    fun level => congrArg Host.Outcome.next (takeCommand_accept hs),
    fun master decay => congrArg Host.Outcome.next ((takeCommand_of_ready hs).trans ?_),
    fun z cap => congrArg Host.Outcome.next (takeCommand_setting hs (by simp) rfl), fun hc =>
    ⟨fun p => congrArg Host.Outcome.next (takeCommand_configuration hc (by simp [or_assoc]) rfl),
      fun interval => congrArg Host.Outcome.next (takeCommand_configuration hc (by simp) rfl),
      fun factor decay => congrArg Host.Outcome.next (takeCommand_configuration hc (by simp) rfl),
      fun mask timeout fade => congrArg Host.Outcome.next (takeCommand_configuration hc (by simp) rfl)⟩⟩
  unfold handleAudioSet accept
  dsimp only
  rw [State.takeEnvelope_transferTaken]
  rfl

end Sys2Proof.Machine
end

section
/-! PROOF. The promises of the show state (R3, R6, R10, R16, R26, R36, R49, R50) and the sizes of the tables are kept: by the
operations the blocks share, chapter by chapter by every handler and event, and so by every step. -/
namespace Sys2Proof.Machine

/-! ### What keeping means -/

/-- From `s` to `t` the table sizes are kept, and with them what the show state promises. -/
structure State.KeepsShow (s t : State) : Prop where
  sized : s.sized → t.sized
  showOk : s.showOk → t.showOk

theorem State.KeepsShow.refl (s : State) : s.KeepsShow s := ⟨id, id⟩

theorem State.KeepsShow.trans {s t u : State} (h : s.KeepsShow t) (k : t.KeepsShow u) : s.KeepsShow u :=
  ⟨k.sized ∘ h.sized, k.showOk ∘ h.showOk⟩

/-- A choice between two changes that keep the promises. -/
theorem State.KeepsShow.ite {c : Prop} [Decidable c] {s t u : State} (ht : s.KeepsShow t) (hu : s.KeepsShow u) :
    s.KeepsShow (if c then t else u) := by
  split
  · exact ht
  · exact hu

/-- The lifecycle states that a show state leaves to the records: SCHEDULED alone in STOPPED, FADING alone in ENDING
(R36, R50). -/
def ShowState.allows (sh : ShowState) (st : EffectState) : Prop :=
  (sh = .stopped → st = .scheduled) ∧ (sh = .ending → st = .fading)

theorem State.showOk_iff {s : State} : s.showOk ↔ s.sized
    ∧ (s.timer.showState = .stopped → s.timer.clock = 0)
    ∧ (s.timer.endTime.isSome = true ↔ s.timer.showState = .ending)
    ∧ (s.runningOrHeld = false → s.link.silence = 0)
    ∧ ∀ r ∈ s.records, s.timer.showState.allows r.state := by
  constructor
  · rintro ⟨hz, hc, he, hs, hst, hen⟩
    exact ⟨hz, hc, he, hs, fun r hr => ⟨fun h => hst h r hr, fun h => hen h r hr⟩⟩
  · rintro ⟨hz, hc, he, hs, hr⟩
    exact ⟨hz, hc, he, hs, fun h r hm => (hr r hm).1 h, fun h r hm => (hr r hm).2 h⟩

/-- A change that leaves the show state and its figures, at most restarts the silence timer, and leaves the records in states
that the show state allows. -/
theorem State.keepsShow_of_records {s t : State} (hsize : s.sized → t.sized)
    (hshow : t.timer.showState = s.timer.showState) (hclock : t.timer.clock = s.timer.clock)
    (hend : t.timer.endTime = s.timer.endTime) (hsilence : t.link.silence = s.link.silence ∨ t.link.silence = 0)
    (hrecords : (∀ q ∈ s.records, s.timer.showState.allows q.state) →
      ∀ r ∈ t.records, s.timer.showState.allows r.state) : s.KeepsShow t := by
  refine ⟨hsize, fun h => ?_⟩
  obtain ⟨hz, hc, he, hs, hr⟩ := State.showOk_iff.1 h
  refine State.showOk_iff.2 ⟨hsize hz, by rwa [hshow, hclock], by rwa [hshow, hend], fun hn => ?_, by rw [hshow]; exact hrecords hr⟩
  rcases hsilence with hsame | hzero
  · rw [hsame]
    exact hs (by simpa [State.runningOrHeld, hshow] using hn)
  · exact hzero

/-- A change outside the Show Timer and the effect slots, of the silence timer neither. -/
theorem State.keepsShow_of_frame {s t : State} (hsize : s.sized → t.sized) (htimer : t.timer = s.timer)
    (hsilence : t.link.silence = s.link.silence) (hslots : t.effects.slots = s.effects.slots) : s.KeepsShow t :=
  State.keepsShow_of_records hsize (by rw [htimer]) (by rw [htimer]) (by rw [htimer]) (.inl hsilence)
    fun h r hr => h r (by rwa [State.records, ← hslots])

/-- What every pass of a loop keeps, the loop keeps. -/
theorem State.keepsShow_forEach {α : Type} (l : List α) (f : α → State → State) (h : ∀ a s, State.KeepsShow s (f a s))
    (s : State) : s.KeepsShow (forEach l f s) :=
  forEach_keeps s.KeepsShow l f (fun a _ _ ht => ht.trans (h a _)) s (.refl s)

/-! ### The shared operations -/

/-- What holds of every entry still does once one is changed by what keeps it. -/
theorem forall_mem_modify {α : Type} {P : α → Prop} {l : List α} {i : Nat} {f : α → α} (h : ∀ a ∈ l, P a)
    (hf : ∀ a, P a → P (f a)) : ∀ a ∈ l.modify i f, P a := by
  intro a ha
  obtain ⟨j, hj⟩ := List.mem_iff_getElem?.1 ha
  rw [List.getElem?_modify] at hj
  obtain ⟨b, hb, rfl⟩ := Option.map_eq_some_iff.1 hj
  split
  · exact hf b (h b (List.mem_of_getElem? hb))
  · exact h b (List.mem_of_getElem? hb)

/-- A line table with the sizes of Table 0-6 in place of another. -/
theorem State.sized_lines {s : State} {ls : List Line} (hz : s.sized) (hlen : ls.length = s.lines.length)
    (hl : ∀ l ∈ ls, l.sized) : State.sized { s with lines := ls } := by
  obtain ⟨h1, h2, h3, h4, h5, h6, h7, h8, h9, h10, -, hrest⟩ := hz
  exact ⟨h1, h2, h3, h4, h5, h6, h7, h8, h9, hlen.trans h10, hl, hrest⟩

theorem State.keepsShow_raise (e : Event) (s : State) : s.KeepsShow (s.raise e) := State.keepsShow_of_frame id rfl rfl rfl

theorem State.keepsShow_raiseIf (b : Bool) (e : Event) (s : State) : s.KeepsShow (s.raiseIf b e) := by
  cases b
  · exact .refl s
  · exact s.keepsShow_raise e

theorem State.keepsShow_modifyDue (f : Due → Due) (s : State) : s.KeepsShow (s.modifyDue f) :=
  State.keepsShow_of_frame id rfl rfl rfl

theorem State.keepsShow_modifyGroup (g : Nat) (f : Group → Group) (s : State) : s.KeepsShow (s.modifyGroup g f) :=
  State.keepsShow_of_frame (by simp [State.sized]) rfl rfl rfl

theorem State.keepsShow_dropRef? (g : Option Nat) (s : State) : s.KeepsShow (s.dropRef? g) := by
  cases g
  · exact .refl s
  · exact s.keepsShow_modifyGroup _ _

theorem State.keepsShow_modifyNozzle (n : Nat) (f : Nozzle → Nozzle) (s : State) : s.KeepsShow (s.modifyNozzle n f) :=
  State.keepsShow_of_frame (by simp [State.sized]) rfl rfl rfl

theorem State.keepsShow_modifyManifold (m : Nat) (f : Manifold → Manifold) (s : State) :
    s.KeepsShow (s.modifyManifold m f) :=
  State.keepsShow_of_frame (by simp [State.sized]) rfl rfl rfl

theorem State.keepsShow_modifyPump (n : Nat) (f : Pump → Pump) (s : State) : s.KeepsShow (s.modifyPump n f) :=
  State.keepsShow_of_frame (by simp [State.sized]) rfl rfl rfl

theorem State.keepsShow_modifyZone (z : Nat) (f : Zone → Zone) (s : State) : s.KeepsShow (s.modifyZone z f) :=
  State.keepsShow_of_frame (by simp [State.sized]) rfl rfl rfl

theorem State.keepsShow_modifyPresence (k : Nat) (f : PresenceInput → PresenceInput) (s : State) :
    s.KeepsShow (s.modifyPresence k f) :=
  State.keepsShow_of_frame (by simp [State.sized]) rfl rfl rfl

theorem State.keepsShow_modifyFixture (n : Nat) (f : Fixture → Fixture) (s : State) : s.KeepsShow (s.modifyFixture n f) :=
  State.keepsShow_of_frame (by simp [State.sized]) rfl rfl rfl

theorem State.keepsShow_modifyLine (l : Nat) {f : Line → Line} (hf : ∀ x : Line, x.sized → (f x).sized) (s : State) :
    s.KeepsShow (s.modifyLine l f) := by
  refine State.keepsShow_of_frame (fun hz => State.sized_lines hz (by simp) (forall_mem_modify ?_ hf)) rfl rfl rfl
  obtain ⟨-, -, -, -, -, -, -, -, -, -, hl, -⟩ := hz
  exact hl

theorem State.keepsShow_modifyClipSlot (i : Nat) (f : ClipSlot → ClipSlot) (s : State) :
    s.KeepsShow (s.modifyClipSlot i f) :=
  State.keepsShow_of_frame (by simp [State.sized]) rfl rfl rfl

theorem State.keepsShow_modifyDeck (d : Nat) (f : Deck → Deck) (s : State) : s.KeepsShow (s.modifyDeck d f) :=
  State.keepsShow_of_frame (by simp [State.sized]) rfl rfl rfl

/-- A slot changed so that its record stays in a state that the show state allows. -/
theorem State.keepsShow_modifyEffectSlot (i : Nat) {f : EffectSlot → EffectSlot} {s : State}
    (hf : ∀ e, (∀ r ∈ e.record, s.timer.showState.allows r.state) → ∀ r ∈ (f e).record, s.timer.showState.allows r.state) :
    s.KeepsShow (s.modifyEffectSlot i f) := by
  refine State.keepsShow_of_records (by simp [State.sized]) rfl rfl rfl (.inl rfl) fun h r hr => ?_
  obtain ⟨e, he, her⟩ := List.mem_filterMap.1 hr
  refine forall_mem_modify (P := fun e => ∀ r ∈ e.record, s.timer.showState.allows r.state) (fun e he r hr => ?_) hf e he r her
  exact h r (List.mem_filterMap.2 ⟨e, he, hr⟩)

/-- A record changed so that it stays in a state that the show state allows. -/
theorem State.keepsShow_modifyRecord (i : Nat) {f : EffectRecord → EffectRecord} {s : State}
    (hf : ∀ r, s.timer.showState.allows r.state → s.timer.showState.allows (f r).state) :
    s.KeepsShow (s.modifyRecord i f) := by
  refine State.keepsShow_modifyEffectSlot i fun e he r hr => ?_
  obtain ⟨q, hq, rfl⟩ := Option.map_eq_some_iff.1 hr
  exact hf q (he q hq)

/-! ### Commands and their handlers -/

theorem State.keepsShow_transferTaken (s : State) : s.KeepsShow s.transferTaken :=
  State.keepsShow_of_records id rfl rfl rfl (.inr rfl) id

theorem State.keepsShow_pushReply (a : Answer) (s : State) : s.KeepsShow (s.pushReply a) :=
  State.keepsShow_of_frame id rfl rfl rfl

theorem keepsShow_dispatch {h : Handler} (hh : ∀ s, State.KeepsShow s (h s).1) (s : State) : s.KeepsShow (dispatch h s) :=
  s.keepsShow_transferTaken.trans ((hh _).trans (State.keepsShow_pushReply _ _))

/-- What a handler keeps, a command keeps. -/
theorem keepsShow_takeCommand {h : Handler} (hh : ∀ s, State.KeepsShow s (h s).1) (s : State) :
    s.KeepsShow (takeCommand h s) := by
  unfold takeCommand
  split
  · exact keepsShow_dispatch hh s
  · exact .refl s

theorem keepsShow_refuse (c : ResultCode) (s : State) : s.KeepsShow (refuse c s).1 := .refl s

/-- A checked command keeps what it keeps when all its checks pass. -/
theorem keepsShow_checked {l : List (Bool × ResultCode)} {go : Handler} {s : State}
    (h : firstFailure l = none → s.KeepsShow (go s).1) : s.KeepsShow (checked l go s).1 := by
  cases hl : firstFailure l with
  | none => rw [checked_of_none go s hl]; exact h hl
  | some c => rw [checked_of_some go s hl]; exact .refl s

/-! ### The Show Link (chapter 10) -/

theorem State.keepsShow_resetLink (s : State) : s.KeepsShow s.resetLink := State.keepsShow_of_frame id rfl rfl rfl

theorem State.keepsShow_replySent (r : Reply) (rest : List Reply) (snapshot : Half) (packet : List Byte) (accepted : Bool)
    (s : State) : s.KeepsShow (s.replySent r rest snapshot packet accepted) := State.keepsShow_of_frame id rfl rfl rfl

theorem State.keepsShow_clearSummary (snapshot : Half) (s : State) : s.KeepsShow (s.clearSummary snapshot) :=
  State.keepsShow_of_frame id rfl rfl rfl

theorem State.keepsShow_pollReply (accepted : Bool) (s : State) : s.KeepsShow (s.pollReply accepted) := by
  unfold State.pollReply
  split
  · split
    · exact State.keepsShow_replySent ..
    · exact (s.keepsShow_clearSummary _).trans (State.keepsShow_replySent ..)
  · exact State.keepsShow_of_frame id rfl rfl rfl

theorem State.keepsShow_noticeSent (snapshot : Half) (accepted : Bool) (s : State) :
    s.KeepsShow (s.noticeSent snapshot accepted) := State.keepsShow_of_frame id rfl rfl rfl

theorem State.keepsShow_pollNotice (accepted : Bool) (s : State) : s.KeepsShow (s.pollNotice accepted) := by
  have hrefused : s.KeepsShow { s with link := { s.link with lastNotice := none } } :=
    State.keepsShow_of_frame id rfl rfl rfl
  unfold State.pollNotice
  split
  · split
    · exact s.keepsShow_noticeSent _ _
    · dsimp only
      split
      · exact hrefused
      · exact (s.keepsShow_clearSummary _).trans (State.keepsShow_noticeSent ..)
  · exact hrefused

theorem keepsShow_handleLinkSet (mask : Half) (timeout : Byte) (fade : Half) (s : State) :
    s.KeepsShow (handleLinkSet mask timeout fade s).1 :=
  keepsShow_checked fun _ => State.keepsShow_of_records id rfl rfl rfl (.inl rfl) id

/-! ### The Clip Store (sections 9.1 to 9.3) -/

/-- The releases of clips keep the sizes, as they keep the generations and the number of pages. -/
theorem State.keepsShow_of_clips {s : State} {slots : List ClipSlot} {owner : List (Option Nat)}
    (hgen : slots.map (·.gen) = s.clips.slots.map (·.gen)) (howner : owner.length = s.clips.owner.length) :
    s.KeepsShow { s with clips := { s.clips with slots := slots, owner := owner } } := by
  have hslots : slots.length = s.clips.slots.length := by simpa using congrArg List.length hgen
  exact State.keepsShow_of_frame (by simp [State.sized, hslots, howner]) rfl rfl rfl

theorem State.keepsShow_releaseHeld (d : Nat) (s : State) : s.KeepsShow (s.releaseHeld d) := by
  obtain ⟨slots, owner, heq, hgen, howner⟩ := s.releaseHeld_eq d
  rw [heq]
  exact State.keepsShow_of_clips hgen howner

theorem State.keepsShow_freeClip (i : Nat) (s : State) : s.KeepsShow (s.freeClip i) :=
  State.keepsShow_of_frame (by simp [State.sized, State.freeClip]) rfl rfl rfl

/-- Pages given to a clip one after another leave the number of pages. -/
theorem length_setPages (i : Nat) (pages : List Nat) (owner : List (Option Nat)) :
    (pages.foldl (fun o p => o.set p (some i)) owner).length = owner.length := by
  induction pages generalizing owner with
  | nil => rfl
  | cons p pages ih => simp [ih]

theorem State.keepsShow_placeClip (i : Nat) (c : Clip) (s : State) : s.KeepsShow (s.placeClip i c) :=
  State.keepsShow_of_frame (by simp [State.sized, State.placeClip, length_setPages]) rfl rfl rfl

theorem State.keepsShow_rejectBlock (h : Half) (page : Quad) (reason : ResultCode) (s : State) :
    s.KeepsShow (s.rejectBlock h page reason) := State.keepsShow_of_frame id rfl rfl rfl

theorem State.keepsShow_acceptBlock (i : Nat) (c : Clip) (page : Nat) (data : List Byte) (s : State) :
    s.KeepsShow (s.acceptBlock i c page data) :=
  (State.keepsShow_of_frame (s := s) (t := { s with clips := { s.clips with
      memory := SampleMemory.write s.clips.memory (c.pageAddress page) data } }) id rfl rfl rfl).trans
    ((State.keepsShow_modifyClipSlot ..).trans (State.keepsShow_raiseIf ..))

theorem State.keepsShow_judgeBlock (transfer : List Byte) (s : State) : s.KeepsShow (s.judgeBlock transfer) := by
  unfold State.judgeBlock
  split
  · exact State.keepsShow_rejectBlock ..
  split
  · exact State.keepsShow_rejectBlock ..
  split
  · exact State.keepsShow_rejectBlock ..
  split
  · exact State.keepsShow_rejectBlock ..
  split
  · exact State.keepsShow_rejectBlock ..
  split
  · exact State.keepsShow_rejectBlock ..
  · exact State.keepsShow_acceptBlock ..

theorem State.keepsShow_clipPacket (packet : List Byte) (s : State) : s.KeepsShow (s.clipPacket packet) := by
  rcases State.clipPacket_eq packet s with ⟨-, h⟩ | ⟨-, -, h⟩ | ⟨-, -, h⟩ <;> rw [h]
  · exact .refl s
  · exact State.keepsShow_of_frame id rfl rfl rfl
  · exact (State.keepsShow_of_frame (s := s) (t := { s with link := { s.link with clipTransfer := none } }) id rfl rfl rfl).trans
      (State.keepsShow_judgeBlock ..)

theorem keepsShow_handleClipCreate (channels : Byte) (length : Quad) (s : State) :
    s.KeepsShow (handleClipCreate channels length s).1 :=
  keepsShow_checked fun _ => State.keepsShow_placeClip ..

theorem keepsShow_handleClipRetire (h : Half) (s : State) : s.KeepsShow (handleClipRetire h s).1 := by
  unfold handleClipRetire
  split
  · exact .refl s
  split
  · exact State.keepsShow_freeClip ..
  · exact State.keepsShow_modifyClipSlot ..

theorem keepsShow_handleClipQuery (h : Half) (s : State) : s.KeepsShow (handleClipQuery h s).1 := by
  unfold handleClipQuery
  split
  · exact .refl s
  split
  · exact .refl s
  · exact .refl s

/-! ### The changes of show state (chapter 1) -/

theorem State.keepsShow_stopDeck (d : Nat) (s : State) : s.KeepsShow (s.stopDeck d) := by
  unfold State.stopDeck State.emptyDeck
  split
  · exact (s.keepsShow_releaseHeld d).trans (State.keepsShow_modifyDeck ..)
  · exact .refl s

theorem State.enterStopped_sized {s : State} (hz : s.sized) : s.enterStopped.sized := by
  by_cases h : s.timer.showState = .stopped
  · rwa [State.enterStopped_of_stopped h]
  · have hdecks := (State.keepsShow_forEach [0, 1] State.stopDeck State.keepsShow_stopDeck s.clearEffects).sized
      (State.clearEffects_sized hz)
    generalize hu : forEach [0, 1] State.stopDeck s.clearEffects = u at hdecks
    rw [State.enterStopped_eq h hu]
    exact hdecks

/-- STOPPED keeps its promises: no record is left to break one (R6, R50). -/
theorem State.keepsShow_enterStopped (s : State) : s.KeepsShow s.enterStopped := by
  refine ⟨State.enterStopped_sized, fun h => ?_⟩
  by_cases hs : s.timer.showState = .stopped
  · rwa [State.enterStopped_of_stopped hs]
  obtain ⟨hz, -⟩ := h
  obtain ⟨htimer, hslots, -, -, -, -, -, -, -, hlink, -⟩ := State.enterStopped_stopsAs hz hs
  have hrecords : s.enterStopped.records = [] := by
    simp [State.records, hslots]
  exact State.showOk_iff.2 ⟨State.enterStopped_sized hz, by simp [htimer], by simp [htimer], fun _ => by rw [hlink],
    by simp [hrecords]⟩

/-- What the end of a show leaves of a record is FADING (R49). -/
theorem EffectRecord.state_of_ended {sh : ShowState} {t : ShowTime} {fade : Nat} {r q : EffectRecord}
    (h : r.ended sh t fade = some q) : q.state = .fading := by
  unfold EffectRecord.ended at h
  split at h
  · cases h
  · cases h; rfl

/-- ENDING keeps its promises: what is left of each record is FADING (R10, R49). -/
theorem State.keepsShow_enterEnding (fade : Nat) (s : State) : s.KeepsShow (s.enterEnding fade) := by
  have hsize (hz : s.sized) : (s.enterEnding fade).sized := by
    have hends := State.enterEnding_endsAs hz fade
    obtain ⟨-, hslots, -, -, hdef, -, hdecks, hclips, -, -, -, -, hnozzles, hpumps, hsite, hlights, hlines, hstore⟩ := hends
    have hgroups : (s.enterEnding fade).effects.groups.length = s.effects.groups.length := by
      simpa using congrArg List.length hdef
    simpa [State.sized, hslots, hgroups, hdecks, hclips, hnozzles, hpumps, hsite, hlights, hlines, hstore] using hz
  refine ⟨hsize, fun h => ?_⟩
  obtain ⟨hz, -⟩ := h
  obtain ⟨htimer, hslots, -, -, -, -, -, -, hlink, -⟩ := State.enterEnding_endsAs hz fade
  refine State.showOk_iff.2 ⟨hsize hz, by simp [htimer], by simp [htimer], fun _ => by rw [hlink], fun r hr => ?_⟩
  obtain ⟨e, he, her⟩ := List.mem_filterMap.1 hr
  rw [hslots] at he
  obtain ⟨e', -, rfl⟩ := List.mem_map.1 he
  obtain ⟨q, -, hq⟩ := Option.bind_eq_some_iff.1 her
  simp [htimer, ShowState.allows, EffectRecord.state_of_ended hq]

theorem State.keepsShow_endShow (ms : Nat) (s : State) : s.KeepsShow (s.endShow ms) := by
  unfold State.endShow
  split
  · exact s.keepsShow_enterStopped
  · exact s.keepsShow_enterEnding _

theorem State.keepsShow_takeEndTime (s : State) : s.KeepsShow s.takeEndTime := by
  unfold State.takeEndTime
  split
  · exact s.keepsShow_enterStopped
  · exact .refl s

theorem State.keepsShow_takeSilence (s : State) : s.KeepsShow s.takeSilence := by
  unfold State.takeSilence
  split
  · exact (s.keepsShow_endShow _).trans (State.keepsShow_raise ..)
  · exact .refl s

/-- A show that was neither ENDING nor is to end: RUNNING and HELD promise no more than STOPPED and one another do. -/
theorem State.keepsShow_enterShow {sh : ShowState} {s : State} (hs : s.timer.showState ≠ .ending)
    (hsh : sh = .running ∨ sh = .held) : s.KeepsShow (s.enterShow sh) := by
  refine ⟨id, fun h => ?_⟩
  obtain ⟨hz, -, he, -, -⟩ := State.showOk_iff.1 h
  have hnone : ¬ s.timer.endTime.isSome = true := fun hsome => hs (he.1 hsome)
  refine State.showOk_iff.2 ⟨hz, ?_⟩
  rcases hsh with rfl | rfl <;>
    simpa [State.enterShow, State.runningOrHeld, ShowState.allows] using hnone

theorem keepsShow_handleShowStart (s : State) : s.KeepsShow (handleShowStart s).1 := by
  refine keepsShow_checked fun hpass => ?_
  have hstopped : s.timer.showState = .stopped := by simpa using firstFailure_eq_none.1 hpass _ List.mem_cons_self
  have hclock : s.KeepsShow { s.clearSilence with timer := { s.timer with clock := 0 } } := by
    refine ⟨id, fun h => ?_⟩
    obtain ⟨hz, -, he, -, hr⟩ := State.showOk_iff.1 h
    exact State.showOk_iff.2 ⟨hz, fun _ => rfl, he, fun _ => rfl, hr⟩
  exact hclock.trans (State.keepsShow_enterShow (by simp [hstopped]) (.inl rfl))

theorem keepsShow_handleShowHold (s : State) : s.KeepsShow (handleShowHold s).1 := by
  refine keepsShow_checked fun hpass => State.keepsShow_enterShow ?_ (.inr rfl)
  have hrunning : s.timer.showState = .running := by simpa using firstFailure_eq_none.1 hpass _ List.mem_cons_self
  simp [hrunning]

theorem keepsShow_handleShowResume (s : State) : s.KeepsShow (handleShowResume s).1 := by
  refine keepsShow_checked fun hpass => State.keepsShow_enterShow ?_ (.inl rfl)
  have hheld : s.timer.showState = .held := by simpa using firstFailure_eq_none.1 hpass _ List.mem_cons_self
  simp [hheld]

theorem keepsShow_handleShowEnd (fade : Half) (s : State) : s.KeepsShow (handleShowEnd fade s).1 :=
  keepsShow_checked fun _ => State.keepsShow_endShow ..

theorem keepsShow_handleTempoSet (period anchor : Quad) (s : State) : s.KeepsShow (handleTempoSet period anchor s).1 :=
  keepsShow_checked fun _ => State.keepsShow_of_records id rfl rfl rfl (.inl rfl) id

end Sys2Proof.Machine
end

section
/-! PROOF. The promises of the show state are kept by the Effect Scheduler, and by the Nozzle Engine, the Light Engine and the
Slot Line Unit. -/
namespace Sys2Proof.Machine

/-! ### The Effect Scheduler (chapter 2) -/

theorem State.RecordChange.timer {i : Nat} {k : EffectRecord → Option EffectRecord} {s t : State}
    (h : s.RecordChange i k t) : t.timer = s.timer := by
  obtain ⟨effects, rfl⟩ := h.outside
  rfl

theorem State.RecordChange.sized {i : Nat} {k : EffectRecord → Option EffectRecord} {s t : State} (h : s.RecordChange i k t)
    (hz : s.sized) : t.sized := by
  obtain ⟨effects, heq⟩ := h.outside
  have hslots := congrArg List.length h.slots
  have hgroups := congrArg List.length h.defined
  rw [heq] at hslots hgroups ⊢
  simp only [List.length_modify, List.length_map] at hslots hgroups
  simpa [State.sized, hslots, hgroups] using hz

/-- A record that stays in a state the show state allows, or is freed. -/
theorem State.RecordChange.keepsShow {i : Nat} {k : EffectRecord → Option EffectRecord} {s t : State}
    (h : s.RecordChange i k t)
    (hk : ∀ r q, k r = some q → s.timer.showState.allows r.state → s.timer.showState.allows q.state) : s.KeepsShow t := by
  have hslots : s.KeepsShow (s.modifyEffectSlot i (EffectSlot.change k)) :=
    State.keepsShow_modifyEffectSlot i fun e he q hq => by
      obtain ⟨r, hr, hrq⟩ := Option.bind_eq_some_iff.1 hq
      exact hk r q hrq (he r hr)
  have hrest : (s.modifyEffectSlot i (EffectSlot.change k)).KeepsShow t := by
    obtain ⟨effects, heq⟩ := h.outside
    exact State.keepsShow_of_frame (fun hz => h.sized (by simpa [State.sized] using hz)) h.timer (by rw [heq]; rfl) h.slots
  exact hslots.trans hrest

theorem State.keepsShow_freeRecord (i : Nat) (s : State) : s.KeepsShow (s.freeRecord i) :=
  (s.freeRecord_change i).keepsShow fun _ _ hq => nomatch hq

theorem State.keepsShow_settleEdit (i : Nat) (t : ShowTime) (s : State) : s.KeepsShow (s.settleEdit i t) :=
  (s.settleEdit_change i t).keepsShow fun _ _ hq => by cases hq; exact id

/-- Outside STOPPED a record may always become FADING. -/
theorem ShowState.allows_fading {sh : ShowState} (h : sh ≠ .stopped) : sh.allows .fading := ⟨fun hs => absurd hs h, fun _ => rfl⟩

theorem State.keepsShow_imposeFade (i : Nat) (t : ShowTime) {s : State} (h : s.timer.showState ≠ .stopped) :
    s.KeepsShow (s.imposeFade i t) :=
  (s.imposeFade_change i t).keepsShow fun _ _ hq _ => by cases hq; exact ShowState.allows_fading h

theorem State.keepsShow_applyEdit (i : Nat) (r : EffectRecord) (e : PendingEdit) (s : State) :
    s.KeepsShow (s.applyEdit i r e) := by
  unfold State.applyEdit
  split
  · exact (s.keepsShow_modifyGroup _ _).trans (State.keepsShow_modifyRecord i fun _ => id)
  · exact State.keepsShow_modifyRecord i fun _ => id

theorem State.keepsShow_placeRecord (i : Nat) {r : EffectRecord} {s : State} (hr : r.state = .scheduled)
    (hs : s.timer.showState ≠ .ending) : s.KeepsShow (s.placeRecord i r) := by
  have hslot : s.KeepsShow (s.modifyEffectSlot i fun e => ⟨nextGeneration e.gen, some r⟩) := by
    refine State.keepsShow_modifyEffectSlot i fun e _ q hq => ?_
    obtain rfl : r = q := by simpa using hq
    exact ⟨fun _ => hr, fun h => absurd h hs⟩
  exact hslot.trans (State.keepsShow_of_frame (by simp [State.sized, State.placeRecord]) rfl rfl rfl)

theorem keepsShow_handleEffectAdd (p : EffectAddParams) (s : State) : s.KeepsShow (handleEffectAdd p s).1 := by
  unfold handleEffectAdd
  split
  · exact .refl s
  refine keepsShow_checked fun hpass => ?_
  have hending : s.timer.showState ≠ .ending := by simpa using firstFailure_eq_none.1 hpass _ List.mem_cons_self
  split
  · exact State.keepsShow_placeRecord _ rfl hending
  split
  · exact (s.keepsShow_freeRecord _).trans ((State.keepsShow_raise ..).trans
      (State.keepsShow_placeRecord _ rfl (by rwa [State.raise_timer, (s.freeRecord_change _).timer])))
  · exact .refl s

theorem State.keepsShow_touchEdit (i : Nat) (set : Half) (v : EditValues) (s : State) : s.KeepsShow (s.touchEdit i set v) :=
  (State.keepsShow_of_frame (s := s)
    (t := { s with effects := { s.effects with touchCounter := nextTouch s.effects.touchCounter } }) id rfl rfl rfl).trans
    (State.keepsShow_modifyRecord i fun _ => id)

theorem State.keepsShow_editAtOnce (i : Nat) (r : EffectRecord) (f : EditFields) (s : State) :
    s.KeepsShow (s.editAtOnce i r f) := by
  unfold State.editAtOnce
  split
  · exact (s.keepsShow_modifyGroup ..).trans
      ((State.keepsShow_modifyGroup ..).trans (State.keepsShow_modifyRecord i fun _ => id))
  · exact State.keepsShow_modifyRecord i fun _ => id

theorem State.keepsShow_stageEdit (i : Nat) (r : EffectRecord) (f : EditFields) (boundary : ShowTime) (s : State) :
    s.KeepsShow (s.stageEdit i r f boundary) := by
  unfold State.stageEdit
  cases f.group <;> cases r.edit <;> dsimp only
  case none.none => exact State.keepsShow_modifyRecord i fun _ => id
  case none.some => exact State.keepsShow_modifyRecord i fun _ => id
  case some.none => exact (s.keepsShow_modifyGroup ..).trans (State.keepsShow_modifyRecord i fun _ => id)
  case some.some =>
    exact (s.keepsShow_modifyGroup ..).trans
      ((State.keepsShow_dropRef? ..).trans (State.keepsShow_modifyRecord i fun _ => id))

theorem keepsShow_editAccepted (i : Nat) (r : EffectRecord) (c : EditTiming) (t : ShowTime) (set : Half) (v : EditValues)
    (s : State) : s.KeepsShow (editAccepted i r c t set v s).1 := by
  unfold editAccepted
  dsimp only
  split
  · exact (s.keepsShow_touchEdit ..).trans (State.keepsShow_editAtOnce ..)
  split
  · exact (s.keepsShow_touchEdit ..).trans (State.keepsShow_stageEdit ..)
  · exact s.keepsShow_touchEdit ..

theorem keepsShow_handleEffectEdit (h : Half) (timing : Byte) (t : Quad) (set : Half) (v : EditValues) (s : State) :
    s.KeepsShow (handleEffectEdit h timing t set v s).1 := by
  unfold handleEffectEdit
  split
  · split
    · exact .refl s
    · exact keepsShow_checked fun _ => keepsShow_editAccepted ..
  · exact .refl s

/-- The record a handle names is one of the table's. -/
theorem State.mem_records_of_lookup {s : State} {h : Half} {r : EffectRecord} (hr : s.lookupEffect h = some r) :
    r ∈ s.records := by
  have hslot : (s.effectSlot (handleSlot h)).record = some r := by
    unfold State.lookupEffect at hr
    dsimp only at hr
    split at hr
    · cases hr
    · exact hr
  cases he : s.effects.slots[handleSlot h]? with
  | none => simp [State.effectSlot, List.getD_eq_getElem?_getD, he, EffectSlot.blank] at hslot
  | some e =>
    rw [State.effectSlot_of_getElem? he] at hslot
    exact List.mem_filterMap.2 ⟨e, List.mem_of_getElem? he, hslot⟩

/-- A change that is no promise's matter in STOPPED, since the effect's record would have to be ACTIVE there. -/
theorem State.keepsShow_of_active {s t : State} {r : EffectRecord} (hr : r ∈ s.records) (ha : r.state = .active)
    (hsize : s.sized → t.sized) (h : s.timer.showState ≠ .stopped → s.KeepsShow t) : s.KeepsShow t := by
  refine ⟨hsize, fun hs => (h fun hstopped => ?_).showOk hs⟩
  obtain ⟨-, -, -, -, hrecords⟩ := State.showOk_iff.1 hs
  simpa [ha] using (hrecords r hr).1 hstopped

theorem keepsShow_handleEffectRetire (h : Half) (mode : Byte) (s : State) : s.KeepsShow (handleEffectRetire h mode s).1 := by
  unfold handleEffectRetire
  split
  · exact .refl s
  split
  · exact .refl s
  next r hr =>
  split
  · exact s.keepsShow_freeRecord _
  split
  · next ha =>
    exact State.keepsShow_of_active (State.mem_records_of_lookup hr) ha (s.imposeFade_change _ _).sized
      fun hs => State.keepsShow_imposeFade _ _ hs
  · exact .refl s

theorem keepsShow_handleEffectQuery (h : Half) (s : State) : s.KeepsShow (handleEffectQuery h s).1 := by
  unfold handleEffectQuery
  split
  · exact .refl s
  · exact .refl s

theorem keepsShow_handleGroupDefine (g kind : Byte) (members : List Half) (s : State) :
    s.KeepsShow (handleGroupDefine g kind members s).1 := by
  unfold handleGroupDefine
  split
  · exact .refl s
  · exact keepsShow_checked fun _ => State.keepsShow_modifyGroup ..

/-! ### The transitions of a jet boundary (R29 to R32, R46) -/

/-- A change that keeps the promises outside STOPPED, and the Show Timer. -/
structure State.KeepsRunning (s t : State) : Prop where
  timer : t.timer = s.timer
  keeps : s.timer.showState ≠ .stopped → s.KeepsShow t

theorem State.KeepsRunning.refl (s : State) : s.KeepsRunning s := ⟨rfl, fun _ => .refl s⟩

theorem State.KeepsRunning.trans {s t u : State} (h : s.KeepsRunning t) (k : t.KeepsRunning u) : s.KeepsRunning u :=
  ⟨k.timer.trans h.timer, fun hs => (h.keeps hs).trans (k.keeps (by rwa [h.timer]))⟩

theorem State.keepsRunning_forEach {α : Type} (l : List α) (f : α → State → State)
    (h : ∀ a s, State.KeepsRunning s (f a s)) (s : State) : s.KeepsRunning (forEach l f s) :=
  forEach_keeps s.KeepsRunning l f (fun a _ _ ht => ht.trans (h a _)) s (.refl s)

theorem State.keepsRunning_stepPendingEdit (t : ShowTime) (i : Nat) (s : State) : s.KeepsRunning (s.stepPendingEdit t i) := by
  have happly (r : EffectRecord) (e : PendingEdit) : (s.applyEdit i r e).timer = s.timer := by
    unfold State.applyEdit
    split <;> rfl
  unfold State.stepPendingEdit
  split
  · split
    · exact ⟨happly _ _, fun _ => s.keepsShow_applyEdit ..⟩
    · exact .refl s
  · exact .refl s

theorem State.keepsRunning_stepStart (t : ShowTime) (i : Nat) (s : State) : s.KeepsRunning (s.stepStart t i) := by
  refine ⟨rfl, fun hs => State.keepsShow_modifyRecord i fun r hr => ?_⟩
  split
  · next hstart =>
    have hscheduled : r.state = .scheduled := by simp_all [EffectRecord.startReached]
    exact ⟨fun h => absurd h hs, fun h => by simpa [hscheduled] using hr.2 h⟩
  · exact hr

theorem State.keepsRunning_stepNaturalEnd (t : ShowTime) (i : Nat) (s : State) : s.KeepsRunning (s.stepNaturalEnd t i) := by
  unfold State.stepNaturalEnd
  split
  · split
    · exact ⟨(s.settleEdit_change i t).timer, fun hs => (s.keepsShow_settleEdit i t).trans (State.keepsShow_modifyRecord i fun _ _ =>
        ShowState.allows_fading (by rwa [(s.settleEdit_change i t).timer]))⟩
    · exact .refl s
  · exact .refl s

theorem State.keepsRunning_stepFadeComplete (t : ShowTime) (i : Nat) (s : State) :
    s.KeepsRunning (s.stepFadeComplete t i) := by
  unfold State.stepFadeComplete
  split
  · split
    · exact ⟨(s.freeRecord_change i).timer, fun _ => (s.keepsShow_freeRecord i).trans (State.keepsShow_raise ..)⟩
    · exact .refl s
  · exact .refl s

theorem State.keepsRunning_boundaryRecord (t : ShowTime) (i : Nat) (s : State) : s.KeepsRunning (s.boundaryRecord t i) :=
  (s.keepsRunning_stepPendingEdit t i).trans ((State.keepsRunning_stepStart ..).trans
    ((State.keepsRunning_stepNaturalEnd ..).trans (State.keepsRunning_stepFadeComplete ..)))

/-- A list of slots whose records keep their states. -/
theorem State.keepsShow_mapRecords (s : State) {f : EffectRecord → EffectRecord} (hf : ∀ r, (f r).state = r.state) :
    s.KeepsShow { s with effects := { s.effects with
      slots := s.effects.slots.map fun e => { e with record := e.record.map f } } } := by
  refine State.keepsShow_of_records (by simp [State.sized]) rfl rfl rfl (.inl rfl) fun h r hr => ?_
  obtain ⟨e, he, her⟩ := List.mem_filterMap.1 hr
  obtain ⟨e', he', rfl⟩ := List.mem_map.1 he
  obtain ⟨q, hq, rfl⟩ := Option.map_eq_some_iff.1 her
  rw [hf]
  exact h q (List.mem_filterMap.2 ⟨e', he', hq⟩)

theorem State.keepsShow_schedule (s : State) : s.KeepsShow s.schedule := by
  unfold State.schedule
  split
  · exact .refl s
  · next hs =>
    have hpass := State.keepsRunning_forEach (List.range 256) _ (State.keepsRunning_boundaryRecord s.timer.clock) s
    generalize forEach (List.range 256) (State.boundaryRecord s.timer.clock) s = u at hpass ⊢
    exact (hpass.keeps hs).trans (u.keepsShow_mapRecords fun _ => rfl)

theorem State.keepsShow_takeEffects (s : State) : s.KeepsShow s.takeEffects := by
  unfold State.takeEffects
  split
  · exact s.keepsShow_schedule.trans (State.keepsShow_modifyDue ..)
  · exact .refl s

theorem State.keepsShow_takeEffectsIf (makes : ShowTime → State → Bool) (s : State) : s.KeepsShow (s.takeEffectsIf makes) := by
  rcases s.takeEffectsIf_eq makes with ⟨-, -, -, h⟩ | ⟨-, h⟩ <;> rw [h]
  · exact s.keepsShow_takeEffects
  · exact .refl s

theorem State.keepsShow_takeEnvelope (s : State) : s.KeepsShow s.takeEnvelope := by
  unfold State.takeEnvelope
  split
  · exact State.keepsShow_of_frame id rfl rfl rfl
  · exact .refl s

/-! ### The Slot Line Unit (chapter 8) -/

/-- Values put into an image leave its size. -/
theorem length_putSlots (image : List Byte) (values : SlotValues) : (putSlots image values).length = image.length := by
  unfold putSlots
  induction values generalizing image with
  | nil => rfl
  | cons v values ih => simp [ih]

theorem Line.sized_write (values : SlotValues) {l : Line} (h : l.sized) : (l.write values).sized := by
  obtain ⟨hf, hb, ho⟩ := h
  exact ⟨hf, (length_putSlots ..).trans hb, ho⟩

theorem Line.sized_startFrame {l : Line} (h : l.sized) : l.startFrame.sized := by
  obtain ⟨hf, hb, ho⟩ := h
  refine ⟨?_, hb, ho⟩
  unfold Line.startFrame
  dsimp only
  split
  · exact hb
  · exact hf

/-- Claims set in an owner map leave its size. -/
theorem Line.length_owners_claim (cs : Claims) (l : Line) : (l.claim cs).owners.length = l.owners.length := by
  unfold Line.claim
  dsimp only
  induction cs generalizing l with
  | nil => rfl
  | cons c cs ih => exact (ih { l with owners := l.owners.set (c.1 - 1) c.2 }).trans (by simp)

theorem Line.sized_claim (cs : Claims) {l : Line} (h : l.sized) : (l.claim cs).sized := by
  obtain ⟨hf, hb, ho⟩ := h
  exact ⟨hf, hb, (l.length_owners_claim cs).trans ho⟩

theorem Line.sized_configure (c : LineConfig) {l : Line} (h : l.sized) : (l.configure c).sized := by
  unfold Line.configure
  dsimp only
  split
  · exact Line.sized_startFrame (l := { l with cfg := c }) h
  · exact h

theorem Line.sized_gapEnd {l : Line} (h : l.sized) : l.gapEnd.sized := by
  unfold Line.gapEnd
  split
  · split
    · exact Line.sized_startFrame h
    · exact h
  · exact h

theorem State.keepsShow_writeSlots (n : Nat) (values : SlotValues) (s : State) : s.KeepsShow (s.writeSlots n values) := by
  unfold State.writeSlots
  split
  · exact .refl s
  · exact State.keepsShow_modifyLine n (fun _ => Line.sized_write values) s

theorem State.keepsShow_takeGapEnd (n : Nat) (s : State) : s.KeepsShow (s.takeGapEnd n) :=
  State.keepsShow_modifyLine n (fun _ => Line.sized_gapEnd) s

theorem keepsShow_handleLineSet (p : LineSetParams) (s : State) : s.KeepsShow (handleLineSet p s).1 :=
  keepsShow_checked fun _ => State.keepsShow_modifyLine _ (fun _ => Line.sized_configure _) s

theorem State.keepsShow_moveClaims (old new : Option (Nat × Claims)) (s : State) : s.KeepsShow (s.moveClaims old new) := by
  have hclaim (c : Option (Nat × Claims)) (u : State) : u.KeepsShow (match c with
      | some (l, cs) => u.modifyLine l (Line.claim cs)
      | none => u) := by
    split
    · exact State.keepsShow_modifyLine _ (fun _ => Line.sized_claim _) u
    · exact .refl u
  unfold State.moveClaims
  cases old with
  | none => exact hclaim new s
  | some c => exact (State.keepsShow_modifyLine _ (fun _ => Line.sized_claim _) s).trans (hclaim new _)

/-! ### The Nozzle Engine (chapter 4) -/

theorem State.length_newTable (s : State) : s.newTable.length = s.nozzles.table.length := by
  simp [State.newTable, State.composedTable, onPresent]

theorem State.length_newFrames (s : State) : s.newFrames.length = 8 := by simp [State.newFrames]

theorem State.keepsShow_jetFrame (s : State) : s.KeepsShow s.jetFrame := by
  have htables : s.KeepsShow { s with
      nozzles := { s.nozzles with table := s.newTable, frames := s.newFrames }
      pumps := { s.pumps with manifolds := report s.newFrames s.pumps.manifolds } } := by
    refine State.keepsShow_of_frame (fun hz => ?_) rfl rfl rfl
    obtain ⟨h1, h2, h3, -, h5, hrest⟩ := hz
    exact ⟨h1, h2, s.length_newTable.trans h3, s.length_newFrames, by simp [report, h5], hrest⟩
  have hsummaries : s.KeepsShow { s with
      nozzles := { s.nozzles with table := s.newTable, frames := s.newFrames }
      pumps := { s.pumps with manifolds := report s.newFrames s.pumps.manifolds }
      effects := { s.effects with slots := s.summarise s.newTable s.effects.slots } } :=
    htables.trans (State.keepsShow_mapRecords _ fun r => by split <;> rfl)
  exact hsummaries.trans ((State.keepsShow_forEach _ _ (fun l u => u.keepsShow_writeSlots l _) _).trans
    (State.keepsShow_raiseIf ..))

theorem State.keepsShow_takeJet (s : State) : s.KeepsShow s.takeJet := by
  unfold State.takeJet
  split
  · exact s.keepsShow_takeEnvelope.trans (State.keepsShow_takeEffects _ |>.trans
      (State.keepsShow_jetFrame _ |>.trans (State.keepsShow_modifyDue ..)))
  · exact .refl s

theorem keepsShow_handleNozzleSet (p : NozzleSetParams) (s : State) : s.KeepsShow (handleNozzleSet p s).1 :=
  keepsShow_checked fun _ => (s.keepsShow_moveClaims ..).trans (State.keepsShow_modifyNozzle ..)

/-! ### The Light Engine (chapter 7) -/

theorem State.keepsShow_lightCompute (s : State) : s.KeepsShow s.lightCompute := by
  have htable : s.KeepsShow { s with lights := { s.lights with table := s.litTable } } :=
    State.keepsShow_of_frame (by simp [State.sized, State.litTable]) rfl rfl rfl
  exact htable.trans (State.keepsShow_forEach _ _ (fun l u => u.keepsShow_writeSlots l _) _)

theorem State.keepsShow_takeLight (s : State) : s.KeepsShow s.takeLight := by
  unfold State.takeLight
  split
  · exact s.keepsShow_takeEnvelope.trans (State.keepsShow_takeEffects _ |>.trans
      (State.keepsShow_lightCompute _ |>.trans (State.keepsShow_modifyDue ..)))
  · exact .refl s

theorem keepsShow_handleFixtureSet (p : FixtureSetParams) (s : State) : s.KeepsShow (handleFixtureSet p s).1 :=
  keepsShow_checked fun _ => (s.keepsShow_moveClaims ..).trans
    ((State.keepsShow_writeSlots ..).trans (State.keepsShow_modifyFixture ..))

theorem keepsShow_handleLightMaster (level : Half) (s : State) : s.KeepsShow (handleLightMaster level s).1 :=
  State.keepsShow_of_frame id rfl rfl rfl

end Sys2Proof.Machine
end

section
/-! PROOF. The promises of the show state are kept by the Pump Controller, the Site Monitor, the Deck Mixer, the Configuration
Store and the sample period, and so by every step. -/
namespace Sys2Proof.Machine

/-! ### The Pump Controller (chapter 5) -/

theorem State.keepsShow_changePump (n : Nat) (f : Pump → Pump) (s : State) : s.KeepsShow (s.changePump n f) :=
  (s.keepsShow_modifyPump n f).trans (State.keepsShow_raise ..)

theorem State.keepsShow_unqueue (n : Nat) (s : State) : s.KeepsShow (s.unqueue n) :=
  State.keepsShow_of_frame id rfl rfl rfl

theorem State.keepsShow_faultPump (n : Nat) (c : FaultCause) (s : State) : s.KeepsShow (s.faultPump n c) :=
  (s.keepsShow_unqueue n).trans ((State.keepsShow_changePump ..).trans (State.keepsShow_raise ..))

theorem State.keepsShow_samplePumps (s : State) : s.KeepsShow s.samplePumps :=
  State.keepsShow_of_frame (by simp [State.sized, State.samplePumps]) rfl rfl rfl

/-- The examination of a pump changes its state, faults it, or does nothing (R107 to R110). -/
theorem State.keepsShow_examine (n : Nat) (s : State) : s.KeepsShow (s.examine n) := by
  unfold State.examine
  dsimp only
  refine .ite (.refl s) ?_
  split
  case h_1 => exact .ite (s.keepsShow_changePump ..) (.ite (s.keepsShow_faultPump ..)
      (.ite (s.keepsShow_changePump ..) (.ite (s.keepsShow_faultPump ..) (.refl s))))
  case h_2 => exact .ite (s.keepsShow_changePump ..) (.ite (s.keepsShow_faultPump ..)
      (.ite (s.keepsShow_faultPump ..) (.refl s)))
  case h_3 => exact .ite (s.keepsShow_faultPump ..) (.ite (s.keepsShow_changePump ..)
      (.ite (s.keepsShow_faultPump ..) (.refl s)))
  case h_4 => exact .ite (s.keepsShow_faultPump ..) (.refl s)
  case h_5 => exact .ite (s.keepsShow_faultPump ..) (.refl s)
  case h_6 => exact .refl s
  case h_7 => exact .refl s

theorem State.keepsShow_suspendPump (n : Nat) (s : State) : s.KeepsShow (s.suspendPump n) := by
  unfold State.suspendPump
  split
  · exact (s.keepsShow_unqueue n).trans (State.keepsShow_changePump ..)
  · exact s.keepsShow_changePump ..
  · exact s.keepsShow_changePump ..
  · exact .refl s

theorem State.keepsShow_suspension (s : State) : s.KeepsShow s.suspension := by
  unfold State.suspension
  split
  · split
    · exact .refl s
    · refine (State.keepsShow_forEach (List.range 16) _ State.keepsShow_suspendPump s).trans ?_
      generalize forEach (List.range 16) State.suspendPump s = u
      exact State.keepsShow_of_frame (by simp [State.sized]) rfl rfl rfl
  · exact State.keepsShow_of_frame id rfl rfl rfl

theorem State.keepsShow_joinQueue (stopped : List Nat) (n : Nat) (s : State) : s.KeepsShow (s.joinQueue stopped n) := by
  unfold State.joinQueue
  split
  · exact (State.keepsShow_of_frame (s := s) (t := { s with pumps := { s.pumps with queue := s.pumps.queue ++ [n] } })
      id rfl rfl rfl).trans (State.keepsShow_changePump ..)
  · exact .refl s

theorem State.keepsShow_cancelOutside (targets : List Nat) (n : Nat) (s : State) :
    s.KeepsShow (s.cancelOutside targets n) := by
  unfold State.cancelOutside
  split
  · exact (s.keepsShow_unqueue n).trans (State.keepsShow_changePump ..)
  · exact .refl s

theorem State.keepsShow_stageQueue (stopped : List Nat) (m : Nat) (s : State) : s.KeepsShow (s.stageQueue stopped m) := by
  unfold State.stageQueue
  dsimp only
  split
  · exact State.keepsShow_forEach _ _ (State.keepsShow_cancelOutside _) s
  · exact (State.keepsShow_forEach _ _ (State.keepsShow_joinQueue _) s).trans
      (State.keepsShow_forEach _ _ (State.keepsShow_cancelOutside _) _)

theorem State.keepsShow_destagePump (m p : Nat) (s : State) : s.KeepsShow (s.destagePump m p) :=
  (s.keepsShow_changePump ..).trans (State.keepsShow_modifyManifold ..)

theorem State.keepsShow_stageDestage (m : Nat) (s : State) : s.KeepsShow (s.stageDestage m) := by
  unfold State.stageDestage
  split
  · exact s.keepsShow_modifyManifold ..
  split
  · exact s.keepsShow_modifyManifold ..
  split
  · exact s.keepsShow_destagePump ..
  · exact .refl s

theorem State.keepsShow_stageSpeeds (m : Nat) (s : State) : s.KeepsShow (s.stageSpeeds m) :=
  State.keepsShow_forEach _ _ (fun n u => u.keepsShow_modifyPump n _) s

theorem State.keepsShow_stage (stopped : List Nat) (m : Nat) (s : State) : s.KeepsShow (s.stage stopped m) := by
  have hqueue : s.KeepsShow ((s.stageTargets m).stageQueue stopped m) :=
    (s.keepsShow_modifyManifold ..).trans (State.keepsShow_stageQueue ..)
  unfold State.stage
  dsimp only
  split
  · exact hqueue.trans (State.keepsShow_stageSpeeds ..)
  · exact hqueue.trans ((State.keepsShow_stageDestage ..).trans (State.keepsShow_stageSpeeds ..))

theorem State.keepsShow_grant (s : State) : s.KeepsShow s.grant := by
  unfold State.grant
  split
  · exact State.keepsShow_of_frame (by simp [State.sized]) rfl rfl rfl
  · exact .refl s

theorem State.keepsShow_publish (s : State) : s.KeepsShow s.publish :=
  State.keepsShow_of_frame (by simp [State.sized, State.publish]) rfl rfl rfl

theorem State.keepsShow_updateStaged (s : State) : s.KeepsShow s.updateStaged :=
  s.keepsShow_samplePumps.trans ((State.keepsShow_forEach _ _ State.keepsShow_examine _).trans
    ((State.keepsShow_suspension _).trans (State.keepsShow_forEach _ _ (State.keepsShow_stage _) _)))

theorem State.keepsShow_takePumps (s : State) : s.KeepsShow s.takePumps := by
  unfold State.takePumps
  split
  · exact s.keepsShow_updateStaged.trans ((State.keepsShow_grant _).trans
      ((State.keepsShow_publish _).trans (State.keepsShow_modifyDue ..)))
  · exact .refl s

theorem State.keepsShow_takePumpsIf (makes : Bool) (s : State) : s.KeepsShow (s.takePumpsIf makes) := by
  rcases s.takePumpsIf_eq makes with ⟨-, -, h⟩ | ⟨-, h⟩ <;> rw [h]
  · exact s.keepsShow_takePumps
  · exact .refl s

theorem keepsShow_handleManifoldSet (p : ManifoldSetParams) (s : State) : s.KeepsShow (handleManifoldSet p s).1 :=
  keepsShow_checked fun _ => s.keepsShow_modifyManifold ..

theorem keepsShow_handlePumpSet (p : PumpSetParams) (s : State) : s.KeepsShow (handlePumpSet p s).1 :=
  keepsShow_checked fun _ => s.keepsShow_modifyPump ..

theorem keepsShow_handleStartSet (interval : Half) (s : State) : s.KeepsShow (handleStartSet interval s).1 :=
  keepsShow_checked fun _ => State.keepsShow_of_frame id rfl rfl rfl

theorem State.keepsShow_lockOut (n : Nat) (s : State) : s.KeepsShow (s.lockOut n) := by
  unfold State.lockOut
  split
  · exact s.keepsShow_changePump ..
  · exact (s.keepsShow_unqueue n).trans (State.keepsShow_changePump ..)
  · exact s.keepsShow_modifyPump ..
  · exact s.keepsShow_modifyPump ..
  · exact s.keepsShow_modifyPump ..
  · exact s.keepsShow_changePump ..
  · exact .refl s

theorem keepsShow_handlePumpLockout (n : Byte) (s : State) : s.KeepsShow (handlePumpLockout n s).1 :=
  keepsShow_checked fun _ => s.keepsShow_lockOut _

theorem keepsShow_handlePumpRelease (n : Byte) (s : State) : s.KeepsShow (handlePumpRelease n s).1 :=
  keepsShow_checked fun _ => s.keepsShow_changePump ..

theorem keepsShow_handlePumpClear (n : Byte) (s : State) : s.KeepsShow (handlePumpClear n s).1 :=
  keepsShow_checked fun _ => s.keepsShow_changePump ..

/-! ### The Site Monitor (chapter 6) -/

theorem State.keepsShow_stopZones (k : Nat) (s : State) : s.KeepsShow (s.stopZones k) :=
  (State.keepsShow_forEach _ _ (fun z u => u.keepsShow_modifyZone z _) s).trans (State.keepsShow_raiseIf ..)

theorem State.keepsShow_takePresence (k : Nat) (s : State) : s.KeepsShow (s.takePresence k) := by
  unfold State.takePresence
  split
  · exact .refl s
  dsimp only
  split
  · exact (s.keepsShow_modifyPresence ..).trans (State.keepsShow_stopZones ..)
  · exact s.keepsShow_modifyPresence ..

theorem State.keepsShow_setZone (p : ZoneSetParams) (s : State) : s.KeepsShow (s.setZone p) := by
  have hzone : s.KeepsShow ((s.modifyZone p.zone.toNat (Zone.configure (zoneConfigOf p))).raiseIf
      (decide ((s.zone p.zone.toNat).wind ≠ .clear)) .windState) :=
    (s.keepsShow_modifyZone ..).trans (State.keepsShow_raiseIf ..)
  unfold State.setZone
  dsimp only
  split
  · split
    · exact hzone.trans (State.keepsShow_stopZones ..)
    · exact hzone
  · exact hzone

theorem keepsShow_handleZoneSet (p : ZoneSetParams) (s : State) : s.KeepsShow (handleZoneSet p s).1 :=
  keepsShow_checked fun _ => s.keepsShow_setZone p

theorem keepsShow_handleZoneCap (z : Byte) (cap : Half) (s : State) : s.KeepsShow (handleZoneCap z cap s).1 :=
  keepsShow_checked fun _ => s.keepsShow_modifyZone ..

theorem keepsShow_handleZoneRelease (z : Byte) (s : State) : s.KeepsShow (handleZoneRelease z s).1 :=
  keepsShow_checked fun _ => State.keepsShow_forEach _ _ (fun z u => u.keepsShow_modifyZone z _) s

theorem keepsShow_handleSiteRelease (s : State) : s.KeepsShow (handleSiteRelease s).1 :=
  keepsShow_checked fun _ => State.keepsShow_of_frame id rfl rfl rfl

theorem State.keepsShow_assertStop (s : State) : s.KeepsShow s.assertStop := by
  unfold State.assertStop
  refine State.KeepsShow.trans ?_ (State.keepsShow_enterStopped _)
  exact State.keepsShow_of_frame id rfl rfl rfl

theorem State.keepsShow_takeStop (s : State) : s.KeepsShow s.takeStop := by
  unfold State.takeStop
  split
  · exact s.keepsShow_assertStop
  · exact .refl s

theorem State.keepsShow_takeLevelLow (s : State) : s.KeepsShow s.takeLevelLow := by
  unfold State.takeLevelLow
  split
  · exact State.keepsShow_of_frame id rfl rfl rfl
  · exact .refl s

theorem State.keepsShow_takeLevelRestored (s : State) : s.KeepsShow s.takeLevelRestored := by
  unfold State.takeLevelRestored
  split
  · exact State.keepsShow_of_frame id rfl rfl rfl
  · exact .refl s

theorem State.keepsShow_windGate (s : State) : s.KeepsShow s.windGate := by
  unfold State.windGate
  dsimp only
  refine State.KeepsShow.trans ?_ (State.keepsShow_raiseIf ..)
  exact State.keepsShow_of_frame (by simp [State.sized]) rfl rfl rfl

theorem State.keepsShow_takeWind (s : State) : s.KeepsShow s.takeWind := by
  unfold State.takeWind
  split
  · exact s.keepsShow_windGate.trans (State.keepsShow_modifyDue ..)
  · exact .refl s

theorem keepsShow_handleWindSet (factor : Half) (decay : Byte) (s : State) : s.KeepsShow (handleWindSet factor decay s).1 :=
  keepsShow_checked fun _ => State.keepsShow_of_frame id rfl rfl rfl

/-! ### The Deck Mixer (sections 9.4 and 9.5) -/

theorem State.keepsShow_emptyDeck (d : Nat) (s : State) : s.KeepsShow (s.emptyDeck d) :=
  (s.keepsShow_releaseHeld d).trans (State.keepsShow_modifyDeck ..)

theorem State.keepsShow_endDeckNow (d : Nat) (s : State) : s.KeepsShow (s.endDeckNow d) :=
  (s.keepsShow_emptyDeck d).trans (State.keepsShow_raise ..)

theorem State.keepsShow_beginDeck (d : Nat) (s : State) : s.KeepsShow (s.beginDeck d) := by
  unfold State.beginDeck
  split
  · dsimp only
    split
    · exact s.keepsShow_endDeckNow d
    · exact s.keepsShow_modifyDeck ..
  · exact .refl s

theorem State.keepsShow_playDeck (d : Nat) (s : State) : s.KeepsShow (s.playDeck d) := by
  have hplayed : s.KeepsShow (s.playedDeck d) := (s.keepsShow_raiseIf ..).trans (State.keepsShow_modifyDeck ..)
  rw [State.playDeck_eq]
  split
  · split
    · exact hplayed.trans (State.keepsShow_endDeckNow ..)
    · exact hplayed
  · exact .refl s

theorem State.keepsShow_processDeck (d : Nat) (s : State) : s.KeepsShow (s.processDeck d) :=
  (s.keepsShow_modifyDeck ..).trans ((State.keepsShow_beginDeck ..).trans
    ((State.keepsShow_playDeck ..).trans (State.keepsShow_modifyDeck ..)))

theorem State.keepsShow_takeShowEnds (s : State) : s.KeepsShow s.takeShowEnds :=
  s.keepsShow_takeStop.trans ((State.keepsShow_takeSilence _).trans (State.keepsShow_takeEndTime _))

theorem State.keepsShow_takeDeckPeriod (s : State) : s.KeepsShow s.takeDeckPeriod := by
  rcases s.takeDeckPeriod_eq with ⟨-, h⟩ | ⟨-, -, h⟩ | ⟨-, -, h⟩ <;> rw [h]
  · exact .refl s
  · exact s.keepsShow_takeShowEnds
  · exact s.keepsShow_takeShowEnds.trans ((State.keepsShow_forEach _ _ State.keepsShow_processDeck _).trans
      (State.keepsShow_modifyDue ..))

theorem State.keepsShow_takeDeckStop (d : Nat) (s : State) : s.KeepsShow (s.takeDeckStop d) := by
  unfold State.takeDeckStop
  split
  · exact s.keepsShow_endDeckNow d
  · exact .refl s

theorem keepsShow_handleDeckCue (d : Byte) (h : Half) (cue : Quad) (s : State) : s.KeepsShow (handleDeckCue d h cue s).1 :=
  keepsShow_checked fun _ => (s.keepsShow_releaseHeld _).trans
    ((State.keepsShow_modifyClipSlot ..).trans (State.keepsShow_modifyDeck ..))

theorem keepsShow_handleDeckStart (d code : Byte) (start : Quad) (s : State) :
    s.KeepsShow (handleDeckStart d code start s).1 :=
  keepsShow_checked fun _ => s.keepsShow_modifyDeck ..

theorem State.keepsShow_stopDeckBy (d ramp : Nat) (s : State) : s.KeepsShow (s.stopDeckBy d ramp) := by
  have hramp (k : Deck) : s.KeepsShow (if ramp = 0 ∨ k.gain = 0 then s.endDeckNow d
      else s.modifyDeck d fun k => { k with target := 0, step := ceilDiv k.gain (periodsOfMs ramp), stopPending := true }) := by
    split
    · exact s.keepsShow_endDeckNow d
    · exact s.keepsShow_modifyDeck ..
  unfold State.stopDeckBy
  dsimp only
  split
  · exact .refl s
  · exact s.keepsShow_emptyDeck d
  · exact s.keepsShow_emptyDeck d
  · exact hramp _
  · exact hramp _

theorem keepsShow_handleDeckStop (d : Byte) (ramp : Half) (s : State) : s.KeepsShow (handleDeckStop d ramp s).1 :=
  keepsShow_checked fun _ => s.keepsShow_stopDeckBy ..

theorem keepsShow_handleDeckGain (d : Byte) (target ramp : Half) (s : State) :
    s.KeepsShow (handleDeckGain d target ramp s).1 :=
  keepsShow_checked fun _ => s.keepsShow_modifyDeck ..

theorem keepsShow_handleDeckQuery (d : Byte) (s : State) : s.KeepsShow (handleDeckQuery d s).1 :=
  keepsShow_checked fun _ => s.keepsShow_takeEnvelope

theorem keepsShow_handleAudioSet (master : Half) (decay : Quad) (s : State) :
    s.KeepsShow (handleAudioSet master decay s).1 :=
  s.keepsShow_takeEnvelope.trans (State.keepsShow_of_frame id rfl rfl rfl)

theorem State.keepsShow_mix (s : State) : s.KeepsShow s.mix :=
  State.keepsShow_of_frame (by simp [State.sized, State.mix]) rfl rfl rfl

/-! ### The Configuration Store (chapter 11) -/

theorem State.siteConfig_sized {s : State} (hz : s.sized) : s.siteConfig.sized := by
  obtain ⟨-, -, h3, -, h5, h6, h7, -, h9, h10, -⟩ := hz
  simp [SiteConfig.sized, State.siteConfig, h3, h5, h6, h7, h9, h10]

theorem keepsShow_handleStoreSave (s : State) : s.KeepsShow (handleStoreSave s).1 := by
  refine keepsShow_checked fun _ => State.keepsShow_of_frame (fun hz => ?_) rfl rfl rfl
  have hsnapshot := State.siteConfig_sized hz
  obtain ⟨h1, h2, h3, h4, h5, h6, h7, h8, h9, h10, h11, h12, h13, h14, himage, -⟩ := hz
  exact ⟨h1, h2, h3, h4, h5, h6, h7, h8, h9, h10, h11, h12, h13, h14, himage, hsnapshot⟩

theorem State.keepsShow_takeSave (s : State) : s.KeepsShow s.takeSave := by
  unfold State.takeSave
  split
  · refine State.keepsShow_of_frame (fun hz => ?_) rfl rfl rfl
    obtain ⟨h1, h2, h3, h4, h5, h6, h7, h8, h9, h10, h11, h12, h13, h14, -, hsnapshot⟩ := hz
    exact ⟨h1, h2, h3, h4, h5, h6, h7, h8, h9, h10, h11, h12, h13, h14, hsnapshot, hsnapshot⟩
  · exact .refl s

theorem SiteConfig.sized_defaults : SiteConfig.defaults.sized := by
  simp [SiteConfig.sized, SiteConfig.defaults, -List.reduceReplicate]

theorem ConfigStore.sized_loaded {c : ConfigStore} (h : c.image.sized) : c.loaded.sized := by
  unfold ConfigStore.loaded
  split
  · exact h
  · exact SiteConfig.sized_defaults

theorem Line.sized_off (c : LineConfig) : (Line.off c).sized := by simp [Line.off, -List.reduceReplicate]

theorem sized_startLine (c : SiteConfig) (l : Nat) (lc : LineConfig) : (startLine c l lc).sized := by
  unfold startLine
  dsimp only
  split
  · exact Line.sized_startFrame (Line.sized_claim _ (Line.sized_off lc))
  · exact Line.sized_claim _ (Line.sized_off lc)

/-- Start-up from a sized image makes tables of the sizes of Table 0-6 (R201). -/
theorem sized_startUp {c : ConfigStore} (h : c.image.sized) : (startUp c).sized := by
  obtain ⟨h1, h2, h3, h4, h5, h6⟩ := ConfigStore.sized_loaded h
  refine ⟨List.length_replicate, List.length_replicate, by simp [startUp, h1, -List.reduceReplicate], List.length_replicate,
    by simp [startUp, h2, -List.reduceReplicate], by simp [startUp, h3, -List.reduceReplicate],
    by simp [startUp, h4, -List.reduceReplicate], List.length_replicate, by simp [startUp, h5, -List.reduceReplicate],
    by simp [startUp, h6, -List.reduceReplicate], fun l hl => ?_, List.length_replicate, List.length_replicate,
    List.length_replicate, h, SiteConfig.sized_defaults⟩
  obtain ⟨li, -, rfl⟩ := List.mem_map.1 hl
  exact sized_startLine _ _ _

/-- A full reset leaves a STOPPED show without records (R201). -/
theorem State.keepsShow_fullReset (s : State) : s.KeepsShow { startUp s.store with pending := s.pending } := by
  have hsize (hz : s.sized) : (startUp s.store).sized := by
    obtain ⟨-, -, -, -, -, -, -, -, -, -, -, -, -, -, himage, -⟩ := hz
    exact sized_startUp himage
  have hrecords : (startUp s.store).records = [] := by
    simp [State.records, startUp, EffectSlot.blank, -List.reduceReplicate]
  refine ⟨hsize, fun ⟨hz, _⟩ => ?_⟩
  have hok : (startUp s.store).showOk :=
    State.showOk_iff.2 ⟨hsize hz, fun _ => rfl, ⟨nofun, nofun⟩, fun _ => rfl, by simp [hrecords]⟩
  exact hok

/-! ### The sample period (R1) -/

theorem State.keepsShow_settle (s : State) : s.KeepsShow s.settle :=
  (State.keepsShow_forEach _ _ State.keepsShow_takeGapEnd s).trans <|
    (State.keepsShow_takeEnvelope _).trans <| (State.keepsShow_forEach _ _ State.keepsShow_takePresence _).trans <|
    (State.keepsShow_takeStop _).trans <| (State.keepsShow_takeLevelLow _).trans <|
    (State.keepsShow_takeLevelRestored _).trans <| (State.keepsShow_takeSilence _).trans <|
    (State.keepsShow_takeEndTime _).trans <| (State.keepsShow_takeEffects _).trans <|
    (State.keepsShow_takeWind _).trans <| (State.keepsShow_takePumps _).trans <| (State.keepsShow_takeJet _).trans <|
    (State.keepsShow_takeLight _).trans <| State.keepsShow_takeSave _

theorem State.keepsShow_sampleInputs (i : Inputs) (s : State) : s.KeepsShow (s.sampleInputs i) :=
  State.keepsShow_of_frame (by simp [State.sized, State.sampleInputs]) rfl rfl rfl

theorem Line.sized_count {l : Line} (h : l.sized) : l.count.sized := by
  unfold Line.count
  split
  · exact h
  · exact h

/-- The counts of a sample period move the clock and the silence timer only where the show state lets them (R3, R16). -/
theorem State.keepsShow_countPeriod (s : State) : s.KeepsShow s.countPeriod := by
  have hsize (hz : s.sized) : s.countPeriod.sized := by
    obtain ⟨h1, h2, h3, h4, h5, h6, h7, h8, h9, h10, h11, hrest⟩ := hz
    refine ⟨h1, h2, h3, h4, by simpa [State.countPeriod] using h5, by simpa [State.countPeriod] using h6, h7, h8, h9,
      by simpa [State.countPeriod] using h10, fun l hl => ?_, hrest⟩
    obtain ⟨l', hl', rfl⟩ := List.mem_map.1 hl
    exact Line.sized_count (h11 l' hl')
  refine ⟨hsize, fun h => ?_⟩
  obtain ⟨hz, hc, he, hs, hr⟩ := State.showOk_iff.1 h
  refine State.showOk_iff.2 ⟨hsize hz, fun hstopped => ?_, he, fun hn => ?_, hr⟩
  · have hstopped : s.timer.showState = .stopped := hstopped
    simp [State.countPeriod, ShowTimer.count, hstopped]
  · have hn : s.runningOrHeld = false := hn
    simp [State.countPeriod, State.silenceCounts, hn, hs hn]

theorem State.keepsShow_samplePeriod (i : Inputs) (s : State) : s.KeepsShow (s.samplePeriod i) :=
  s.keepsShow_settle.trans <| (State.keepsShow_takeDeckPeriod _).trans <| (State.keepsShow_mix _).trans <|
    (State.keepsShow_forEach _ _ State.keepsShow_takeDeckStop _).trans <| (State.keepsShow_sampleInputs _ _).trans <|
    State.keepsShow_countPeriod _

/-! ### Every command -/

/-- A command message is taken with the handler that owns it. -/
theorem exec_of_handlerOf {c : Instr} {h : Handler} (hc : handlerOf c = some h) (s : State) :
    exec c s = .next (takeCommand h s) := by
  cases c <;> cases hc <;> rfl

/-- Every handler keeps the promises. -/
theorem keepsShow_handlerOf {c : Instr} {h : Handler} (hc : handlerOf c = some h) (s : State) : s.KeepsShow (h s).1 := by
  cases c <;> cases hc
  case showStart => exact keepsShow_handleShowStart s
  case showHold => exact keepsShow_handleShowHold s
  case showResume => exact keepsShow_handleShowResume s
  case showEnd => exact keepsShow_handleShowEnd _ s
  case showStop => exact s.keepsShow_enterStopped
  case tempoSet => exact keepsShow_handleTempoSet _ _ s
  case effectAdd => exact keepsShow_handleEffectAdd _ s
  case effectEdit => exact keepsShow_handleEffectEdit _ _ _ _ _ s
  case effectRetire => exact keepsShow_handleEffectRetire _ _ s
  case effectQuery => exact keepsShow_handleEffectQuery _ s
  case groupDefine => exact keepsShow_handleGroupDefine _ _ _ s
  case nozzleSet => exact keepsShow_handleNozzleSet _ s
  case manifoldSet => exact keepsShow_handleManifoldSet _ s
  case pumpSet => exact keepsShow_handlePumpSet _ s
  case pumpRelease => exact keepsShow_handlePumpRelease _ s
  case pumpLockout => exact keepsShow_handlePumpLockout _ s
  case pumpClear => exact keepsShow_handlePumpClear _ s
  case startSet => exact keepsShow_handleStartSet _ s
  case zoneSet => exact keepsShow_handleZoneSet _ s
  case zoneCap => exact keepsShow_handleZoneCap _ _ s
  case zoneRelease => exact keepsShow_handleZoneRelease _ s
  case siteRelease => exact keepsShow_handleSiteRelease s
  case windSet => exact keepsShow_handleWindSet _ _ s
  case fixtureSet => exact keepsShow_handleFixtureSet _ s
  case lightMaster => exact keepsShow_handleLightMaster _ s
  case lineSet => exact keepsShow_handleLineSet _ s
  case clipCreate => exact keepsShow_handleClipCreate _ _ s
  case clipRetire => exact keepsShow_handleClipRetire _ s
  case clipQuery => exact keepsShow_handleClipQuery _ s
  case deckCue => exact keepsShow_handleDeckCue _ _ _ s
  case deckStart => exact keepsShow_handleDeckStart _ _ _ s
  case deckStop => exact keepsShow_handleDeckStop _ _ s
  case deckGain => exact keepsShow_handleDeckGain _ _ _ s
  case deckQuery => exact keepsShow_handleDeckQuery _ s
  case audioSet => exact keepsShow_handleAudioSet _ _ s
  case linkSet => exact keepsShow_handleLinkSet _ _ _ s
  case storeSave => exact keepsShow_handleStoreSave s
  case showQuery | linkQuery | storeQuery => exact .refl s
  case groupQuery | nozzleQuery | manifoldQuery | pumpQuery | siteQuery | fixtureQuery | lineQuery =>
    exact keepsShow_checked fun _ => .refl s

/-- What a transfer that has ended does keeps the promises, whatever it carried (R192). -/
theorem keepsShow_handlerOfTransfer (transfer : List Byte) (s : State) : s.KeepsShow (handlerOfTransfer transfer s).1 := by
  unfold handlerOfTransfer
  cases frameTransfer transfer with
  | command c =>
    cases hc : handlerOf c with
    | none => simpa [hc] using keepsShow_refuse .unknownCommand s
    | some h => simpa [hc] using keepsShow_handlerOf hc s
  | unknownCommand => exact .refl s
  | badLength => exact .refl s

theorem exec_commandPacket_keepsShow (packet : List Byte) (s : State) :
    ∃ t, exec (.commandPacket packet) s = .next t ∧ s.KeepsShow t := by
  rcases execCommandPacket_eq packet s with ⟨-, h⟩ | ⟨-, -, h⟩ | ⟨-, -, h⟩
  · exact ⟨_, h, .refl s⟩
  · exact ⟨_, h, State.keepsShow_of_frame id rfl rfl rfl⟩
  · exact ⟨_, h, keepsShow_dispatch (keepsShow_handlerOfTransfer _) s⟩

theorem exec_malformedCommand_keepsShow (transfer : List Byte) (s : State) :
    ∃ t, exec (.malformedCommand transfer) s = .next t ∧ s.KeepsShow t := by
  refine ⟨_, rfl, ?_⟩
  split
  · exact keepsShow_takeCommand (keepsShow_refuse _) s
  · exact .refl s

/-- Every event keeps the promises. -/
theorem exec_event_keepsShow {c : Instr} (hc : handlerOf c = none) (s : State) :
    ∃ t, exec c s = .next t ∧ s.KeepsShow t := by
  cases c <;> cases hc
  case commandPacket packet => exact exec_commandPacket_keepsShow packet s
  case malformedCommand transfer => exact exec_malformedCommand_keepsShow transfer s
  case fullReset => exact ⟨_, rfl, s.keepsShow_fullReset⟩
  case linkAttach => exact ⟨_, rfl, State.keepsShow_of_frame id rfl rfl rfl⟩
  case linkReset => exact ⟨_, rfl, s.keepsShow_resetLink⟩
  case samplePeriod i => exact ⟨_, rfl, s.keepsShow_samplePeriod i⟩
  case replyPoll a => exact ⟨_, rfl, s.keepsShow_pollReply a⟩
  case noticePoll a => exact ⟨_, rfl, s.keepsShow_pollNotice a⟩
  case clipBlock ps => exact ⟨_, rfl, State.keepsShow_forEach ps _ State.keepsShow_clipPacket s⟩
  case endTimeReached => exact ⟨_, rfl, s.keepsShow_takeEndTime⟩
  case silenceTimerExpiry => exact ⟨_, rfl, s.keepsShow_takeSilence⟩
  case effectBoundary => exact ⟨_, rfl, s.keepsShow_takeEffects⟩
  case pendingEditApplied i => exact ⟨_, rfl, s.keepsShow_takeEffectsIf _⟩
  case effectStartReached i => exact ⟨_, rfl, s.keepsShow_takeEffectsIf _⟩
  case naturalEnd i => exact ⟨_, rfl, s.keepsShow_takeEffectsIf _⟩
  case fadeComplete i => exact ⟨_, rfl, s.keepsShow_takeEffectsIf _⟩
  case jetFrame => exact ⟨_, rfl, s.keepsShow_takeJet⟩
  case envelopeUpdate => exact ⟨_, rfl, s.keepsShow_takeEnvelope⟩
  case lightComputation => exact ⟨_, rfl, s.keepsShow_takeLight⟩
  case pumpUpdate => exact ⟨_, rfl, s.keepsShow_takePumps⟩
  case pumpStartTimeout n => exact ⟨_, rfl, s.keepsShow_takePumpsIf _⟩
  case pumpStopTimeout n => exact ⟨_, rfl, s.keepsShow_takePumpsIf _⟩
  case destage m => exact ⟨_, rfl, s.keepsShow_takePumpsIf _⟩
  case startGrant => exact ⟨_, rfl, s.keepsShow_takePumpsIf _⟩
  case windGate => exact ⟨_, rfl, s.keepsShow_takeWind⟩
  case windHoldRelease z => exact ⟨_, rfl, .ite s.keepsShow_takeWind (.refl s)⟩
  case presenceDebounced k => exact ⟨_, rfl, s.keepsShow_takePresence k⟩
  case emergencyStopAssertion => exact ⟨_, rfl, .ite s.keepsShow_assertStop (.refl s)⟩
  case levelLow => exact ⟨_, rfl, s.keepsShow_takeLevelLow⟩
  case levelRestored => exact ⟨_, rfl, s.keepsShow_takeLevelRestored⟩
  case lineGapEnd l => exact ⟨_, rfl, s.keepsShow_takeGapEnd l⟩
  case deckPeriod => exact ⟨_, rfl, s.keepsShow_takeDeckPeriod⟩
  case deckBegin d => exact ⟨_, rfl, .ite s.keepsShow_takeDeckPeriod (.refl s)⟩
  case deckStopComplete d => exact ⟨_, rfl, s.keepsShow_takeDeckStop d⟩
  case saveCompletion => exact ⟨_, rfl, s.keepsShow_takeSave⟩

/-- Every command and event completes, and keeps the table sizes and what the show state promises. -/
theorem exec_keepsShow (c : Instr) (s : State) : ∃ t, exec c s = .next t ∧ s.KeepsShow t := by
  cases hc : handlerOf c with
  | some h => exact ⟨_, exec_of_handlerOf hc s, keepsShow_takeCommand (keepsShow_handlerOf hc) s⟩
  | none => exact exec_event_keepsShow hc s

/-- Every step keeps the table sizes, and what the show state promises. -/
theorem step_keepsShow {s t : State} (h : step s = .next t) : s.KeepsShow t := by
  unfold step at h
  split at h
  · cases h
    exact .refl s
  · next c rest _ =>
    obtain ⟨u, hu, hkeeps⟩ := exec_keepsShow c { s with pending := rest }
    obtain rfl : u = t := by simpa [hu] using h
    exact (State.keepsShow_of_frame (s := s) (t := { s with pending := rest }) id rfl rfl rfl).trans hkeeps

/-- Settles O54: command by command. -/
theorem showStateKept : Obligations.ShowStateKept := by
  unfold Obligations.ShowStateKept
  exact fun _ _ hs h => (step_keepsShow h).showOk hs

end Sys2Proof.Machine
end

section
/-! PROOF. What the decks do in a sample period (R179 to R183), deck by deck. -/
namespace Sys2Proof.Machine

/-! ### Reading a deck after a change -/

theorem State.deck_modifyDeck_self {d : Nat} {s : State} (hd : d < s.decks.table.length) (f : Deck → Deck) :
    (s.modifyDeck d f).deck d = f (s.deck d) := by
  rw [State.deck_modifyDeck, if_pos ⟨rfl, hd⟩]

theorem State.deck_modifyDeck_ne {d j : Nat} (hj : j ≠ d) (f : Deck → Deck) (s : State) :
    (s.modifyDeck d f).deck j = s.deck j := by
  rw [State.deck_modifyDeck, if_neg fun h => hj h.1.symm]

/-- A change that keeps a deck's clip keeps what the deck reads. -/
theorem State.deckClip_modifyDeck {f : Deck → Deck} (hf : ∀ k, (f k).clip = k.clip) (d j : Nat) (s : State) :
    (s.modifyDeck d f).deckClip j = s.deckClip j := by
  have hclip : ((s.modifyDeck d f).deck j).clip = (s.deck j).clip := by
    rw [State.deck_modifyDeck]
    split
    · exact hf _
    · rfl
  unfold State.deckClip
  rw [hclip]
  rfl

/-- Raising a bit leaves those that stand. -/
theorem State.summary_raise_of_summary {s : State} {b : Nat} (e : Event) (h : s.link.summary.getLsbD b = true) :
    (s.raise e).link.summary.getLsbD b = true := by
  simp [h]

theorem State.summary_raise_bit (e : Event) (s : State) : (s.raise e).link.summary.getLsbD e.bit = true := by
  have hmask : e.mask.getLsbD e.bit = true := by cases e <;> rfl
  simp [hmask]

/-! ### What one deck's part of a period can touch -/

/-- From `s` to `t` deck `d` alone has acted: the clips it may have released, the deck itself and the bits it raised. -/
structure State.DeckChange (d : Nat) (s t : State) : Prop where
  outside : ∃ slots owner table summary, t = { s with
    clips := { s.clips with slots := slots, owner := owner }
    decks := { s.decks with table := table }
    link := { s.link with summary := summary } }
  others : ∀ j, j ≠ d → t.deck j = s.deck j
  length : t.decks.table.length = s.decks.table.length
  raised : ∀ b, s.link.summary.getLsbD b = true → t.link.summary.getLsbD b = true

theorem State.DeckChange.refl (d : Nat) (s : State) : s.DeckChange d s :=
  ⟨⟨_, _, _, _, rfl⟩, fun _ _ => rfl, rfl, fun _ => id⟩

theorem State.DeckChange.trans {d : Nat} {s t u : State} (h : s.DeckChange d t) (k : t.DeckChange d u) : s.DeckChange d u where
  outside := by
    obtain ⟨_, _, _, _, rfl⟩ := h.outside
    obtain ⟨_, _, _, _, rfl⟩ := k.outside
    exact ⟨_, _, _, _, rfl⟩
  others j hj := (k.others j hj).trans (h.others j hj)
  length := k.length.trans h.length
  raised b := k.raised b ∘ h.raised b

theorem State.deckChange_modifyDeck (d : Nat) (f : Deck → Deck) (s : State) : s.DeckChange d (s.modifyDeck d f) :=
  ⟨⟨_, _, _, _, rfl⟩, fun _ hj => State.deck_modifyDeck_ne hj f s, by simp, fun _ => id⟩

theorem State.deckChange_raise (d : Nat) (e : Event) (s : State) : s.DeckChange d (s.raise e) :=
  ⟨⟨_, _, _, _, rfl⟩, fun _ _ => rfl, rfl, fun _ => State.summary_raise_of_summary e⟩

theorem State.deckChange_raiseIf (d : Nat) (b : Bool) (e : Event) (s : State) : s.DeckChange d (s.raiseIf b e) := by
  cases b
  · exact .refl d s
  · exact s.deckChange_raise d e

theorem State.deckChange_releaseHeld (d : Nat) (s : State) : s.DeckChange d (s.releaseHeld d) := by
  obtain ⟨slots, owner, heq, -, -⟩ := s.releaseHeld_eq d
  rw [heq]
  exact ⟨⟨_, _, _, _, rfl⟩, fun _ _ => rfl, rfl, fun _ => id⟩

theorem State.deckChange_endDeckNow (d : Nat) (s : State) : s.DeckChange d (s.endDeckNow d) :=
  (s.deckChange_releaseHeld d).trans ((State.deckChange_modifyDeck ..).trans (State.deckChange_raise ..))

theorem State.deckChange_beginDeck (d : Nat) (s : State) : s.DeckChange d (s.beginDeck d) := by
  unfold State.beginDeck
  split
  · dsimp only
    split
    · exact s.deckChange_endDeckNow d
    · exact s.deckChange_modifyDeck d _
  · exact .refl d s

theorem State.deckChange_playedDeck (d : Nat) (s : State) : s.DeckChange d (s.playedDeck d) :=
  (s.deckChange_raiseIf ..).trans (State.deckChange_modifyDeck ..)

theorem State.deckChange_playDeck (d : Nat) (s : State) : s.DeckChange d (s.playDeck d) := by
  rw [State.playDeck_eq]
  split
  · split
    · exact (s.deckChange_playedDeck d).trans (State.deckChange_endDeckNow ..)
    · exact s.deckChange_playedDeck d
  · exact .refl d s

theorem State.deckChange_processDeck (d : Nat) (s : State) : s.DeckChange d (s.processDeck d) :=
  (s.deckChange_modifyDeck d _).trans ((State.deckChange_beginDeck ..).trans
    ((State.deckChange_playDeck ..).trans (State.deckChange_modifyDeck ..)))

/-! ### A deck that ends -/

/-- A deck that ends is EMPTY, keeps what it gave, and DECK_ENDED stands. -/
theorem State.deck_endDeckNow {d : Nat} {s : State} (hd : d < s.decks.table.length) :
    (s.endDeckNow d).deck d = { Deck.blank with given := (s.deck d).given }
      ∧ (s.endDeckNow d).link.summary.getLsbD 11 = true := by
  obtain ⟨slots, owner, heq, -, -⟩ := s.releaseHeld_eq d
  refine ⟨?_, State.summary_raise_bit .deckEnded _⟩
  have hread : (s.endDeckNow d).deck d = ((s.releaseHeld d).modifyDeck d fun k => { Deck.blank with given := k.given }).deck d :=
    rfl
  rw [hread, heq]
  exact State.deck_modifyDeck_self (s := { s with clips := _ }) hd _

/-- The gain of an EMPTY deck does not move. -/
theorem Deck.moveGain_blank (given : Stereo) : Deck.moveGain { Deck.blank with given := given } =
    { Deck.blank with given := given } := by
  simp [Deck.moveGain, Deck.blank]

/-! ### A deck that plays (R181) -/

theorem State.deckPrefix_of_clip {s : State} {d : Nat} {c : Clip} (h : s.deckClip d = some c) : s.deckPrefix d = c.loadedPrefix := by
  simp [State.deckPrefix, h]

theorem State.deckLength_of_clip {s : State} {d : Nat} {c : Clip} (h : s.deckClip d = some c) : s.deckLength d = c.length := by
  simp [State.deckLength, h]

theorem State.starves_iff {s : State} {d : Nat} {c : Clip} (h : s.deckClip d = some c) :
    s.starves d = decide (c.loadedPrefix ≤ (s.deck d).position) := by
  rw [State.starves, State.deckPrefix_of_clip h]

theorem State.deckGives_of_clip {s : State} {d : Nat} {c : Clip} (h : s.deckClip d = some c) : s.deckGives d =
    if c.loadedPrefix ≤ (s.deck d).position then Stereo.zero
    else deckContribution (c.frame s.clips.memory (s.deck d).position) (s.deck d).gain := by
  simp [State.deckGives, h, State.starves_iff h]

theorem State.deck_playedDeck {d : Nat} {s : State} (hd : d < s.decks.table.length) : (s.playedDeck d).deck d =
    { s.deck d with
      state := if s.starves d then .starved else .playing
      position := (s.deck d).position + 1
      given := s.deckGives d } := by
  have hread (b : Bool) : (s.raiseIf b .deckStarved).deck d = s.deck d := by cases b <;> rfl
  have hlen (b : Bool) : (s.raiseIf b .deckStarved).decks.table.length = s.decks.table.length := by cases b <;> rfl
  rw [State.playedDeck, State.deck_modifyDeck_self (by rwa [hlen]), hread]

theorem State.deckClip_playedDeck (d : Nat) (s : State) : (s.playedDeck d).deckClip d = s.deckClip d := by
  have hread (b : Bool) : (s.raiseIf b .deckStarved).deckClip d = s.deckClip d := by cases b <;> rfl
  rw [State.playedDeck, State.deckClip_modifyDeck (fun _ => by rfl), hread]

/-- The frame and position steps of a PLAYING or STARVED deck: starvation raises DECK_STARVED once, and the last frame ends
the deck. -/
theorem State.playDeck_spec {d : Nat} {s : State} (hd : d < s.decks.table.length)
    (hs : (s.deck d).state = .playing ∨ (s.deck d).state = .starved) {c : Clip} (hc : s.deckClip d = some c) :
    (c.loadedPrefix ≤ (s.deck d).position → (s.deck d).state ≠ .starved →
        (s.playDeck d).link.summary.getLsbD 10 = true)
    ∧ ((s.deck d).position + 1 = c.length → (s.playDeck d).deck d = { Deck.blank with given := s.deckGives d }
        ∧ (s.playDeck d).link.summary.getLsbD 11 = true)
    ∧ ((s.deck d).position + 1 ≠ c.length → (s.playDeck d).deck d = { s.deck d with
        state := if c.loadedPrefix ≤ (s.deck d).position then .starved else .playing
        position := (s.deck d).position + 1
        given := s.deckGives d }) := by
  have hlen : (s.playedDeck d).deckLength d = c.length := State.deckLength_of_clip (by rw [State.deckClip_playedDeck, hc])
  have hdeck := State.deck_playedDeck hd
  have heq : s.playDeck d =
      if (s.deck d).position + 1 = c.length then (s.playedDeck d).endDeckNow d else s.playedDeck d := by
    rw [State.playDeck_eq, if_pos hs, hlen]
  refine ⟨fun hst hne => ?_, fun hend => ?_, fun hgo => ?_⟩
  · have hplaying : (s.deck d).state = .playing := hs.resolve_right hne
    have hraised : (s.playedDeck d).link.summary.getLsbD 10 = true := by
      have hstarves : s.starves d = true := by simpa [State.starves_iff hc] using hst
      unfold State.playedDeck
      rw [hstarves, hplaying]
      exact State.summary_raise_bit .deckStarved s
    rw [heq]
    split
    · exact (State.deckChange_endDeckNow d _).raised 10 hraised
    · exact hraised
  · rw [heq, if_pos hend]
    have hends := State.deck_endDeckNow (s := s.playedDeck d) (d := d) (by rwa [(s.deckChange_playedDeck d).length])
    rwa [hdeck] at hends
  · rw [heq, if_neg hgo, hdeck]
    simp [State.starves_iff hc]

/-! ### One deck in one sample period (R179) -/

/-- The gain a deck comes to in a period (R182). -/
def Deck.movedGain (k : Deck) : Nat :=
  if k.gain < k.target then min k.target (k.gain + k.step) else max k.target (k.gain - k.step)

theorem Deck.moveGain_eq (k : Deck) : k.moveGain = { k with gain := k.movedGain } := rfl

/-- A deck at the start of its part of a period gives nothing yet. -/
def State.quietDeck (d : Nat) (s : State) : State := s.modifyDeck d fun k => { k with given := Stereo.zero }

theorem State.processDeck_eq (d : Nat) (s : State) :
    s.processDeck d = (((s.quietDeck d).beginDeck d).playDeck d).modifyDeck d Deck.moveGain := rfl

theorem State.deck_quietDeck {d : Nat} {s : State} (hd : d < s.decks.table.length) :
    (s.quietDeck d).deck d = { s.deck d with given := Stereo.zero } := State.deck_modifyDeck_self hd _

theorem State.deckClip_quietDeck (d j : Nat) (s : State) : (s.quietDeck d).deckClip j = s.deckClip j := by
  refine State.deckClip_modifyDeck ?_ d j s
  exact fun _ => rfl

theorem State.deckBegins_iff {s : State} {d : Nat} : s.deckBegins d = true ↔
    (s.deck d).state = .waiting ∧ atOrAfter s.timer.clock (s.deck d).start = true := by simp [State.deckBegins]

theorem State.deckBegins_quietDeck {d : Nat} {s : State} (hd : d < s.decks.table.length) :
    (s.quietDeck d).deckBegins d = s.deckBegins d := by
  unfold State.deckBegins
  rw [State.deck_quietDeck hd]
  rfl

theorem State.beginPosition_quietDeck {d : Nat} {s : State} (hd : d < s.decks.table.length) :
    (s.quietDeck d).beginPosition d = s.beginPosition d := by
  unfold State.beginPosition
  rw [State.deck_quietDeck hd]
  rfl

theorem State.deckLength_quietDeck (d j : Nat) (s : State) : (s.quietDeck d).deckLength j = s.deckLength j := by
  rw [State.deckLength, State.deckClip_quietDeck, State.deckLength]

/-- The beginning step in a period, read from the state before the period (R180). -/
theorem State.beginDeck_quietDeck {d : Nat} {s : State} (hd : d < s.decks.table.length) :
    (s.quietDeck d).beginDeck d =
      if s.deckBegins d then
        if s.deckLength d ≤ s.beginPosition d then (s.quietDeck d).endDeckNow d
        else (s.quietDeck d).modifyDeck d fun k => { k with state := .playing, position := s.beginPosition d }
      else s.quietDeck d := by
  unfold State.beginDeck
  rw [State.deckBegins_quietDeck hd, State.beginPosition_quietDeck hd, State.deckLength_quietDeck]

theorem State.length_quietDeck (d : Nat) (s : State) : (s.quietDeck d).decks.table.length = s.decks.table.length :=
  (s.deckChange_modifyDeck d _).length

/-- A deck that is neither PLAYING nor STARVED has no frame. -/
theorem State.playDeck_of_silent {d : Nat} {s : State} (hp : (s.deck d).state ≠ .playing) (hs : (s.deck d).state ≠ .starved) :
    s.playDeck d = s := by
  rw [State.playDeck_eq, if_neg (not_or_intro hp hs)]

/-- A deck that neither begins nor plays gives nothing; its gain moves. -/
theorem State.processDeck_silent {d : Nat} {s : State} (hd : d < s.decks.table.length) (hb : s.deckBegins d = false)
    (hp : (s.deck d).state ≠ .playing) (hs : (s.deck d).state ≠ .starved) :
    s.processDeck d = (s.quietDeck d).modifyDeck d Deck.moveGain := by
  rw [State.processDeck_eq, State.beginDeck_quietDeck hd, if_neg (by simp [hb]), State.playDeck_of_silent] <;>
    rwa [State.deck_quietDeck hd]

/-- A deck whose beginning lies past its clip ends at once (R180). -/
theorem State.processDeck_overrun {d : Nat} {s : State} (hd : d < s.decks.table.length) (hb : s.deckBegins d = true)
    (hl : s.deckLength d ≤ s.beginPosition d) :
    s.processDeck d = ((s.quietDeck d).endDeckNow d).modifyDeck d Deck.moveGain := by
  have hempty : (((s.quietDeck d).endDeckNow d).deck d).state = .empty := by
    rw [(State.deck_endDeckNow (by rwa [State.length_quietDeck])).1]
    rfl
  rw [State.processDeck_eq, State.beginDeck_quietDeck hd, if_pos hb, if_pos hl, State.playDeck_of_silent] <;>
    simp [hempty]

/-- Whether a deck plays in a period: it begins inside its clip, or it plays or starves already. -/
def State.deckPlays (d : Nat) (s : State) : Prop :=
  (s.deckBegins d = true ∧ s.beginPosition d < s.deckLength d) ∨ (s.deck d).state = .playing ∨ (s.deck d).state = .starved

/-- The frame a deck plays in a period. -/
def State.framePosition (d : Nat) (s : State) : Nat :=
  if (s.deck d).state = .waiting then s.beginPosition d else (s.deck d).position

/-- A deck that plays, once its beginning step is done. -/
theorem State.beginDeck_plays {d : Nat} {s : State} (hd : d < s.decks.table.length) (h : s.deckPlays d) :
    ∃ v : State, (s.quietDeck d).beginDeck d = v ∧ v.decks.table.length = s.decks.table.length
      ∧ v.clips = s.clips ∧ v.deckClip d = s.deckClip d
      ∧ v.deck d = { s.deck d with
          given := Stereo.zero, position := s.framePosition d
          state := if s.deckBegins d then .playing else (s.deck d).state } := by
  rw [State.beginDeck_quietDeck hd]
  cases hb : s.deckBegins d with
  | true =>
    have hwaiting : (s.deck d).state = .waiting := (State.deckBegins_iff.1 hb).1
    have hinside : s.beginPosition d < s.deckLength d := by
      rcases h with ⟨-, hlt⟩ | hp | hp
      · exact hlt
      · simp [hwaiting] at hp
      · simp [hwaiting] at hp
    rw [if_pos rfl, if_neg (Nat.not_le_of_lt hinside)]
    refine ⟨_, rfl, ?_, rfl, ?_, ?_⟩
    · exact (State.deckChange_modifyDeck ..).length.trans (s.length_quietDeck d)
    · rw [State.deckClip_modifyDeck (fun _ => by rfl), State.deckClip_quietDeck]
    · rw [State.deck_modifyDeck_self (by rwa [State.length_quietDeck]), State.deck_quietDeck hd]
      simp [State.framePosition, hwaiting]
  | false =>
    have hnot : (s.deck d).state ≠ .waiting := by
      rcases h with ⟨hbt, -⟩ | hp | hp
      · simp [hb] at hbt
      · simp [hp]
      · simp [hp]
    refine ⟨_, rfl, s.length_quietDeck d, rfl, s.deckClip_quietDeck d d, ?_⟩
    simp [State.deck_quietDeck hd, State.framePosition, hnot]

/-- What a deck gives when it plays the frame of its place (R185 step 1). -/
def Deck.contribution (k : Deck) (m : List Host.Cell) (c : Clip) (p : Nat) : Stereo :=
  if c.loadedPrefix ≤ p then Stereo.zero else deckContribution (c.frame m p) k.gain

/-- One period of a deck that plays (R180 to R182). -/
theorem State.processDeck_plays {d : Nat} {s : State} (hd : d < s.decks.table.length) (h : s.deckPlays d) {c : Clip}
    (hc : s.deckClip d = some c) :
    (c.loadedPrefix ≤ s.framePosition d → (s.deck d).state ≠ .starved →
        (s.processDeck d).link.summary.getLsbD 10 = true)
    ∧ (s.framePosition d + 1 = c.length →
        (s.processDeck d).deck d =
            { Deck.blank with given := (s.deck d).contribution s.clips.memory c (s.framePosition d) }
          ∧ (s.processDeck d).link.summary.getLsbD 11 = true)
    ∧ (s.framePosition d + 1 ≠ c.length → (s.processDeck d).deck d = { s.deck d with
        state := if c.loadedPrefix ≤ s.framePosition d then .starved else .playing
        position := s.framePosition d + 1
        gain := (s.deck d).movedGain
        given := (s.deck d).contribution s.clips.memory c (s.framePosition d) }) := by
  obtain ⟨v, hv, hlen, hclips, hclip, hdeck⟩ := State.beginDeck_plays hd h
  have hdv : d < v.decks.table.length := by rwa [hlen]
  have hstate : (v.deck d).state = .playing ∨ (v.deck d).state = .starved := by
    rw [hdeck]
    cases hb : s.deckBegins d with
    | true => exact .inl rfl
    | false => exact h.resolve_left fun hbt => by simp [hb] at hbt
  have hgives : v.deckGives d = (s.deck d).contribution s.clips.memory c (s.framePosition d) := by
    rw [State.deckGives_of_clip (hclip.trans hc), hdeck, hclips]
    rfl
  obtain ⟨hstarve, hend, hgo⟩ := State.playDeck_spec hdv hstate (hclip.trans hc)
  rw [hgives] at hend hgo
  have hdp : d < (v.playDeck d).decks.table.length := by rwa [(v.deckChange_playDeck d).length]
  rw [State.processDeck_eq, hv]
  rw [hdeck] at hstarve hend hgo
  refine ⟨fun hst hne => ?_, fun hlast => ?_, fun hmore => ?_⟩
  · refine hstarve hst ?_
    cases hb : s.deckBegins d with
    | true => simp
    | false => simpa [hb] using hne
  · obtain ⟨hblank, hbit⟩ := hend hlast
    refine ⟨?_, hbit⟩
    rw [State.deck_modifyDeck_self hdp, hblank, Deck.moveGain_blank]
  · rw [State.deck_modifyDeck_self hdp, hgo hmore, Deck.moveGain_eq]
    rfl

end Sys2Proof.Machine
end

section
/-! PROOF. DECK_PERIOD, DECK_BEGIN and DECK_STOP_COMPLETE: both decks in one sample period, after what ended the show. -/
namespace Sys2Proof.Machine

/-! ### What a period makes of a deck -/

/-- What a sample period at show time `clock` makes of a deck `k` on a clip: the deck `k'`, and the bits that stand after
it (R179 to R182). -/
def DeckOutcome (k : Deck) (clock : ShowTime) (clip : Option Clip) (m : List Host.Cell) (k' : Deck) (summary : Half) : Prop :=
  let length := (clip.map Clip.length).getD 0
  let begins := k.state = .waiting ∧ atOrAfter clock k.start = true
  let first := k.cue + (clock - k.start).toNat
  let p := if k.state = .waiting then first else k.position
  let plays := (begins ∧ first < length) ∨ k.state = .playing ∨ k.state = .starved
  (¬ begins → k.state ≠ .playing → k.state ≠ .starved → k' = { k with given := Stereo.zero, gain := k.movedGain })
  ∧ (begins → length ≤ first → k' = Deck.blank ∧ summary.getLsbD 11 = true)
  ∧ (plays → ∀ c, clip = some c →
      (c.loadedPrefix ≤ p → k.state ≠ .starved → summary.getLsbD 10 = true)
      ∧ (p + 1 = c.length → k' = { Deck.blank with given := k.contribution m c p } ∧ summary.getLsbD 11 = true)
      ∧ (p + 1 ≠ c.length → k' = { k with
          state := if c.loadedPrefix ≤ p then .starved else .playing
          position := p + 1, gain := k.movedGain, given := k.contribution m c p }))

/-- One deck's part of a period has that outcome. -/
theorem State.processDeck_outcome {d : Nat} {s : State} (hd : d < s.decks.table.length) :
    DeckOutcome (s.deck d) s.timer.clock (s.deckClip d) s.clips.memory ((s.processDeck d).deck d)
      (s.processDeck d).link.summary := by
  refine ⟨fun hb hp hs => ?_, fun hb hl => ?_, fun hplays c hc => ?_⟩
  · rw [← State.deckBegins_iff, Bool.not_eq_true] at hb
    rw [State.processDeck_silent hd hb hp hs, State.deck_modifyDeck_self (by rwa [State.length_quietDeck]),
      State.deck_quietDeck hd, Deck.moveGain_eq]
    rfl
  · obtain ⟨hdeck, hbit⟩ := State.deck_endDeckNow (s := s.quietDeck d) (d := d) (by rwa [State.length_quietDeck])
    have hd' : d < ((s.quietDeck d).endDeckNow d).decks.table.length := by
      rwa [(State.deckChange_endDeckNow d _).length, State.length_quietDeck]
    rw [State.processDeck_overrun hd (State.deckBegins_iff.2 hb) hl]
    refine ⟨?_, hbit⟩
    rw [State.deck_modifyDeck_self hd', hdeck, State.deck_quietDeck hd, Deck.moveGain_blank]
    rfl
  · rw [← State.deckBegins_iff] at hplays
    exact State.processDeck_plays hd hplays hc

/-- Bits raised later leave the outcome. -/
theorem DeckOutcome.raised {k k' : Deck} {clock : ShowTime} {clip : Option Clip} {m : List Host.Cell} {a b : Half}
    (h : DeckOutcome k clock clip m k' a) (hab : ∀ i, a.getLsbD i = true → b.getLsbD i = true) :
    DeckOutcome k clock clip m k' b := by
  obtain ⟨hsilent, hover, hplays⟩ := h
  refine ⟨hsilent, fun hb hl => ⟨(hover hb hl).1, hab _ (hover hb hl).2⟩, fun hp c hc => ?_⟩
  obtain ⟨hstarve, hend, hgo⟩ := hplays hp c hc
  exact ⟨fun h1 h2 => hab _ (hstarve h1 h2), fun h1 => ⟨(hend h1).1, hab _ (hend h1).2⟩, hgo⟩

/-- A clip's reference count does not sound. -/
theorem DeckOutcome.of_refs {k k' : Deck} {clock : ShowTime} {clip : Option Clip} {m : List Host.Cell} {summary : Half}
    {refs : Clip → Nat} (h : DeckOutcome k clock (clip.map fun c => { c with refs := refs c }) m k' summary) :
    DeckOutcome k clock clip m k' summary := by
  have hlen : (clip.map fun c => { c with refs := refs c }).map Clip.length = clip.map Clip.length := by
    rw [Option.map_map]; rfl
  unfold DeckOutcome at h
  rw [hlen] at h
  obtain ⟨hsilent, hover, hplays⟩ := h
  exact ⟨hsilent, hover, fun hp c hc => hplays hp { c with refs := refs c } (by rw [hc]; rfl)⟩

/-! ### What deck 0 leaves deck 1 to play -/

theorem State.releaseClip_clips_congr {s v : State} (hv : v.clips = s.clips) (h : Half) :
    (v.releaseClip h).clips = (s.releaseClip h).clips := by
  have hslot : v.clipSlot (handleSlot h) = s.clipSlot (handleSlot h) := by simp [State.clipSlot, hv]
  have hlookup : v.lookupClip h = s.lookupClip h := by unfold State.lookupClip; rw [hslot]
  unfold State.releaseClip
  rw [hlookup]
  cases s.lookupClip h with
  | none => exact hv
  | some c =>
    dsimp only
    split <;> simp [State.freeClip, hv]

/-- What a deck releases is told from its clip and the Clip Store alone. -/
theorem State.releaseHeld_clips_congr {s v : State} {d : Nat} (hv : v.clips = s.clips)
    (hk : (v.deck d).clip = (s.deck d).clip) : (v.releaseHeld d).clips = (s.releaseHeld d).clips := by
  unfold State.releaseHeld
  rw [hk]
  cases (s.deck d).clip with
  | none => exact hv
  | some h => exact State.releaseClip_clips_congr hv h

theorem State.clips_endDeckNow {s v : State} {d : Nat} (hv : v.clips = s.clips)
    (hk : (v.deck d).clip = (s.deck d).clip) : (v.endDeckNow d).clips = (s.releaseHeld d).clips :=
  State.releaseHeld_clips_congr hv hk

/-- A deck's part of a period leaves the Clip Store, or releases the deck's clip. -/
theorem State.clips_processDeck {d : Nat} {s : State} (hd : d < s.decks.table.length) :
    (s.processDeck d).clips = s.clips ∨ (s.processDeck d).clips = (s.releaseHeld d).clips := by
  have hquiet : ((s.quietDeck d).deck d).clip = (s.deck d).clip := by rw [State.deck_quietDeck hd]
  by_cases hplays : s.deckPlays d
  · obtain ⟨v, hv, hlen, hclips, -, hdeck⟩ := State.beginDeck_plays hd hplays
    have hplayed : (v.playedDeck d).clips = v.clips := by
      unfold State.playedDeck
      cases v.starves d && decide ((v.deck d).state = .playing) <;> rfl
    have hclip : ((v.playedDeck d).deck d).clip = (s.deck d).clip := by
      rw [State.deck_playedDeck (by rwa [hlen]), hdeck]
    rw [State.processDeck_eq, hv, State.playDeck_eq]
    split
    · split
      · exact .inr (State.clips_endDeckNow (hplayed.trans hclips) hclip)
      · exact .inl (hplayed.trans hclips)
    · exact .inl hclips
  · unfold State.deckPlays at hplays
    push Not at hplays
    obtain ⟨hbegin, hp, hs⟩ := hplays
    cases hb : s.deckBegins d with
    | true =>
      rw [State.processDeck_overrun hd hb (hbegin hb)]
      exact .inr (State.clips_endDeckNow rfl hquiet)
    | false =>
      rw [State.processDeck_silent hd hb hp hs]
      exact .inl rfl

/-- Two decks on one clip are two holders (R174). -/
theorem State.two_le_holders {s : State} (hlen : s.decks.table.length = 2) {i : Nat}
    (h0 : (s.deck 0).clip.map handleSlot = some i) (h1 : (s.deck 1).clip.map handleSlot = some i) : 2 ≤ s.holders i := by
  unfold State.holders
  rw [State.deckTable_eq hlen, List.filter_cons_of_pos (by exact decide_eq_true h0),
    List.filter_cons_of_pos (by exact decide_eq_true h1)]
  simp

/-- Deck 0's release leaves deck 1's clip, but for the reference count: a clip both hold is not freed. -/
theorem State.clipsOk.deckClip_releaseHeld {s t : State} (hs : s.clipsOk) (hclips : t.clips = (s.releaseHeld 0).clips)
    (hdeck : t.deck 1 = s.deck 1) : ∃ refs : Clip → Nat, t.deckClip 1 = (s.deckClip 1).map fun c => { c with refs := refs c } := by
  have hnames := hs.names
  obtain ⟨hz, hslots, -, hdecks, -⟩ := hs
  obtain ⟨-, -, -, -, -, -, -, -, -, -, -, hcliplen, -, hlen, -⟩ := hz
  unfold State.deckClip
  rw [hdeck]
  cases h1 : (s.deck 1).clip with
  | none => exact ⟨fun _ => 0, rfl⟩
  | some x =>
    have hslot : t.clipSlot (handleSlot x) = (s.releaseHeld 0).clipSlot (handleSlot x) := by simp [State.clipSlot, hclips]
    have htnames : t.namesClip x := by
      obtain ⟨_, _, heq, hgen, -⟩ := s.releaseHeld_eq 0
      refine (State.namesClip_congr ?_ x).2 (hnames 1 x h1)
      rw [hclips, heq]
      exact hgen
    rw [Option.bind_some, Option.bind_some, State.lookupClip_of_names htnames, State.lookupClip_of_names (hnames 1 x h1), hslot,
      State.releaseHeld]
    cases h0 : (s.deck 0).clip with
    | none => exact ⟨Clip.refs, by cases (s.clipSlot (handleSlot x)).clip <;> rfl⟩
    | some y =>
      dsimp only
      rw [State.clipSlot_releaseClip (hnames 0 y h0)]
      by_cases hxy : handleSlot y = handleSlot x
      · rw [if_pos hxy]
        cases hc : (s.clipSlot (handleSlot x)).clip with
        | none => exact ⟨fun _ => 0, by simp [ClipSlot.released, hc]⟩
        | some c =>
          have hlt : handleSlot x < 64 := hcliplen ▸ State.clipSlot_lt_of_some hc
          obtain ⟨-, -, -, -, -, -, -, -, hrefs, -⟩ := hslots _ hlt c hc
          have htwo := State.two_le_holders hlen (i := handleSlot x) (by simp [h0, hxy]) (by simp [h1])
          have hheld : ¬ (c.state = .retiring ∧ c.refs ≤ 1) := fun ⟨_, hle⟩ => by omega
          exact ⟨fun c => c.refs - 1, by simp [ClipSlot.released, hc, hheld]⟩
      · rw [if_neg hxy]
        exact ⟨Clip.refs, by cases (s.clipSlot (handleSlot x)).clip <;> rfl⟩

/-! ### Both decks in one sample period -/

/-- What the two decks can touch, each in its turn. -/
theorem State.forEachDeck_eq {f : Nat → State → State} (hf : ∀ d t, State.DeckChange d t (f d t)) (s : State) :
    ∃ slots owner table summary, forEach [0, 1] f s = { s with
      clips := { s.clips with slots := slots, owner := owner }
      decks := { s.decks with table := table }
      link := { s.link with summary := summary } } := by
  obtain ⟨_, _, _, _, h0⟩ := (hf 0 s).outside
  obtain ⟨_, _, _, _, h1⟩ := (hf 1 (f 0 s)).outside
  exact ⟨_, _, _, _, by rw [forEach_cons, forEach_cons, forEach_nil, h1, h0]⟩

/-- Each deck's outcome in a period, told from the state before it (R179). -/
theorem State.processDecks_outcome {s : State} (hs : s.clipsOk) {d : Nat} (hd : d < 2) :
    DeckOutcome (s.deck d) s.timer.clock (s.deckClip d) s.clips.memory ((forEach [0, 1] State.processDeck s).deck d)
      (forEach [0, 1] State.processDeck s).link.summary := by
  have hlen : s.decks.table.length = 2 := by
    obtain ⟨⟨-, -, -, -, -, -, -, -, -, -, -, -, -, hlen, -⟩, -⟩ := hs
    exact hlen
  have hfirst := s.deckChange_processDeck 0
  have hsecond := (s.processDeck 0).deckChange_processDeck 1
  rw [forEach_cons, forEach_cons, forEach_nil]
  match d, hd with
  | 0, _ =>
    rw [hsecond.others 0 (by omega)]
    exact (State.processDeck_outcome (by omega)).raised hsecond.raised
  | 1, _ =>
    have hdeck : (s.processDeck 0).deck 1 = s.deck 1 := hfirst.others 1 (by omega)
    have hclip : ∃ refs : Clip → Nat, (s.processDeck 0).deckClip 1 = (s.deckClip 1).map fun c => { c with refs := refs c } := by
      rcases State.clips_processDeck (s := s) (d := 0) (by omega) with hsame | hreleased
      · refine ⟨Clip.refs, ?_⟩
        have hlookup (x : Half) : (s.processDeck 0).lookupClip x = s.lookupClip x := by
          simp [State.lookupClip, State.clipSlot, hsame]
        simp [State.deckClip, hdeck, hlookup]
      · exact hs.deckClip_releaseHeld hreleased hdeck
    obtain ⟨refs, hclip⟩ := hclip
    have hout := State.processDeck_outcome (s := s.processDeck 0) (d := 1) (by rw [hfirst.length]; omega)
    rw [hdeck, hclip] at hout
    obtain ⟨_, _, _, _, heq⟩ := hfirst.outside
    have htimer : (s.processDeck 0).timer = s.timer := by rw [heq]
    have hmemory : (s.processDeck 0).clips.memory = s.clips.memory := by rw [heq]
    rw [htimer, hmemory] at hout
    exact hout.of_refs

/-! ### What ended the show first (log entry 37) -/

theorem State.deckPeriodDue_iff {s : State} : s.deckPeriodDue = true ↔
    (s.timer.showState = .running ∨ s.timer.showState = .ending) ∧ s.due.decksDone = false := by
  simp [State.deckPeriodDue, State.decksRun]

theorem State.decksRun_iff {s : State} :
    s.decksRun = true ↔ s.timer.showState = .running ∨ s.timer.showState = .ending := by simp [State.decksRun]

theorem State.showState_enterStopped (s : State) : s.enterStopped.timer.showState = .stopped := by
  by_cases h : s.timer.showState = .stopped
  · rwa [State.enterStopped_of_stopped h]
  · generalize hu : forEach [0, 1] State.stopDeck s.clearEffects = u
    rw [State.enterStopped_eq h hu]
    rfl

theorem State.showState_enterEnding (fade : Nat) (s : State) : (s.enterEnding fade).timer.showState = .ending := by
  generalize hu : forEach (List.range 256) (State.endRecord s.timer.clock fade) s = u
  rw [State.enterEnding_eq hu]
  rfl

/-- A STOPPED show has nothing left that ends it. -/
theorem State.takeEnds_of_stopped {s : State} (h : s.timer.showState = .stopped) :
    s.takeSilence = s ∧ s.takeEndTime = s := by
  refine ⟨State.takeSilence_of_not ?_, State.takeEndTime_of_not ?_⟩
  · simp [State.silenceExpired, State.silenceCounts, State.runningOrHeld, h]
  · simp [State.atEndTime, h]

/-- Decks of a show that the last period's end has stopped have no part in the next. -/
theorem State.takeDeckPeriod_of_stopped {s : State} (hdue : s.deckPeriodDue = true)
    (hstopped : s.takeShowEnds.timer.showState = .stopped) : s.takeDeckPeriod = s.takeShowEnds := by
  unfold State.takeDeckPeriod
  rw [if_pos hdue]
  dsimp only
  rw [if_neg (by simp [State.decksRun, hstopped])]

end Sys2Proof.Machine
end

section
/-! PROOF. The deck rows: DECK_PERIOD, DECK_BEGIN and DECK_STOP_COMPLETE. -/
namespace Sys2Proof.Machine

theorem exec_deckPeriod (s : State) : exec .deckPeriod s = .next s.takeDeckPeriod := rfl

theorem exec_deckBegin (d : Fin 2) (s : State) :
    exec (.deckBegin d) s = .next (if s.periodBegins d then s.takeDeckPeriod else s) := rfl

theorem exec_deckStopComplete (d : Fin 2) (s : State) : exec (.deckStopComplete d) s = .next (s.takeDeckStop d) := rfl

/-! ### Periods the decks have no part in, and periods that end the show -/

theorem State.takeDeckPeriod_of_not {s : State} (h : s.deckPeriodDue = false) : s.takeDeckPeriod = s := by
  unfold State.takeDeckPeriod
  rw [if_neg (by simp [h])]

/-- A sampled emergency stop stands before the two other ends of a show, and leaves them nothing. -/
theorem State.takeShowEnds_of_stop {s : State} (h : s.due.stop = true) :
    s.takeShowEnds = s.assertStop ∧ s.takeShowEnds.timer.showState = .stopped := by
  have hstopped : s.assertStop.timer.showState = .stopped := State.showState_enterStopped _
  obtain ⟨hsilence, hend⟩ := State.takeEnds_of_stopped hstopped
  have htaken : s.takeShowEnds = s.assertStop := by
    unfold State.takeShowEnds State.takeStop
    rw [if_pos h, hsilence, hend]
  exact ⟨htaken, htaken ▸ hstopped⟩

/-- The expiry of the silence timer leaves STOPPED or ENDING and takes no other event. -/
theorem State.takeSilence_spec {s : State} (hz : s.sized) (h : s.silenceExpired = true) :
    (s.takeSilence.timer.showState = .stopped ∨ s.takeSilence.timer.showState = .ending)
      ∧ s.takeSilence.due = s.due := by
  have hstate := State.not_stopped_of_runningOrHeld (State.silenceExpired_iff.1 h).1
  rw [State.takeSilence_of_expired h]
  rcases Nat.eq_zero_or_pos s.timer.storedFade with h0 | hpos
  · obtain ⟨-, -, -, -, -, -, -, -, -, -, -, hdue, -⟩ := State.enterStopped_stopsAs hz hstate
    rw [h0, State.endShow_zero]
    exact ⟨.inl s.showState_enterStopped, hdue⟩
  · obtain ⟨-, -, -, -, -, -, -, -, -, -, hdue, -⟩ := State.enterEnding_endsAs hz (s.timer.storedFade * 48)
    have hending := s.showState_enterEnding (s.timer.storedFade * 48)
    rw [State.endShow_pos hpos]
    generalize s.enterEnding (s.timer.storedFade * 48) = u at hdue hending ⊢
    exact ⟨.inr hending, hdue⟩

/-- Once the expiry of the silence timer is taken, the decks' processing finds the same as before it. -/
theorem State.takeDeckPeriod_takeSilence {s : State} (hz : s.sized) (hopens : s.deckPeriodDue = true)
    (hstop : s.due.stop = false) (h : s.silenceExpired = true) :
    s.takeSilence.takeDeckPeriod = s.takeDeckPeriod := by
  obtain ⟨hstate, hdue⟩ := State.takeSilence_spec hz h
  have hends : s.takeShowEnds = s.takeSilence.takeEndTime := by
    unfold State.takeShowEnds State.takeStop
    rw [if_neg (by simp [hstop])]
  rcases hstate with hstopped | hending
  · have hnone : s.takeShowEnds = s.takeSilence := hends.trans (State.takeEnds_of_stopped hstopped).2
    rw [State.takeDeckPeriod_of_stopped hopens (hnone ▸ hstopped), hnone,
      State.takeDeckPeriod_of_not (by simp [State.deckPeriodDue, State.decksRun, hstopped])]
  · have hdone : s.due.decksDone = false := (State.deckPeriodDue_iff.1 hopens).2
    have hagain : s.takeSilence.takeShowEnds = s.takeShowEnds := by
      have hover : s.takeSilence.silenceExpired = false := by
        simp [State.silenceExpired, State.silenceCounts, State.runningOrHeld, hending]
      rw [hends, State.takeShowEnds, State.takeStop, if_neg (by simp [hdue, hstop]), State.takeSilence_of_not hover]
    have hopens' : s.takeSilence.deckPeriodDue = true := State.deckPeriodDue_iff.2 ⟨.inr hending, hdue ▸ hdone⟩
    unfold State.takeDeckPeriod
    rw [if_pos hopens, if_pos hopens', hagain]

/-- The end time stops the show before the decks' processing. -/
theorem State.takeShowEnds_of_endTime {s : State} (hstop : s.due.stop = false) (h : s.atEndTime = true) :
    s.takeShowEnds = s.takeEndTime ∧ s.takeShowEnds.timer.showState = .stopped := by
  have hending := (State.atEndTime_iff.1 h).1
  have hsilence : s.silenceExpired = false := by
    simp [State.silenceExpired, State.silenceCounts, State.runningOrHeld, hending]
  have htaken : s.takeShowEnds = s.takeEndTime := by
    unfold State.takeShowEnds State.takeStop
    rw [if_neg (by simp [hstop]), State.takeSilence_of_not hsilence]
  refine ⟨htaken, ?_⟩
  rw [htaken, State.takeEndTime_of_reached h]
  exact s.showState_enterStopped

/-! ### A period of both decks -/

/-- A period that nothing ends is one pass over both decks (R179). -/
theorem State.takeDeckPeriod_of_due {s : State} (hopens : s.deckPeriodDue = true) (hends : s.takeShowEnds = s) :
    s.takeDeckPeriod = (forEach [0, 1] State.processDeck s).modifyDue fun d => { d with decksDone := true } := by
  have hruns : s.decksRun = true := State.decksRun_iff.2 (State.deckPeriodDue_iff.1 hopens).1
  unfold State.takeDeckPeriod
  rw [if_pos hopens]
  dsimp only
  rw [hends, if_pos hruns]

theorem State.periodBegins_iff {s : State} {d : Nat} : s.periodBegins d = true ↔ s.deckPeriodDue = true
    ∧ (s.takeShowEnds.timer.showState = .running ∨ s.takeShowEnds.timer.showState = .ending)
    ∧ (s.takeShowEnds.deck d).state = .waiting
    ∧ atOrAfter s.takeShowEnds.timer.clock (s.takeShowEnds.deck d).start = true := by
  rw [State.periodBegins, Bool.and_eq_true, Bool.and_eq_true, State.decksRun_iff, State.deckBegins_iff]

/-- Settles O45: each end of the show by what it takes, a period by its pass over the decks, and each deck by its outcome. -/
theorem deckPeriods : Obligations.DeckPeriods := by
  unfold Obligations.DeckPeriods
  intro s hs runs opens ends due moved emptied
  have hz : s.sized := hs.1
  have hopensIff : s.deckPeriodDue = true ↔ opens := State.deckPeriodDue_iff
  have hnone (hn : ¬ ends) : s.takeShowEnds = s := by
    simp only [ends, not_or, Bool.not_eq_true] at hn
    obtain ⟨hstop, hsilence, hend⟩ := hn
    exact State.takeShowEnds_of_none hstop hsilence hend
  refine ⟨fun hn => ?_, fun ho hstop => ?_, fun ho hstop hsilence => ⟨s.takeSilence, rfl, ?_⟩, fun ho hstop hend => ?_,
    fun ⟨ho, hn⟩ => ⟨s.takeDeckPeriod, rfl, ?_⟩, fun ho d => ?_, fun d => ⟨fun hp hg => ?_, fun hn => ?_⟩⟩
  · rw [← hopensIff, Bool.not_eq_true] at hn
    have hidle := State.takeDeckPeriod_of_not hn
    refine ⟨by rw [exec_deckPeriod, hidle], fun d => ?_⟩
    rw [exec_deckBegin, hidle, ite_self]
  · obtain ⟨htaken, hstopped⟩ := State.takeShowEnds_of_stop hstop
    rw [exec_deckPeriod, State.takeDeckPeriod_of_stopped (hopensIff.2 ho) hstopped, htaken]
    exact congrArg Host.Outcome.next (if_pos (.inl hstop)).symm
  · rw [exec_deckPeriod, exec_deckPeriod, State.takeDeckPeriod_takeSilence hz (hopensIff.2 ho) hstop hsilence]
  · obtain ⟨htaken, hstopped⟩ := State.takeShowEnds_of_endTime hstop hend
    rw [exec_deckPeriod, State.takeDeckPeriod_of_stopped (hopensIff.2 ho) hstopped, htaken]
    rfl
  · obtain ⟨slots, owner, table, summary, heq⟩ := State.forEachDeck_eq State.deckChange_processDeck s
    have hout (d : Nat) (hd : d < 2) := State.processDecks_outcome hs hd
    rw [State.takeDeckPeriod_of_due (hopensIff.2 ho) (hnone hn)]
    rw [heq] at hout ⊢
    exact ⟨rfl, rfl, rfl, hout⟩
  · refine ⟨s.takeDeckPeriod, rfl, ?_, hnone⟩
    rw [exec_deckBegin]
    by_cases hb : s.periodBegins d = true
    · rw [if_pos hb, if_pos (State.periodBegins_iff.1 hb).2]
    · rw [if_neg hb, if_neg fun h => hb (State.periodBegins_iff.2 ⟨hopensIff.2 ho, h⟩)]
  · rw [exec_deckStopComplete, State.takeDeckStop, if_pos (by simp [Deck.stopComplete, hp, hg])]
    rfl
  · rw [exec_deckStopComplete, State.takeDeckStop, if_neg]
    rcases hn with hn | hn <;> simp [Deck.stopComplete, hn]

end Sys2Proof.Machine
end

section
/-! PROOF. A sample period with nothing outstanding: every count advances by one. -/
namespace Sys2Proof.Machine

/-! ### Nothing outstanding, nothing to settle -/

/-- What no application changes, `forEach` does not change. -/
theorem forEach_of_fixed {α : Type} {l : List α} {f : α → State → State} {s : State} (h : ∀ a ∈ l, f a s = s) :
    forEach l f s = s := by
  induction l with
  | nil => rfl
  | cons a l ih =>
    rw [forEach_cons, h a List.mem_cons_self]
    exact ih fun b hb => h b (List.mem_cons_of_mem a hb)

theorem Line.gapEnd_of_not {l : Line} (h : l.atGapEnd = false) : l.gapEnd = l := by
  unfold Line.gapEnd
  rw [if_neg (by simp [h])]

theorem State.takeGapEnd_of_not {s : State} (h : ∀ l ∈ s.lines, l.atGapEnd = false) (n : Nat) : s.takeGapEnd n = s := by
  unfold State.takeGapEnd State.modifyLine
  rw [modify_eq_of_entry fun l hl => Line.gapEnd_of_not (h l (List.mem_of_getElem? hl))]

theorem State.takePresence_of_not {s : State} (h : ∀ p ∈ s.site.presence, p.count < 4800) (k : Nat) :
    s.takePresence k = s := by
  have hcount : (s.presence k).count < 4800 := by
    rw [State.presence, List.getD_eq_getElem?_getD]
    cases hk : s.site.presence[k]? with
    | none => decide
    | some p => exact h p (List.mem_of_getElem? hk)
  unfold State.takePresence
  rw [if_pos hcount]

theorem State.takeEnvelope_idle {s : State} (h : s.due.envelope = false) : s.takeEnvelope = s := by
  simp [State.takeEnvelope, h]

theorem State.takeEffects_idle {s : State} (h : s.due.effects = false) : s.takeEffects = s := by
  simp [State.takeEffects, h]

theorem State.takeWind_idle {s : State} (h : s.due.wind = false) : s.takeWind = s := by simp [State.takeWind, h]

theorem State.takeJet_idle {s : State} (h : s.due.jet = false) : s.takeJet = s := by simp [State.takeJet, h]

theorem State.takeLight_idle {s : State} (h : s.due.light = false) : s.takeLight = s := by simp [State.takeLight, h]

theorem State.takeStop_idle {s : State} (h : s.due.stop = false) : s.takeStop = s := by simp [State.takeStop, h]

theorem State.takeLevelLow_of_not {s : State} (h : s.site.level = .ok → s.site.levelCount < 96000) :
    s.takeLevelLow = s := by
  unfold State.takeLevelLow
  rw [if_neg fun ⟨hok, hle⟩ => Nat.not_le_of_lt (h hok) hle]

theorem State.takeLevelRestored_of_not {s : State} (h : s.site.level = .low → s.site.levelCount < 1440000) :
    s.takeLevelRestored = s := by
  unfold State.takeLevelRestored
  rw [if_neg fun ⟨hlow, hle⟩ => Nat.not_le_of_lt (h hlow) hle]

theorem State.takeSave_of_not {s : State} (h : s.store.saving = true → s.store.count < savePeriods) : s.takeSave = s := by
  unfold State.takeSave
  rw [if_neg]
  rw [Bool.and_eq_true, decide_eq_true_eq]
  exact fun ⟨hsaving, hle⟩ => Nat.not_le_of_lt (h hsaving) hle

/-- Nothing outstanding is nothing to settle (log entry 3). -/
theorem State.settle_of_quiet {s : State} (h : s.quiet) : s.settle = s := by
  obtain ⟨henvelope, heffects, hjet, hlight, hpump, hwind, hstop, hlines, hpresence, hok, hlow, hsilence, hend, hsave⟩ := h
  unfold State.settle
  dsimp only
  rw [forEach_of_fixed fun n _ => State.takeGapEnd_of_not hlines n, State.takeEnvelope_idle henvelope,
    forEach_of_fixed fun k _ => State.takePresence_of_not hpresence k, State.takeStop_idle hstop,
    State.takeLevelLow_of_not hok, State.takeLevelRestored_of_not hlow, State.takeSilence_of_not hsilence,
    State.takeEndTime_of_not hend, State.takeEffects_idle heffects, State.takeWind_idle hwind,
    State.takePumps_idle hpump, State.takeJet_idle hjet, State.takeLight_idle hlight, State.takeSave_of_not hsave]

/-! ### The decks and the mixer -/

/-- What a period's pass over the decks can touch when nothing ends the show. -/
theorem State.takeDeckPeriod_touches {s : State} (hends : s.takeShowEnds = s) : ∃ slots owner table summary ran,
    s.takeDeckPeriod = { s with
        clips := { s.clips with slots := slots, owner := owner }
        decks := { s.decks with table := table }
        link := { s.link with summary := summary }
        due := { s.due with decksDone := ran } }
      ∧ s.takeDeckPeriod.decks.table.length = s.decks.table.length := by
  cases hopens : s.deckPeriodDue with
  | false => exact ⟨_, _, _, _, _, State.takeDeckPeriod_of_not hopens, by rw [State.takeDeckPeriod_of_not hopens]⟩
  | true =>
    obtain ⟨slots, owner, table, summary, heq⟩ := State.forEachDeck_eq State.deckChange_processDeck s
    have hlen : (forEach [0, 1] State.processDeck s).decks.table.length = s.decks.table.length :=
      forEach_same (fun t => t.decks.table.length) [0, 1] State.processDeck
        (fun d _ t => (t.deckChange_processDeck d).length) s
    rw [State.takeDeckPeriod_of_due hopens hends]
    rw [heq] at hlen ⊢
    exact ⟨slots, owner, table, summary, true, rfl, hlen⟩

theorem State.deckChange_takeDeckStop (d : Nat) (s : State) : s.DeckChange d (s.takeDeckStop d) := by
  unfold State.takeDeckStop
  split
  · exact s.deckChange_endDeckNow d
  · exact .refl d s

/-- A pending stop whose gain is 0 is complete at the period's end, and no other (R183). -/
def DeckStopOutcome (k k' : Deck) (summary : Half) : Prop :=
  (k.stopPending = true ∧ k.gain = 0 → k' = { Deck.blank with given := k.given } ∧ summary.getLsbD 11 = true)
  ∧ (¬ (k.stopPending = true ∧ k.gain = 0) → k' = k)

theorem State.takeDeckStop_outcome {d : Nat} {s : State} (hd : d < s.decks.table.length) :
    DeckStopOutcome (s.deck d) ((s.takeDeckStop d).deck d) (s.takeDeckStop d).link.summary := by
  have hcomplete : (s.deck d).stopComplete = true ↔ (s.deck d).stopPending = true ∧ (s.deck d).gain = 0 := by
    simp [Deck.stopComplete]
  unfold State.takeDeckStop
  refine ⟨fun h => ?_, fun h => ?_⟩
  · rw [if_pos (hcomplete.2 h)]
    exact State.deck_endDeckNow hd
  · rw [if_neg (h ∘ hcomplete.1)]

theorem State.takeDeckStops_outcome {s : State} (hlen : s.decks.table.length = 2) {d : Nat} (hd : d < 2) :
    DeckStopOutcome (s.deck d) ((forEach [0, 1] State.takeDeckStop s).deck d)
      (forEach [0, 1] State.takeDeckStop s).link.summary := by
  have hfirst := s.deckChange_takeDeckStop 0
  have hsecond := (s.takeDeckStop 0).deckChange_takeDeckStop 1
  rw [forEach_cons, forEach_cons, forEach_nil]
  match d, hd with
  | 0, _ =>
    obtain ⟨hstop, hgo⟩ := State.takeDeckStop_outcome (s := s) (d := 0) (by omega)
    rw [hsecond.others 0 (by omega)]
    exact ⟨fun h => ⟨(hstop h).1, hsecond.raised 11 (hstop h).2⟩, hgo⟩
  | 1, _ =>
    have hout := State.takeDeckStop_outcome (s := s.takeDeckStop 0) (d := 1) (by rw [hfirst.length]; omega)
    rwa [hfirst.others 1 (by omega)] at hout

/-- A deck whose part of the period's frame the mixer has taken. -/
def Deck.mixed (k : Deck) : Deck := { k with given := Stereo.zero }

theorem State.deck_mix (d : Nat) (s : State) : s.mix.deck d = (s.deck d).mixed :=
  List.getD_map (n := d) s.decks.table Deck.blank Deck.mixed

theorem State.length_mix (s : State) : s.mix.decks.table.length = s.decks.table.length := List.length_map _

theorem State.mix_eq {s : State} {o : Stereo} (ho : s.outputFrame = o) : s.mix = { s with decks := { s.decks with
    out := o, masterNow := s.decks.master, peak := max s.decks.peak (max o.left.natAbs o.right.natAbs)
    table := s.decks.table.map Deck.mixed } } := by
  subst ho; rfl

/-- What the decks and the mixer leave of a period that nothing ends (R179, R183, R185). -/
theorem State.decksMixed_spec {s u : State} {o : Stereo} (hlen : s.decks.table.length = 2) (hends : s.takeShowEnds = s)
    (hu : s.takeDeckPeriod = u) (ho : u.outputFrame = o) :
    (∃ slots owner table summary ran, forEach [0, 1] State.takeDeckStop u.mix = { s with
        clips := { s.clips with slots := slots, owner := owner }
        decks := { s.decks with table := table, out := o, masterNow := s.decks.master,
                                peak := max s.decks.peak (max o.left.natAbs o.right.natAbs) }
        link := { s.link with summary := summary }
        due := { s.due with decksDone := ran } })
      ∧ ∀ d < 2, DeckStopOutcome (u.deck d).mixed ((forEach [0, 1] State.takeDeckStop u.mix).deck d)
          (forEach [0, 1] State.takeDeckStop u.mix).link.summary := by
  obtain ⟨_, _, _, _, ran, hframe, htable⟩ := State.takeDeckPeriod_touches hends
  obtain ⟨slots, owner, table, summary, hstops⟩ := State.forEachDeck_eq State.deckChange_takeDeckStop u.mix
  rw [hu] at hframe htable
  refine ⟨⟨slots, owner, table, summary, ran, ?_⟩, fun d hd => ?_⟩
  · rw [hstops, State.mix_eq ho, hframe]
  · rw [← State.deck_mix]
    exact State.takeDeckStops_outcome (by rw [State.length_mix, htable, hlen]) hd

/-! ### The inputs and the counts -/

theorem Pump.count_eq (p : Pump) :
    p.count = { p with timer := if p.state = .starting ∨ p.state = .stopping then p.timer + 1 else p.timer } := by
  unfold Pump.count; split <;> rfl

theorem Line.count_eq (l : Line) : l.count = { l with clocks := if l.sending then l.clocks + 1000 else l.clocks } := by
  unfold Line.count; split <;> rfl

/-- The level input counts while it disagrees with the level state (R142). -/
theorem countLevel_eq (state : LevelState) (low : Bool) (count : Nat) :
    countLevel state low count = if low = decide (state = .ok) then count + 1 else 0 := by
  cases state <;> cases low <;> rfl

theorem State.presence_sampleInputs {s : State} (i : Inputs) {k : Nat} (hk : k < s.site.presence.length) :
    (s.sampleInputs i).presence k = (s.presence k).sample (i.presence.getLsbD k) := by
  simp [State.presence, State.sampleInputs, hk]

theorem State.presence_countPeriod (k : Nat) (s : State) : s.countPeriod.presence k = s.presence k := rfl

theorem exec_samplePeriod (i : Inputs) (s : State) : exec (.samplePeriod i) s =
    .next (((forEach [0, 1] State.takeDeckStop s.settle.takeDeckPeriod.mix).sampleInputs i).countPeriod) := rfl

/-- Settles O50: the settled state is `s`, the decks touch their own parts, and every count is read off. -/
theorem samplePeriodCounts : Obligations.SamplePeriodCounts := by
  unfold Obligations.SamplePeriodCounts
  intro i s u hq hz hu phase out
  have hsettle := State.settle_of_quiet hq
  obtain ⟨henvelope, heffects, hjet, hlight, hpump, hwind, hstop, -, -, -, -, hsilence, hend, -⟩ := hq
  obtain ⟨-, -, -, -, -, -, -, hpresence, -, -, -, -, -, hlen, -⟩ := hz
  obtain rfl : s.takeDeckPeriod = u := Host.Outcome.next.inj hu
  have hends := State.takeShowEnds_of_none hstop hsilence hend
  have hout : s.takeDeckPeriod.outputFrame = out := by
    obtain ⟨_, _, _, _, _, hframe, -⟩ := State.takeDeckPeriod_touches hends
    have htimer : s.takeDeckPeriod.timer = s.timer := by rw [hframe]
    have hmaster : s.takeDeckPeriod.decks.masterNow = s.decks.masterNow := by rw [hframe]
    unfold State.outputFrame
    rw [htimer, hmaster]
  obtain ⟨⟨slots, owner, table, summary, ran, hframe⟩, hdecks⟩ := State.decksMixed_spec hlen hends rfl hout
  generalize hu' : s.takeDeckPeriod = u at *
  refine ⟨_, by rw [exec_samplePeriod, hsettle, hu'], ?_⟩
  rw [hframe] at hdecks ⊢
  refine ⟨rfl, rfl, rfl, ?_, ?_, fun k hk => ?_, ?_, rfl, ?_, ?_, rfl, rfl, rfl, rfl, rfl, rfl, fun d hd => ?_, rfl, rfl, rfl,
    rfl, rfl⟩
  · rw [← funext Pump.count_eq]
    rfl
  · rw [← countLevel_eq]
    rfl
  · rw [State.presence_countPeriod, State.presence_sampleInputs i (by rw [← hpresence] at hk; exact hk)]
    rfl
  · rw [← funext Line.count_eq]
    rfl
  · exact if_congr (by rw [State.silenceCounts, Bool.and_eq_true, decide_eq_true_eq]; rfl) rfl rfl
  · simp only [State.countPeriod, State.sampleInputs, henvelope, heffects, hjet, hlight, hpump, hwind, hstop,
      Bool.false_or]
    rfl
  · obtain ⟨hended, hgo⟩ := hdecks d hd
    exact ⟨hended, hgo⟩

end Sys2Proof.Machine
end

section
/-! PROOF. What a jet boundary makes of the effect table (R29 to R32, R34, R46), record by record. -/
namespace Sys2Proof.Machine

/-! ### Changes that make no new reference -/

/-- What `k` makes of a record refers to no group more often than the record did. -/
def NoNewRefs (k : EffectRecord → Option EffectRecord) : Prop :=
  ∀ r g, ((k r).map (EffectRecord.refsTo g)).getD 0 ≤ r.refsTo g

theorem NoNewRefs.change {k : EffectRecord → Option EffectRecord} (hk : NoNewRefs k) (e : EffectSlot) (g : Nat) :
    (e.change k).refsTo g ≤ e.refsTo g := by
  cases h : e.record with
  | none => rw [EffectSlot.change_of_none h]
  | some r => simpa [EffectSlot.change_of_some h, EffectSlot.refsTo, h] using hk r g

theorem NoNewRefs.bind {k m : EffectRecord → Option EffectRecord} (hk : NoNewRefs k) (hm : NoNewRefs m) :
    NoNewRefs fun r => (k r).bind m := by
  intro r g
  have hkr := hk r g
  dsimp only
  cases h : k r with
  | none => exact Nat.zero_le _
  | some q =>
    rw [h] at hkr
    exact (hm q g).trans hkr

/-- Two changes of a slot one after another are one. -/
theorem EffectSlot.change_change (k m : EffectRecord → Option EffectRecord) (e : EffectSlot) :
    (e.change k).change m = e.change fun r => (k r).bind m := by
  cases h : e.record <;> simp [EffectSlot.change, h]

/-- The slot of a changed record, read back. -/
theorem State.RecordChange.effectSlot_self {i : Nat} {k : EffectRecord → Option EffectRecord} {s t : State}
    (h : s.RecordChange i k t) : t.effectSlot i = (s.effectSlot i).change k := by
  cases he : s.effects.slots[i]? with
  | none => simp [State.effectSlot, h.slots, List.getD_eq_getElem?_getD, he, EffectSlot.change, EffectSlot.blank]
  | some e => simp [State.effectSlot, h.slots, List.getD_eq_getElem?_getD, he]

/-- Two changes of one record one after another. -/
theorem State.RecordChange.trans {i : Nat} {k m : EffectRecord → Option EffectRecord} {s t u : State}
    (h : s.RecordChange i k t) (hu : t.RecordChange i m u) (hk : NoNewRefs k) (hm : NoNewRefs m) :
    s.RecordChange i (fun r => (k r).bind m) u where
  slots := by
    rw [hu.slots, h.slots, List.modify_modify_eq]
    exact congrArg (s.effects.slots.modify i) (funext fun e => EffectSlot.change_change k m e)
  refs g hg := by
    have hlen : t.effects.groups.length = s.effects.groups.length := by simpa using congrArg List.length h.defined
    have hfirst := hk.change (s.effectSlot i) g
    have hsecond := hm.change ((s.effectSlot i).change k) g
    rw [hu.refs g (by omega), h.refs g hg, h.effectSlot_self, ← EffectSlot.change_change k m]
    omega
  defined := hu.defined.trans h.defined
  counters := ⟨hu.counters.1.trans h.counters.1, hu.counters.2.trans h.counters.2⟩
  outside := by
    obtain ⟨effects, rfl⟩ := h.outside
    obtain ⟨effects', rfl⟩ := hu.outside
    exact ⟨_, rfl⟩

/-- A change of a record is one whatever stands outside the effect table. -/
theorem State.RecordChange.of_effects {i : Nat} {k : EffectRecord → Option EffectRecord} {s v w : State}
    (h : v.RecordChange i k w) (hv : v.effects = s.effects) : s.RecordChange i k { s with effects := w.effects } where
  slots := by rw [← hv]; exact h.slots
  refs := by
    unfold State.group State.effectSlot
    rw [← hv]
    exact h.refs
  defined := by rw [← hv]; exact h.defined
  counters := by rw [← hv]; exact h.counters
  outside := ⟨_, rfl⟩

/-! ### The four steps on one record (R29) -/

/-- Step 1: a record's pending edit applied when its boundary has come. -/
def EffectRecord.edited (t : ShowTime) (r : EffectRecord) : EffectRecord :=
  { r with params := r.settled t, edit := if (r.editAt t).isSome then none else r.edit }

/-- Step 2: a SCHEDULED record whose start has come is ACTIVE (R30). -/
def EffectRecord.started (t : ShowTime) (r : EffectRecord) : EffectRecord :=
  if r.startReached t then { r with state := .active } else r

/-- Step 3: an ACTIVE record at its natural end is FADING, its pending edit settled (R31, R34). -/
def EffectRecord.endedNaturally (t : ShowTime) (r : EffectRecord) : EffectRecord :=
  if r.atNaturalEnd t then { r.afterEdit t with state := .fading } else r

/-- Step 4: a record whose fade is over is freed (R32). -/
def EffectRecord.unlessOver (t : ShowTime) (r : EffectRecord) : Option EffectRecord := if r.fadeOver t then none else some r

/-- The record after the first three steps. -/
def EffectRecord.threeSteps (t : ShowTime) (r : EffectRecord) : EffectRecord :=
  ((r.edited t).started t).endedNaturally t

/-- The four steps. -/
def EffectRecord.stepped (t : ShowTime) (r : EffectRecord) : Option EffectRecord := (r.threeSteps t).unlessOver t

theorem EffectRecord.editAt_eq_some {r : EffectRecord} {t : ShowTime} {e : PendingEdit} :
    r.editAt t = some e ↔ r.edit = some e ∧ atOrAfter t e.boundary = true := by
  cases he : r.edit with
  | none => simp [EffectRecord.editAt, he]
  | some e' =>
    simp only [EffectRecord.editAt, he, Option.some.injEq]
    split
    · next ht => exact ⟨fun h => by cases h; exact ⟨rfl, ht⟩, fun ⟨h, _⟩ => congrArg some h⟩
    · next ht => exact ⟨nofun, fun ⟨h, ha⟩ => absurd (h ▸ ha) ht⟩

/-- A record whose edit has come is the record with the edit settled. -/
theorem EffectRecord.edited_of_due {r : EffectRecord} {t : ShowTime} {e : PendingEdit} (h : r.editAt t = some e) :
    r.edited t = r.afterEdit t := by
  simp [EffectRecord.edited, EffectRecord.afterEdit, h]

/-- A record whose edit has not come is left as it is. -/
theorem EffectRecord.edited_of_none {r : EffectRecord} {t : ShowTime} (h : r.editAt t = none) : r.edited t = r := by
  simp [EffectRecord.edited, EffectRecord.settled, h]

/-- After step 1 no pending edit has come. -/
theorem EffectRecord.editAt_edited (t : ShowTime) (r : EffectRecord) : (r.edited t).editAt t = none := by
  cases h : r.editAt t with
  | none => rwa [EffectRecord.edited_of_none h]
  | some e => rw [EffectRecord.edited_of_due h]; rfl

theorem EffectRecord.editAt_started (t : ShowTime) (r : EffectRecord) : (r.started t).editAt t = r.editAt t := by
  unfold EffectRecord.started
  split <;> rfl

/-- A pending edit that has not come is discarded by settling it. -/
theorem EffectRecord.afterEdit_of_editAt_none {r : EffectRecord} {t : ShowTime} (h : r.editAt t = none) :
    r.afterEdit t = { r with edit := none } := by
  simp [EffectRecord.afterEdit, EffectRecord.settled, h]

/-- The steps as the boundary's rule spells them. -/
theorem EffectRecord.threeSteps_eq (t : ShowTime) (r : EffectRecord) : r.threeSteps t =
    if ((r.edited t).started t).atNaturalEnd t then { (r.edited t).started t with state := .fading, edit := none }
    else (r.edited t).started t := by
  unfold EffectRecord.threeSteps EffectRecord.endedNaturally
  rw [EffectRecord.afterEdit_of_editAt_none ((EffectRecord.editAt_started ..).trans (r.editAt_edited t))]

/-- The steps of a boundary with the report of the envelope (R29, R46). -/
theorem EffectRecord.atBoundary_eq (sh : ShowState) (t : ShowTime) (r : EffectRecord) :
    r.atBoundary sh t = (r.stepped t).map fun q => { q with reported := envelopeAt sh q t } := by
  have hstarted : (r.edited t).started t =
      if (r.edited t).state = .scheduled ∧ atOrAfter t (r.edited t).params.start = true then
        { r.edited t with state := .active } else r.edited t := by
    simp [EffectRecord.started, EffectRecord.startReached]
  have hspelled : r.atBoundary sh t = if (r.threeSteps t).fadeOver t then none
      else some { r.threeSteps t with reported := envelopeAt sh (r.threeSteps t) t } := by
    rw [EffectRecord.threeSteps_eq, hstarted]
    rfl
  rw [hspelled, EffectRecord.stepped, EffectRecord.unlessOver]
  split <;> rfl

/-! ### References through the steps -/

/-- Settling an edit makes no new reference: an applied edit's group was reserved before. -/
theorem EffectRecord.refsTo_afterEdit_le (t : ShowTime) (r : EffectRecord) (g : Nat) :
    (r.afterEdit t).refsTo g ≤ r.refsTo g := by
  have hat : (r.editAt t).bind (·.fields.group) = r.reserved ∨ (r.editAt t).bind (·.fields.group) = none := by
    cases h : r.editAt t with
    | none => exact .inr rfl
    | some e =>
      obtain ⟨he, -⟩ := EffectRecord.editAt_eq_some.1 h
      simp [EffectRecord.reserved, he]
  simp only [EffectRecord.refsTo, EffectRecord.afterEdit, EffectRecord.group_settled]
  rcases hat with hat | hat <;> rw [hat]
  · cases hres : r.reserved <;> simp [EffectRecord.reserved]
  · simp [EffectRecord.reserved]

theorem noNewRefs_edited (t : ShowTime) : NoNewRefs fun r => some (r.edited t) := by
  intro r g
  show (r.edited t).refsTo g ≤ r.refsTo g
  cases h : r.editAt t with
  | none => rw [EffectRecord.edited_of_none h]
  | some e => rw [EffectRecord.edited_of_due h]; exact r.refsTo_afterEdit_le t g

theorem noNewRefs_started (t : ShowTime) : NoNewRefs fun r => some (r.started t) := by
  intro r g
  show (r.started t).refsTo g ≤ r.refsTo g
  unfold EffectRecord.started
  split
  · exact Nat.le_refl (r.refsTo g)
  · exact Nat.le_refl _

theorem noNewRefs_endedNaturally (t : ShowTime) : NoNewRefs fun r => some (r.endedNaturally t) := by
  intro r g
  show (r.endedNaturally t).refsTo g ≤ r.refsTo g
  unfold EffectRecord.endedNaturally
  split
  · exact r.refsTo_afterEdit_le t g
  · exact Nat.le_refl _

theorem noNewRefs_unlessOver (t : ShowTime) : NoNewRefs fun r => r.unlessOver t := by
  intro r g
  dsimp only
  unfold EffectRecord.unlessOver
  split
  · exact Nat.zero_le _
  · exact Nat.le_refl _

theorem noNewRefs_stepped (t : ShowTime) : NoNewRefs (EffectRecord.stepped t) :=
  (((noNewRefs_edited t).bind (noNewRefs_started t)).bind (noNewRefs_endedNaturally t)).bind (noNewRefs_unlessOver t)

/-! ### The four steps on the state -/

/-- Step 1 changes the record as `EffectRecord.edited` says. -/
theorem State.stepPendingEdit_change (t : ShowTime) (i : Nat) (s : State) :
    s.RecordChange i (fun r => some (r.edited t)) (s.stepPendingEdit t i) := by
  unfold State.stepPendingEdit
  split
  · next r hr =>
    split
    · next e he =>
      obtain ⟨hedit, hdue⟩ := EffectRecord.editAt_eq_some.1 he
      have happly : s.applyEdit i r e = s.settleEdit i t := by simp [State.settleEdit, hr, hedit, hdue]
      rw [happly]
      refine (s.settleEdit_change i t).congr fun q hq => ?_
      obtain rfl : r = q := by simpa [hr] using hq
      rw [EffectRecord.edited_of_due he]
    · next he => exact .of_same (by rw [EffectSlot.change_of_some hr, EffectRecord.edited_of_none he, ← hr])
  · next hr => exact .of_same (EffectSlot.change_of_none hr)

/-- Step 2 changes the record as `EffectRecord.started` says. -/
theorem State.stepStart_change (t : ShowTime) (i : Nat) (s : State) :
    s.RecordChange i (fun r => some (r.started t)) (s.stepStart t i) := by
  have hsame : s.RecordChange i some s := .of_same (by
    cases h : (s.effectSlot i).record with
    | none => exact EffectSlot.change_of_none h
    | some r => rw [EffectSlot.change_of_some h, ← h])
  refine hsame.modifyRecord (EffectRecord.started t) fun g r => ?_
  unfold EffectRecord.started
  split <;> rfl

/-- Step 3 changes the record as `EffectRecord.endedNaturally` says. -/
theorem State.stepNaturalEnd_change (t : ShowTime) (i : Nat) (s : State) :
    s.RecordChange i (fun r => some (r.endedNaturally t)) (s.stepNaturalEnd t i) := by
  unfold State.stepNaturalEnd
  split
  · next r hr =>
    split
    · next hend =>
      refine ((s.settleEdit_change i t).modifyRecord (fun r => { r with state := .fading }) fun _ _ => rfl).congr fun q hq => ?_
      obtain rfl : r = q := by simpa [hr] using hq
      simp [EffectRecord.endedNaturally, hend]
    · next hend => exact .of_same (by rw [EffectSlot.change_of_some hr]; simp [EffectRecord.endedNaturally, hend, ← hr])
  · next hr => exact .of_same (EffectSlot.change_of_none hr)

/-- Step 4 without its bit: a record whose fade is over is freed. -/
def State.freeIfOver (t : ShowTime) (i : Nat) (s : State) : State :=
  if s.recordMeets i (·.fadeOver t) then s.freeRecord i else s

/-- Whether a slot holds a record that meets a condition. -/
theorem State.recordMeets_of_some {s : State} {i : Nat} {p : EffectRecord → Bool} {r : EffectRecord}
    (h : (s.effectSlot i).record = some r) : s.recordMeets i p = p r := by
  simp [State.recordMeets, h]

theorem State.recordMeets_of_none {s : State} {i : Nat} {p : EffectRecord → Bool} (h : (s.effectSlot i).record = none) :
    s.recordMeets i p = false := by
  simp [State.recordMeets, h]

/-- Step 4 is the freeing, and the bit when there is one. -/
theorem State.stepFadeComplete_eq (t : ShowTime) (i : Nat) (s : State) :
    s.stepFadeComplete t i = (s.freeIfOver t i).raiseIf (s.recordMeets i (·.fadeOver t)) .effectEnded := by
  unfold State.stepFadeComplete State.freeIfOver
  split
  · next r hr =>
    rw [State.recordMeets_of_some hr]
    cases r.fadeOver t <;> rfl
  · next hr =>
    rw [State.recordMeets_of_none hr]
    rfl

theorem State.freeIfOver_change (t : ShowTime) (i : Nat) (s : State) :
    s.RecordChange i (fun r => r.unlessOver t) (s.freeIfOver t i) := by
  unfold State.freeIfOver
  cases hr : (s.effectSlot i).record with
  | none =>
    rw [State.recordMeets_of_none hr]
    exact .of_same (EffectSlot.change_of_none hr)
  | some r =>
    rw [State.recordMeets_of_some hr]
    split
    · next hover =>
      refine (s.freeRecord_change i).congr fun q hq => ?_
      obtain rfl : r = q := by simpa [hr] using hq
      simp [EffectRecord.unlessOver, hover]
    · next hover => exact .of_same (by rw [EffectSlot.change_of_some hr]; simp [EffectRecord.unlessOver, hover, ← hr])

/-- The first three steps on the state. -/
def State.threeSteps (t : ShowTime) (i : Nat) (s : State) : State :=
  ((s.stepPendingEdit t i).stepStart t i).stepNaturalEnd t i

theorem State.twoSteps_change (t : ShowTime) (i : Nat) (s : State) :
    s.RecordChange i (fun r => some ((r.edited t).started t)) ((s.stepPendingEdit t i).stepStart t i) :=
  (s.stepPendingEdit_change t i).trans (State.stepStart_change ..) (noNewRefs_edited t) (noNewRefs_started t)

theorem State.threeSteps_change (t : ShowTime) (i : Nat) (s : State) :
    s.RecordChange i (fun r => some (r.threeSteps t)) (s.threeSteps t i) :=
  (s.twoSteps_change t i).trans (State.stepNaturalEnd_change ..) ((noNewRefs_edited t).bind (noNewRefs_started t))
    (noNewRefs_endedNaturally t)

theorem State.fourSteps_change (t : ShowTime) (i : Nat) (s : State) :
    s.RecordChange i (EffectRecord.stepped t) ((s.threeSteps t i).freeIfOver t i) :=
  (s.threeSteps_change t i).trans (State.freeIfOver_change ..)
    (((noNewRefs_edited t).bind (noNewRefs_started t)).bind (noNewRefs_endedNaturally t)) (noNewRefs_unlessOver t)

/-- A condition on the record of a slot after a change that keeps it. -/
theorem State.RecordChange.recordMeets {i : Nat} {f : EffectRecord → EffectRecord} {s t : State}
    (h : s.RecordChange i (fun r => some (f r)) t) (p : EffectRecord → Bool) :
    t.recordMeets i p = s.recordMeets i fun r => p (f r) := by
  unfold State.recordMeets
  rw [h.effectSlot_self]
  cases hr : (s.effectSlot i).record <;> simp [EffectSlot.change, hr]

/-- Whether the boundary at `t` ends the record of a slot. -/
def EffectSlot.endsAt (t : ShowTime) (e : EffectSlot) : Bool := e.record.any fun r => (r.stepped t).isNone

/-- One record at a boundary: its four steps, and EFFECT_ENDED when they free it (R29, R32). -/
theorem State.boundaryRecord_eq (t : ShowTime) (i : Nat) (s : State) : s.boundaryRecord t i =
    ((s.threeSteps t i).freeIfOver t i).raiseIf ((s.effectSlot i).endsAt t) .effectEnded := by
  have hends : (s.threeSteps t i).recordMeets i (·.fadeOver t) = (s.effectSlot i).endsAt t := by
    rw [(s.threeSteps_change t i).recordMeets]
    refine congrArg (fun p => (s.effectSlot i).record.any p) (funext fun r => ?_)
    unfold EffectRecord.stepped EffectRecord.unlessOver
    cases (r.threeSteps t).fadeOver t <;> rfl
  rw [← hends]
  exact State.stepFadeComplete_eq t i (s.threeSteps t i)

/-! ### Every record at a boundary -/

theorem State.raiseIf_raiseIf (a b : Bool) (e : Event) (s : State) : (s.raiseIf a e).raiseIf b e = s.raiseIf (a || b) e := by
  cases a <;> cases b <;> simp [State.raiseIf, State.raise, State.raiseBits, BitVec.or_assoc]

/-- A raised bit leaves the effect table. -/
theorem State.effects_raiseIf (b : Bool) (e : Event) (s : State) : (s.raiseIf b e).effects = s.effects := by
  cases b <;> rfl

theorem State.effects_of_raiseIf {s : State} (b : Bool) (e : Event) (effects : EffectScheduler) :
    { s.raiseIf b e with effects := effects } = ({ s with effects := effects } : State).raiseIf b e := by
  cases b <;> rfl

/-- The pass of a boundary over the slots below `n`: each record through its four steps, and EFFECT_ENDED when one is
freed. -/
theorem State.boundaryPass (t : ShowTime) (s : State) (n : Nat) : ∃ effects,
    forEach (List.range n) (State.boundaryRecord t) s =
      ({ s with effects := effects } : State).raiseIf ((s.effects.slots.take n).any (EffectSlot.endsAt t)) .effectEnded
    ∧ s.RecordsChange n (EffectRecord.stepped t) { s with effects := effects } := by
  induction n with
  | zero => exact ⟨s.effects, rfl, fun j => by simp, fun g _ => by simp, rfl, ⟨rfl, rfl⟩, ⟨_, rfl⟩⟩
  | succ n ih =>
    obtain ⟨effects, heq, hpass⟩ := ih
    have hstep : forEach (List.range (n + 1)) (State.boundaryRecord t) s =
        State.boundaryRecord t n (forEach (List.range n) (State.boundaryRecord t) s) := by
      simp [forEach, List.range_succ]
    generalize hb : (s.effects.slots.take n).any (EffectSlot.endsAt t) = ended at heq
    generalize hv : ({ s with effects := effects } : State).raiseIf ended .effectEnded = v at heq
    have heffects : v.effects = effects := by rw [← hv, State.effects_raiseIf]
    have hslot : v.effectSlot n = s.effectSlot n := by
      have hread := hpass.slots n
      simp only [Nat.lt_irrefl, if_false] at hread
      simp only [State.effectSlot, heffects, List.getD_eq_getElem?_getD, hread]
    have hchange := State.fourSteps_change t n v
    obtain ⟨effects', hnext⟩ := hchange.outside
    have hends : (s.effects.slots.take (n + 1)).any (EffectSlot.endsAt t) = (ended || (s.effectSlot n).endsAt t) := by
      rw [List.take_add_one, List.any_append, hb]
      cases he : s.effects.slots[n]? with
      | none => simp [State.effectSlot, List.getD_eq_getElem?_getD, he, EffectSlot.endsAt, EffectSlot.blank]
      | some e => simp [State.effectSlot_of_getElem? he]
    refine ⟨effects', ?_, ?_⟩
    · rw [hstep, heq, State.boundaryRecord_eq, hnext, hslot, ← hv, State.effects_of_raiseIf, State.raiseIf_raiseIf, hends]
    · have hfrom := hchange.of_effects (s := { s with effects := effects }) heffects
      rw [hnext] at hfrom
      exact hpass.next hfrom

/-- What the report of an envelope makes of a record (R46). -/
def EffectRecord.report (sh : ShowState) (t : ShowTime) (r : EffectRecord) : EffectRecord :=
  { r with reported := envelopeAt sh r t }

theorem EffectSlot.map_record_eq_change (f : EffectRecord → EffectRecord) (e : EffectSlot) :
    { e with record := e.record.map f } = e.change fun r => some (f r) := by
  cases h : e.record <;> simp [EffectSlot.change, h]

/-- The reports leave the references. -/
theorem State.refsTo_reportEnvelopes (t : ShowTime) (s : State) (g : Nat) : (s.reportEnvelopes t).refsTo g = s.refsTo g := by
  rw [State.refsTo_eq_sum, State.refsTo_eq_sum]
  simp only [State.reportEnvelopes, List.map_map]
  refine congrArg List.sum (List.map_congr_left fun e _ => ?_)
  cases h : e.record <;> simp only [Function.comp_apply, EffectSlot.refsTo, h] <;> rfl

/-- The boundary of a RUNNING, HELD or ENDING show as a whole (R29 to R32, R46). -/
theorem State.schedule_eq {s : State} (hz : s.sized) (hs : s.timer.showState ≠ .stopped) : ∃ effects,
    s.schedule = ({ s with effects := effects } : State).raiseIf
      (s.effects.slots.any (EffectSlot.endsAt s.timer.clock)) .effectEnded
    ∧ effects.slots = s.effects.slots.map (EffectSlot.change (EffectRecord.atBoundary s.timer.showState s.timer.clock))
    ∧ effects.addCounter = s.effects.addCounter ∧ effects.touchCounter = s.effects.touchCounter
    ∧ effects.groups.map (·.defined) = s.effects.groups.map (·.defined)
    ∧ s.refsFollow { s with effects := effects } := by
  obtain ⟨hslots, hgroups, -⟩ := hz
  obtain ⟨effects, heq, hpass⟩ := s.boundaryPass s.timer.clock 256
  have hlist := hpass.slots_eq (by omega)
  rw [List.take_of_length_le (by omega)] at heq
  let reported := ({ s with effects := effects } : State).reportEnvelopes s.timer.clock
  refine ⟨reported.effects, ?_, ?_, hpass.counters.1, hpass.counters.2, hpass.defined, fun ⟨_, hrefs, _⟩ g hg => ?_⟩
  · unfold State.schedule
    rw [if_neg hs, heq]
    cases s.effects.slots.any (EffectSlot.endsAt s.timer.clock) <;> rfl
  · have hmap : reported.effects.slots = effects.slots.map (EffectSlot.change fun r =>
        some (r.report s.timer.showState s.timer.clock)) :=
      congrArg (List.map · effects.slots) (funext fun e => EffectSlot.map_record_eq_change _ e)
    rw [hmap, hlist, List.map_map]
    refine congrArg (List.map · s.effects.slots) (funext fun e => ?_)
    rw [Function.comp_apply, EffectSlot.change_change]
    refine congrArg (EffectSlot.change · e) (funext fun r => ?_)
    rw [EffectRecord.atBoundary_eq]
    cases r.stepped s.timer.clock <;> rfl
  · have hfollow := hpass.refs_follow (by omega) (noNewRefs_stepped _).change (g := g) (by omega) (hrefs g hg)
    exact hfollow.trans (State.refsTo_reportEnvelopes s.timer.clock { s with effects := effects } g).symm

end Sys2Proof.Machine
end

section
/-! PROOF. The rows of a jet boundary (R29 to R32, R46). -/
namespace Sys2Proof.Machine

/-! ### EFFECT_BOUNDARY -/

/-- A boundary outstanding is taken, whole. -/
theorem State.takeEffects_due {s : State} (h : s.due.effects = true) :
    s.takeEffects = s.schedule.modifyDue fun d => { d with effects := false } := by
  simp [State.takeEffects, h]

/-- In STOPPED the scheduler moves nothing (R46). -/
theorem State.schedule_of_stopped {s : State} (h : s.timer.showState = .stopped) : s.schedule = s := by
  simp [State.schedule, h]

/-- A slot's record that the boundary frees is one of the table's. -/
theorem State.any_endsAt (sh : ShowState) (t : ShowTime) (s : State) :
    s.effects.slots.any (EffectSlot.endsAt t) = s.records.any fun r => (r.atBoundary sh t).isNone := by
  unfold State.records
  induction s.effects.slots with
  | nil => rfl
  | cons e l ih => cases h : e.record <;> simp [EffectSlot.endsAt, EffectRecord.atBoundary_eq, h, ih]

/-- Settles O18: the pass over the slots, each record through its own steps. -/
theorem effectBoundaryIsRecordwise : Obligations.EffectBoundaryIsRecordwise := by
  unfold Obligations.EffectBoundaryIsRecordwise
  intro s hz
  have hexec : exec .effectBoundary s = .next s.takeEffects := rfl
  refine ⟨fun hdue => ?_, fun hdue hs => ?_, fun hdue hs => ?_⟩ <;> rw [hexec]
  · rw [State.takeEffects_idle hdue]
  · rw [State.takeEffects_due hdue, State.schedule_of_stopped hs]
    rfl
  · obtain ⟨effects, hschedule, hslots, hadd, htouch, hdef, hrefs⟩ := State.schedule_eq hz hs
    rw [State.any_endsAt s.timer.showState] at hschedule
    refine ⟨_, rfl, ?_⟩
    rw [State.takeEffects_due hdue, hschedule]
    generalize (s.records.any fun r => (r.atBoundary s.timer.showState s.timer.clock).isNone) = ended
    cases ended <;>
      exact ⟨⟨rfl, rfl, rfl, rfl, rfl, rfl, rfl, rfl, rfl, rfl, rfl⟩, rfl, rfl, hslots, hadd, htouch, hdef, hrefs⟩

/-! ### The rows inside the boundary -/

/-- A row inside the boundary, on an outstanding one of a show that is not STOPPED. -/
theorem State.takeEffectsIf_due {s : State} (hdue : s.due.effects = true) (hs : s.timer.showState ≠ .stopped)
    (makes : ShowTime → State → Bool) :
    s.takeEffectsIf makes = if makes s.timer.clock s then s.takeEffects else s := by
  simp [State.takeEffectsIf, hdue, hs]

/-- A row inside the boundary that finds no boundary, a STOPPED show or no transition. -/
theorem State.takeEffectsIf_not {s : State} {makes : ShowTime → State → Bool}
    (h : s.due.effects = false ∨ s.timer.showState = .stopped ∨ makes s.timer.clock s = false) :
    s.takeEffectsIf makes = s := by
  rcases s.takeEffectsIf_eq makes with ⟨hdue, hs, hmakes, -⟩ | ⟨-, heq⟩
  · simp [hdue, hs, hmakes] at h
  · exact heq

theorem exec_pendingEditApplied (i : Fin 256) (s : State) : exec (.pendingEditApplied i) s =
    .next (s.takeEffectsIf fun t => State.recordMeets i fun r => (r.editAt t).isSome) := rfl

theorem exec_effectStartReached (i : Fin 256) (s : State) : exec (.effectStartReached i) s =
    .next (s.takeEffectsIf fun t => State.recordMeets i fun r => (r.edited t).startReached t) := by
  refine congrArg (fun makes => Host.Outcome.next (s.takeEffectsIf makes)) (funext fun t => funext fun u => ?_)
  exact (u.stepPendingEdit_change t i).recordMeets _

theorem exec_naturalEnd (i : Fin 256) (s : State) : exec (.naturalEnd i) s =
    .next (s.takeEffectsIf fun t => State.recordMeets i fun r => ((r.edited t).started t).atNaturalEnd t) := by
  refine congrArg (fun makes => Host.Outcome.next (s.takeEffectsIf makes)) (funext fun t => funext fun u => ?_)
  exact (u.twoSteps_change t i).recordMeets _

theorem exec_fadeComplete (i : Fin 256) (s : State) : exec (.fadeComplete i) s =
    .next (s.takeEffectsIf fun t => State.recordMeets i fun r => (r.threeSteps t).fadeOver t) := by
  refine congrArg (fun makes => Host.Outcome.next (s.takeEffectsIf makes)) (funext fun t => funext fun u => ?_)
  exact (u.threeSteps_change t i).recordMeets _

/-! ### The steps of one record as the rule spells them -/

/-- Step 1, by the pending edit and its boundary. -/
theorem EffectRecord.edited_eq (t : ShowTime) (r : EffectRecord) : r.edited t = match r.edit with
    | some e => if atOrAfter t e.boundary then { r with params := (r.params.overlay e.fields).normalise, edit := none } else r
    | none => r := by
  cases hat : r.editAt t with
  | some e =>
    obtain ⟨he, hdue⟩ := EffectRecord.editAt_eq_some.1 hat
    simp only [he, hdue, if_true]
    rw [EffectRecord.edited_of_due hat, EffectRecord.afterEdit, EffectRecord.settled, hat]
  | none =>
    rw [EffectRecord.edited_of_none hat]
    split
    · next e he =>
      have hdue : ¬ atOrAfter t e.boundary = true := fun h => by
        simp [EffectRecord.editAt_eq_some.2 ⟨he, h⟩] at hat
      rw [if_neg hdue]
    · rfl

theorem EffectRecord.isSome_editAt {t : ShowTime} {r : EffectRecord} :
    (r.editAt t).isSome = true ↔ ∃ e, r.edit = some e ∧ atOrAfter t e.boundary = true := by
  simp [Option.isSome_iff_exists, EffectRecord.editAt_eq_some]

theorem EffectRecord.startReached_iff {t : ShowTime} {r : EffectRecord} :
    r.startReached t = true ↔ r.state = .scheduled ∧ atOrAfter t r.params.start = true := by
  simp [EffectRecord.startReached]

theorem EffectRecord.atNaturalEnd_iff {t : ShowTime} {r : EffectRecord} : r.atNaturalEnd t = true ↔
    r.state = .active ∧ r.params.duration ≠ 0
      ∧ atOrAfter t (r.params.start + BitVec.ofNat 32 r.params.duration) = true := by
  simp [EffectRecord.atNaturalEnd, naturalEnd, after, and_assoc]

theorem State.effectSlot_lt_of_some {s : State} {i : Nat} {r : EffectRecord} (h : (s.effectSlot i).record = some r) :
    i < s.effects.slots.length := by
  by_contra hi
  simp [State.effectSlot, List.getD_eq_getElem?_getD, List.getElem?_eq_none (Nat.le_of_not_lt hi), EffectSlot.blank] at h

/-- The record of a slot of a table changed throughout, read back. -/
theorem State.record_of_map_change {s t : State} {k : EffectRecord → Option EffectRecord} {i : Nat} {r : EffectRecord}
    (ht : t.effects.slots = s.effects.slots.map (EffectSlot.change k)) (hr : (s.effectSlot i).record = some r) :
    (t.effectSlot i).record = k r := by
  have hi := State.effectSlot_lt_of_some hr
  simp only [State.effectSlot, List.getD_eq_getElem?_getD, List.getElem?_eq_getElem hi, Option.getD_some] at hr
  simp [State.effectSlot, List.getD_eq_getElem?_getD, ht, List.getElem?_eq_getElem hi, EffectSlot.change, hr]

/-- Settles O17: each row takes the boundary exactly when its step makes its transition on what the steps before left. -/
theorem boundarySteps : Obligations.BoundarySteps := by
  unfold Obligations.BoundarySteps
  intro i s t
  rw [exec_pendingEditApplied, exec_effectStartReached, exec_naturalEnd, exec_fadeComplete]
  refine ⟨fun h => ?_, fun hdue hs hz r hr => ?_⟩
  · have hidle (p : ShowTime → EffectRecord → Bool) : s.takeEffectsIf (fun t => State.recordMeets i (p t)) = s :=
      State.takeEffectsIf_not (h.imp_right (Or.imp_right State.recordMeets_of_none))
    exact ⟨by rw [hidle], by rw [hidle], by rw [hidle], by rw [hidle]⟩
  intro edited r1 started r2 ended r3 freed
  have hr1 : r1 = r.edited t := (r.edited_eq t).symm
  have hstarted : (r.edited t).startReached t = true ↔ started := hr1 ▸ EffectRecord.startReached_iff
  have hr2 : r2 = (r.edited t).started t := by
    simp only [r2, EffectRecord.started, hr1]
    exact if_congr hstarted.symm rfl rfl
  have hended : ((r.edited t).started t).atNaturalEnd t = true ↔ ended := hr2 ▸ EffectRecord.atNaturalEnd_iff
  have hr3 : r3 = r.threeSteps t := by
    simp only [r3, EffectRecord.threeSteps_eq, hr2]
    exact if_congr hended.symm rfl rfl
  have hfreed : (r.threeSteps t).fadeOver t = true ↔ freed := hr3 ▸ Iff.rfl
  have hrow {c : Prop} [Decidable c] (p : ShowTime → EffectRecord → Bool) (hp : p t r = true ↔ c) :
      s.takeEffectsIf (fun t => State.recordMeets i (p t)) = if c then s.takeEffects else s := by
    rw [State.takeEffectsIf_due hdue hs, State.recordMeets_of_some hr]
    exact if_congr hp rfl rfl
  obtain ⟨effects, hschedule, hslots, -⟩ := State.schedule_eq hz hs
  have htaken := State.takeEffects_due hdue
  rw [hschedule] at htaken
  have heffects : s.takeEffects.effects = effects := by rw [htaken, State.modifyDue_effects, State.effects_raiseIf]
  refine ⟨s.takeEffects, rfl, ?_, ?_, fun hf => ?_, ?_, ?_, ?_, ?_⟩
  · rw [htaken]
    generalize s.effects.slots.any _ = any
    cases any <;> rfl
  · rw [State.record_of_map_change (heffects ▸ hslots) hr, EffectRecord.atBoundary_eq, EffectRecord.stepped,
      EffectRecord.unlessOver, ← hr3]
    by_cases hf : r3.fadeOver t = true
    · rw [if_pos hf, if_pos (show freed from hf)]
      rfl
    · rw [if_neg hf, if_neg (show ¬ freed from hf)]
      rfl
  · have hany : s.effects.slots.any (EffectSlot.endsAt s.timer.clock) = true := by
      have hi := State.effectSlot_lt_of_some hr
      have hover : (r.threeSteps s.timer.clock).fadeOver s.timer.clock = true := hfreed.2 hf
      refine List.any_eq_true.2 ⟨s.effects.slots[i.val], List.getElem_mem hi, ?_⟩
      rw [← State.effectSlot_of_getElem? (List.getElem?_eq_getElem hi)]
      simp [EffectSlot.endsAt, hr, EffectRecord.stepped, EffectRecord.unlessOver, hover]
    rw [htaken, hany]
    exact State.summary_raise_bit .effectEnded _
  · exact congrArg Host.Outcome.next (hrow _ EffectRecord.isSome_editAt)
  · exact congrArg Host.Outcome.next (hrow _ hstarted)
  · exact congrArg Host.Outcome.next (hrow _ hended)
  · exact congrArg Host.Outcome.next (hrow _ hfreed)

end Sys2Proof.Machine
end

section
/-! PROOF. What each invariant of the effect table, the zones, the valves and the link reads, and what a change of one effect
slot keeps of it (R22, R24, R43). -/
namespace Sys2Proof.Machine

/-! ### The invariants by what they read -/

/-- The groups that a record names are 0..63 (R43). -/
def EffectRecord.inGroups (r : EffectRecord) : Prop := r.params.group < 64 ∧ ∀ g ∈ r.reserved, g < 64

/-- What `State.groupsOk` says of the effect table. -/
def State.refsAgree (s : State) : Prop :=
  s.effects.slots.length = 256 ∧ s.effects.groups.length = 64 ∧ (∀ g < 64, (s.group g).refs = s.refsTo g)
    ∧ ∀ r ∈ s.records, r.inGroups

/-- What `State.addSeqOk` says of the effect table. -/
def State.seqsAgree (s : State) : Prop :=
  s.effects.slots.length = 256 ∧ (s.records.map (·.addSeq)).Nodup ∧ (∀ r ∈ s.records, r.addSeq < s.effects.addCounter)
    ∧ s.effects.addCounter ≤ 4294967295 ∧ s.effects.touchCounter ≤ 4294967295

theorem State.groupsOk_iff {s : State} : s.groupsOk ↔ s.sized ∧ s.refsAgree := by
  constructor
  · rintro ⟨hz, hrefs, hgroups⟩
    obtain ⟨h1, h2, -⟩ := id hz
    exact ⟨hz, h1, h2, hrefs, hgroups⟩
  · rintro ⟨hz, -, -, hrefs, hgroups⟩
    exact ⟨hz, hrefs, hgroups⟩

theorem State.addSeqOk_iff {s : State} : s.addSeqOk ↔ s.sized ∧ s.seqsAgree := by
  constructor
  · rintro ⟨hz, hrest⟩
    obtain ⟨h1, -⟩ := id hz
    exact ⟨hz, h1, hrest⟩
  · rintro ⟨hz, -, hrest⟩
    exact ⟨hz, hrest⟩

/-- What `State.linkOk` reads of the link. -/
def ShowLink.transport (l : ShowLink) : Bool × List Reply × Option (List Byte) × Option (List Byte) × Option Half :=
  (l.attached, l.replies, l.transfer, l.clipTransfer, l.notice)

/-- From `s` to `t` the invariants of the effect table, the zones and the valves are kept, and what the link's invariant
reads stands as it was. -/
structure State.Keeps (s t : State) : Prop where
  refs : s.refsAgree → t.refsAgree
  seqs : s.seqsAgree → t.seqsAgree
  levels : s.levelsOk → t.levelsOk
  wind : s.windOk → t.windOk
  valves : s.valvesOk → t.valvesOk
  transport : t.link.transport = s.link.transport

theorem State.Keeps.refl (s : State) : s.Keeps s := ⟨id, id, id, id, id, rfl⟩

theorem State.Keeps.trans {s t u : State} (h : s.Keeps t) (k : t.Keeps u) : s.Keeps u :=
  ⟨k.refs ∘ h.refs, k.seqs ∘ h.seqs, k.levels ∘ h.levels, k.wind ∘ h.wind, k.valves ∘ h.valves,
    k.transport.trans h.transport⟩

theorem State.keeps_forEach {α : Type} (l : List α) (f : α → State → State) (h : ∀ a s, State.Keeps s (f a s)) (s : State) :
    s.Keeps (forEach l f s) :=
  forEach_keeps s.Keeps l f (fun a _ _ ht => ht.trans (h a _)) s (.refl s)

/-- All that the invariants read. -/
def State.watched (s : State) : EffectScheduler × Nat × List Zone × Nat × List Nozzle
    × Bool × List Reply × Option (List Byte) × Option (List Byte) × Option Half :=
  (s.effects, s.decks.envelope, s.site.zones, s.site.heldWind, s.nozzles.table, s.link.transport)

/-- A change of nothing that the invariants read. -/
theorem State.keeps_of_watched {s t : State} (h : t.watched = s.watched) : s.Keeps t := by
  simp only [State.watched, Prod.mk.injEq] at h
  obtain ⟨heffects, henvelope, hzones, hheld, htable, htransport⟩ := h
  refine ⟨?_, ?_, ?_, ?_, ?_, htransport⟩
  · unfold State.refsAgree State.refsTo State.records State.group; rw [heffects]; exact id
  · unfold State.seqsAgree State.records; rw [heffects]; exact id
  · unfold State.levelsOk State.records; rw [heffects, henvelope]; exact id
  · unfold State.windOk; rw [hzones, hheld]; exact id
  · unfold State.valvesOk; rw [htable]; exact id

/-- A change of the effect table alone, by its three invariants. -/
theorem State.keeps_of_effects {s t : State} (hout : ∃ effects, t = { s with effects := effects })
    (hrefs : s.refsAgree → t.refsAgree) (hseqs : s.seqsAgree → t.seqsAgree)
    (hlevels : (∀ r ∈ s.records, r.levelsOk) → ∀ r ∈ t.records, r.levelsOk) : s.Keeps t := by
  obtain ⟨effects, rfl⟩ := hout
  exact ⟨hrefs, hseqs, fun ⟨hr, henvelope⟩ => ⟨hlevels hr, henvelope⟩, id, id, rfl⟩

/-! ### One effect slot replaced -/

/-- `q` may stand for `r`: it has its add sequence, and levels in range and groups 0..63 if `r` has. -/
structure EffectRecord.Follows (r q : EffectRecord) : Prop where
  addSeq : q.addSeq = r.addSeq
  levels : r.levelsOk → q.levelsOk
  groups : r.inGroups → q.inGroups

theorem EffectRecord.Follows.refl (r : EffectRecord) : r.Follows r := ⟨rfl, id, id⟩

theorem EffectRecord.Follows.trans {r q p : EffectRecord} (h : r.Follows q) (k : q.Follows p) : r.Follows p :=
  ⟨k.addSeq.trans h.addSeq, k.levels ∘ h.levels, k.groups ∘ h.groups⟩

theorem modify_eq_set {α : Type} (l : List α) (i : Nat) (f : α → α) (d : α) : l.modify i f = l.set i (f (l.getD i d)) := by
  refine List.ext_getElem? fun j => ?_
  rw [List.getElem?_modify, List.getElem?_set]
  by_cases hij : i = j
  · subst hij
    by_cases hi : i < l.length <;> simp [hi]
  · simp [hij]

/-- The sum of a figure over a list with one entry replaced. -/
theorem sum_map_set {α : Type} (h : α → Nat) {l : List α} {i : Nat} (hi : i < l.length) (a d : α) :
    ((l.set i a).map h).sum + h (l.getD i d) = (l.map h).sum + h a := by
  induction l generalizing i with
  | nil => cases hi
  | cons b l ih =>
    cases i with
    | zero => simp; omega
    | succ i =>
      have := ih (i := i) (by simpa using hi)
      simp at this ⊢
      omega

/-- A figure that an entry may have, over a list in which one entry has it no longer or still has it. -/
theorem filterMap_set_sublist {α β : Type} (key : α → Option β) {l : List α} {i : Nat} {a : α}
    (h : ∀ b, l[i]? = some b → key a = none ∨ key a = key b) :
    ((l.set i a).filterMap key).Sublist (l.filterMap key) := by
  induction l generalizing i with
  | nil => exact List.nil_sublist _
  | cons b l ih =>
    cases i with
    | zero =>
      rw [List.set_cons_zero]
      rcases h b rfl with hnone | hsame
      · rw [List.filterMap_cons_none hnone]
        exact (List.sublist_cons_self b l).filterMap key
      · simp only [List.filterMap_cons, hsame]
        exact .refl _
    | succ i =>
      rw [List.set_cons_succ]
      have hrest := ih (i := i) h
      cases hb : key b with
      | none => rwa [List.filterMap_cons_none hb, List.filterMap_cons_none hb]
      | some c => rw [List.filterMap_cons_some hb, List.filterMap_cons_some hb]; exact hrest.cons_cons c

/-- A figure that an entry gains. -/
theorem filterMap_set_perm {α β : Type} (key : α → Option β) {l : List α} {i : Nat} {a b : α} {c : β}
    (hb : l[i]? = some b) (hnone : key b = none) (ha : key a = some c) :
    ((l.set i a).filterMap key).Perm (c :: l.filterMap key) := by
  induction l generalizing i with
  | nil => cases hb
  | cons x l ih =>
    cases i with
    | zero =>
      obtain rfl : x = b := by simpa using hb
      rw [List.set_cons_zero, List.filterMap_cons_some ha, List.filterMap_cons_none hnone]
    | succ i =>
      have hrest := ih (i := i) (by simpa using hb)
      rw [List.set_cons_succ]
      cases hx : key x with
      | none => rwa [List.filterMap_cons_none hx, List.filterMap_cons_none hx]
      | some y =>
        rw [List.filterMap_cons_some hx, List.filterMap_cons_some hx]
        exact (hrest.cons y).trans (.swap c y _)

/-- The add sequences of the records, slot by slot. -/
theorem State.addSeqs_eq (s : State) :
    s.records.map (·.addSeq) = s.effects.slots.filterMap fun e => e.record.map (·.addSeq) := by
  simp [State.records, List.map_filterMap]

/-- A record of the table stands in a slot. -/
theorem State.mem_records {s : State} {r : EffectRecord} : r ∈ s.records ↔ ∃ e ∈ s.effects.slots, e.record = some r :=
  List.mem_filterMap

/-- The slot read stands in the table, or holds no record. -/
theorem State.mem_records_of_effectSlot {s : State} {i : Nat} {r : EffectRecord} (h : (s.effectSlot i).record = some r) :
    r ∈ s.records := by
  have hi := State.effectSlot_lt_of_some h
  rw [State.effectSlot_of_getElem? (List.getElem?_eq_getElem hi)] at h
  exact State.mem_records.2 ⟨_, List.getElem_mem hi, h⟩

/-- A slot refers to a group no more often than the whole table. -/
theorem State.refsTo_effectSlot_le (s : State) (i g : Nat) : (s.effectSlot i).refsTo g ≤ s.refsTo g := by
  rw [State.refsTo_eq_sum]
  by_cases hi : i < s.effects.slots.length
  · rw [State.effectSlot_of_getElem? (List.getElem?_eq_getElem hi)]
    exact List.single_le_sum (fun _ _ => Nat.zero_le _) _ (List.mem_map_of_mem (List.getElem_mem hi))
  · simp [State.effectSlot, List.getD_eq_getElem?_getD, List.getElem?_eq_none (Nat.le_of_not_lt hi), EffectSlot.blank,
      EffectSlot.refsTo]

/-- `t` is `s` with slot `i` become `e`: the record of `e`, if it has one, follows the slot's, and the counts move with the
references. -/
structure State.SlotChange (i : Nat) (e : EffectSlot) (s t : State) : Prop where
  outside : ∃ effects, t = { s with effects := effects }
  slots : t.effects.slots = s.effects.slots.set i e
  groups : t.effects.groups.length = s.effects.groups.length
  addCounter : t.effects.addCounter = s.effects.addCounter
  touchCounter : s.effects.touchCounter ≤ 4294967295 → t.effects.touchCounter ≤ 4294967295
  record : ∀ q, e.record = some q → ∃ r, (s.effectSlot i).record = some r ∧ r.Follows q
  refs : ∀ g < s.effects.groups.length, (s.effectSlot i).refsTo g ≤ (s.group g).refs →
    (t.group g).refs + (s.effectSlot i).refsTo g = (s.group g).refs + e.refsTo g

/-- The table's references once a slot is replaced. -/
theorem State.SlotChange.refsTo {i : Nat} {e : EffectSlot} {s t : State} (h : s.SlotChange i e t) (g : Nat) :
    t.refsTo g + (s.effectSlot i).refsTo g = s.refsTo g + e.refsTo g := by
  rw [State.refsTo_eq_sum, State.refsTo_eq_sum, h.slots]
  by_cases hi : i < s.effects.slots.length
  · exact sum_map_set (EffectSlot.refsTo g) hi e EffectSlot.blank
  · have hnone : e.record = none := by
      cases he : e.record with
      | none => rfl
      | some q =>
        obtain ⟨r, hr, -⟩ := h.record q he
        exact absurd (State.effectSlot_lt_of_some hr) hi
    rw [List.set_eq_of_length_le (Nat.le_of_not_lt hi)]
    simp [State.effectSlot, List.getD_eq_getElem?_getD, List.getElem?_eq_none (Nat.le_of_not_lt hi), EffectSlot.blank,
      EffectSlot.refsTo, hnone]

/-- What holds of every record, and of what follows one, holds of every record once a slot is replaced. -/
theorem State.SlotChange.forall_records {i : Nat} {e : EffectSlot} {s t : State} (h : s.SlotChange i e t)
    {P : EffectRecord → Prop} (hP : ∀ r q, r.Follows q → P r → P q) (hs : ∀ r ∈ s.records, P r) : ∀ r ∈ t.records, P r := by
  intro q hq
  obtain ⟨e', he', hq⟩ := State.mem_records.1 hq
  rw [h.slots] at he'
  rcases List.mem_or_eq_of_mem_set he' with hmem | rfl
  · exact hs q (State.mem_records.2 ⟨e', hmem, hq⟩)
  · obtain ⟨r, hr, hfollows⟩ := h.record q hq
    exact hP r q hfollows (hs r (State.mem_records_of_effectSlot hr))

/-- A slot replaced keeps the invariants. -/
theorem State.SlotChange.keeps {i : Nat} {e : EffectSlot} {s t : State} (h : s.SlotChange i e t) : s.Keeps t := by
  refine State.keeps_of_effects h.outside ?_ ?_ (h.forall_records fun _ _ hf => hf.levels)
  · rintro ⟨hslots, hgroups, hrefs, hin⟩
    refine ⟨by rw [h.slots, List.length_set, hslots], h.groups.trans hgroups, fun g hg => ?_,
      h.forall_records (fun _ _ hf => hf.groups) hin⟩
    have hbefore := hrefs g hg
    have hle := s.refsTo_effectSlot_le i g
    have hcount := h.refs g (by omega) (by omega)
    have htable := h.refsTo g
    omega
  · rintro ⟨hslots, hnodup, hbelow, hadd, htouch⟩
    refine ⟨by rw [h.slots, List.length_set, hslots], ?_, ?_, h.addCounter ▸ hadd, h.touchCounter htouch⟩
    · rw [State.addSeqs_eq, h.slots]
      rw [State.addSeqs_eq] at hnodup
      refine hnodup.sublist (filterMap_set_sublist _ fun b hb => ?_)
      cases he : e.record with
      | none => exact .inl rfl
      | some q =>
        obtain ⟨r, hr, hfollows⟩ := h.record q he
        rw [State.effectSlot_of_getElem? hb] at hr
        exact .inr (by simp [hr, hfollows.addSeq])
    · rw [h.addCounter]
      exact h.forall_records (fun _ _ hf hlt => by rwa [hf.addSeq]) hbelow

/-! ### Records freed, edited and faded -/

theorem Level.half_normalise {l : Level} (k : Kind) (m : MixMode) (h : l.half) : (l.normalise k m).half := by
  obtain ⟨hr, hg, hb, hw⟩ := h
  unfold Level.normalise
  cases k with
  | jet => simp only [Level.half]; omega
  | light =>
    dsimp only
    split
    · simp only [Level.clamp, Level.half]; omega
    · exact ⟨hr, hg, hb, hw⟩

/-- An overlaid and normalised record's levels are in range when the record's and the edit's are. -/
theorem EffectParams.half_overlay {f : EffectParams} {e : EditFields} (h0 : f.l0.half) (h1 : f.l1.half)
    (he0 : ∀ l ∈ e.l0, l.half) (he1 : ∀ l ∈ e.l1, l.half) :
    (f.overlay e).normalise.l0.half ∧ (f.overlay e).normalise.l1.half := by
  constructor
  · refine Level.half_normalise _ _ ?_
    cases hl : e.l0 with
    | none => simpa [EffectParams.overlay, hl] using h0
    | some l => simpa [EffectParams.overlay, hl] using he0 l hl
  · refine Level.half_normalise _ _ ?_
    cases hl : e.l1 with
    | none => simpa [EffectParams.overlay, hl] using h1
    | some l => simpa [EffectParams.overlay, hl] using he1 l hl

/-- A record without a pending edit has levels in range when its own are. -/
theorem EffectRecord.levelsOk_of_no_edit {r : EffectRecord} (hedit : r.edit = none) (h0 : r.params.l0.half)
    (h1 : r.params.l1.half) (himposed : ∀ f ∈ r.imposed, f.e0 ≤ 65536) : r.levelsOk :=
  ⟨h0, h1, by simp [hedit], himposed⟩

/-- A record with its edit settled follows it (R24, R29, R34). -/
theorem EffectRecord.follows_afterEdit (t : ShowTime) (r : EffectRecord) : r.Follows (r.afterEdit t) where
  addSeq := rfl
  levels := by
    rintro ⟨h0, h1, hedit, himposed⟩
    cases hat : r.editAt t with
    | none => rw [EffectRecord.afterEdit_of_editAt_none hat]; exact EffectRecord.levelsOk_of_no_edit rfl h0 h1 himposed
    | some e =>
      obtain ⟨he, -⟩ := EffectRecord.editAt_eq_some.1 hat
      obtain ⟨he0, he1⟩ := hedit e he
      have hparams : r.settled t = (r.params.overlay e.fields).normalise := by rw [EffectRecord.settled, hat]
      obtain ⟨hl0, hl1⟩ := EffectParams.half_overlay h0 h1 he0 he1
      exact EffectRecord.levelsOk_of_no_edit rfl (by rw [EffectRecord.afterEdit, hparams]; exact hl0)
        (by rw [EffectRecord.afterEdit, hparams]; exact hl1) himposed
  groups := by
    rintro ⟨hown, hreserved⟩
    refine ⟨?_, fun g hg => by cases hg⟩
    rw [EffectRecord.afterEdit, EffectRecord.group_settled]
    cases hat : (r.editAt t).bind (·.fields.group) with
    | none => exact hown
    | some g =>
      obtain ⟨e, he, hg⟩ := Option.bind_eq_some_iff.1 hat
      exact hreserved g (by simp [EffectRecord.reserved, (EffectRecord.editAt_eq_some.1 he).1, hg])

theorem EffectRecord.follows_edited (t : ShowTime) (r : EffectRecord) : r.Follows (r.edited t) := by
  cases h : r.editAt t with
  | none => rw [EffectRecord.edited_of_none h]; exact .refl r
  | some e => rw [EffectRecord.edited_of_due h]; exact r.follows_afterEdit t

theorem EffectRecord.follows_started (t : ShowTime) (r : EffectRecord) : r.Follows (r.started t) := by
  unfold EffectRecord.started
  split
  · exact ⟨rfl, id, id⟩
  · exact .refl r

theorem EffectRecord.follows_endedNaturally (t : ShowTime) (r : EffectRecord) : r.Follows (r.endedNaturally t) := by
  unfold EffectRecord.endedNaturally
  split
  · exact (r.follows_afterEdit t).trans ⟨rfl, id, id⟩
  · exact .refl r

/-- What the four steps leave of a record follows it. -/
theorem EffectRecord.follows_of_stepped {t : ShowTime} {r q : EffectRecord} (h : r.stepped t = some q) : r.Follows q := by
  unfold EffectRecord.stepped EffectRecord.unlessOver at h
  split at h
  · cases h
  · cases h
    exact (r.follows_edited t).trans ((EffectRecord.follows_started ..).trans (EffectRecord.follows_endedNaturally ..))

/-! ### The envelope's range (R55, R57) -/

theorem fadeInValue_le (tau fadeIn : Nat) : fadeInValue tau fadeIn ≤ 65536 := by
  unfold fadeInValue
  split
  · exact Nat.div_le_of_le_mul (Nat.mul_le_mul_right 65536 (by omega))
  · exact Nat.le_refl _

/-- A fade-out falls from its end value: less of the fade is left than the whole (R57). -/
theorem fadeOutValue_le {E x : ShowTime} {e0 fo : Nat} (hx : atOrAfter x E = true) (hfo : fo ≤ 2880000) :
    fadeOutValue E e0 fo x ≤ e0 := by
  unfold fadeOutValue
  split
  · exact Nat.zero_le _
  · next hover =>
    rw [atOrAfter_iff] at hx hover
    have hleft : (after E fo - x).toNat ≤ fo := by
      unfold after at hover ⊢
      bv_omega
    exact Nat.div_le_of_le_mul ((Nat.mul_le_mul_left e0 hleft).trans_eq (Nat.mul_comm e0 fo))

theorem EffectRecord.fadeOut_inForce_le (r : EffectRecord) (x : ShowTime) : (r.inForce x).fadeOut ≤ 2880000 := by
  unfold EffectRecord.inForce
  split
  · exact Nat.min_le_right _ _
  · exact Nat.min_le_right _ _

/-- The envelope of a record is at most 65,536 when the end value of its imposed fade is. -/
theorem envelopeAt_le (sh : ShowState) (x : ShowTime) {r : EffectRecord} (h : ∀ f ∈ r.imposed, f.e0 ≤ 65536) :
    envelopeAt sh r x ≤ 65536 := by
  have hend (E : ShowTime) (e0 : Nat) (he : endOf r.imposed (r.inForce x) = some (E, e0)) : e0 ≤ 65536 := by
    unfold endOf at he
    split at he
    · next i hi => cases he; exact h i hi
    · split at he
      · cases he
      · cases he; exact fadeInValue_le _ _
  unfold envelopeAt envelopeWith
  split
  · exact Nat.zero_le _
  split
  · exact Nat.zero_le _
  split
  · next E e0 he =>
    split
    · next hx => exact (fadeOutValue_le hx (r.fadeOut_inForce_le x)).trans (hend E e0 he)
    · exact fadeInValue_le _ _
  · exact fadeInValue_le _ _

/-- A record that enters FADING with an imposed fade follows it (R33). -/
theorem EffectRecord.follows_faded (sh : ShowState) (t : ShowTime) (r : EffectRecord) : r.Follows (r.faded sh t) where
  addSeq := rfl
  levels h := by
    obtain ⟨h0, h1, -, -⟩ := (r.follows_afterEdit t).levels h
    obtain ⟨-, -, -, himposed⟩ := h
    exact EffectRecord.levelsOk_of_no_edit rfl h0 h1 fun f hf => by cases hf; exact envelopeAt_le sh t himposed
  groups h := ((r.follows_afterEdit t).groups h)

theorem EffectRecord.follows_of_ended {sh : ShowState} {t : ShowTime} {fade : Nat} {r q : EffectRecord}
    (h : r.ended sh t fade = some q) : r.Follows q := by
  unfold EffectRecord.ended at h
  split at h
  · cases h
  · cases h
    exact (r.follows_faded sh t).trans ⟨rfl, id, id⟩

/-! ### Changes of a record -/

/-- A change of a record that makes no new reference keeps the invariants, when what it leaves follows the record. -/
theorem State.RecordChange.keeps {i : Nat} {k : EffectRecord → Option EffectRecord} {s t : State} (h : s.RecordChange i k t)
    (hk : NoNewRefs k) (hfollows : ∀ r q, k r = some q → r.Follows q) : s.Keeps t := by
  have hchange : s.SlotChange i ((s.effectSlot i).change k) t :=
    { outside := h.outside
      slots := h.slots.trans (modify_eq_set _ i _ EffectSlot.blank)
      groups := by simpa using congrArg List.length h.defined
      addCounter := h.counters.1
      touchCounter := fun hle => h.counters.2 ▸ hle
      record := fun q hq => by
        obtain ⟨r, hr, hrq⟩ := Option.bind_eq_some_iff.1 hq
        exact ⟨r, hr, hfollows r q hrq⟩
      refs := fun g hg hle => by
        have := hk.change (s.effectSlot i) g
        rw [h.refs g hg]
        omega }
  exact hchange.keeps

theorem State.keeps_freeRecord (i : Nat) (s : State) : s.Keeps (s.freeRecord i) :=
  (s.freeRecord_change i).keeps (fun _ _ => Nat.zero_le _) fun _ _ hq => by cases hq

theorem State.keeps_imposeFade (i : Nat) (t : ShowTime) (s : State) : s.Keeps (s.imposeFade i t) :=
  (s.imposeFade_change i t).keeps (fun r => r.refsTo_afterEdit_le t)
    fun r q hq => by cases hq; exact r.follows_faded _ t

theorem noNewRefs_ended (sh : ShowState) (t : ShowTime) (fade : Nat) : NoNewRefs (EffectRecord.ended sh t fade) := by
  intro r g
  unfold EffectRecord.ended
  split
  · exact Nat.zero_le _
  · exact r.refsTo_afterEdit_le t g

theorem State.keeps_endRecord (t : ShowTime) (fade i : Nat) (s : State) : s.Keeps (s.endRecord t fade i) :=
  (s.endRecord_change t fade i).keeps (noNewRefs_ended _ _ _) fun _ _ hq => EffectRecord.follows_of_ended hq

end Sys2Proof.Machine
end

section
/-! PROOF. The invariants of the effect table, the zones, the valves and the link are kept by the Effect Scheduler and by the
changes of show state. -/
namespace Sys2Proof.Machine

/-! ### Records edited (R37 to R41) -/

/-- A record changed to one that follows it and makes the same references. -/
theorem State.keeps_modifyRecord (i : Nat) {f : EffectRecord → EffectRecord} (s : State)
    (hrefs : ∀ g r, (f r).refsTo g = r.refsTo g) (hf : ∀ r, EffectRecord.Follows r (f r)) : s.Keeps (s.modifyRecord i f) := by
  have hsame : s.RecordChange i some s := .of_same (by
    cases h : (s.effectSlot i).record with
    | none => exact EffectSlot.change_of_none h
    | some r => rw [EffectSlot.change_of_some h, ← h])
  exact (hsame.modifyRecord f hrefs).keeps (fun r g => (hrefs g r).le) fun r q hq => by cases hq; exact hf r

/-- What an edit carries fits a record: levels of 16 bits and a group 0..63. -/
structure EditFields.Fits (f : EditFields) : Prop where
  l0 : ∀ l ∈ f.l0, l.half
  l1 : ∀ l ∈ f.l1, l.half
  group : ∀ g ∈ f.group, g < 64

/-- A level as a message carries it has 16 bits in each channel. -/
theorem half_levelOf (k : Kind) (l : WireLevel) : (levelOf k l).half := by
  have hr := l.r.isLt
  have hg := l.g.isLt
  have hb := l.b.isLt
  have hw := l.w.isLt
  cases k
  · exact ⟨by simp only [levelOf]; omega, Nat.zero_le _, Nat.zero_le _, Nat.zero_le _⟩
  · exact ⟨by simp only [levelOf]; omega, by simp only [levelOf]; omega, by simp only [levelOf]; omega,
      by simp only [levelOf]; omega⟩

theorem whenNamed_eq_some {α : Type} {set : Half} {b : Nat} {v a : α} :
    whenNamed set b v = some a ↔ named set b = true ∧ v = a := by
  unfold whenNamed
  split <;> simp_all

/-- The fields of a coded edit fit (R36 step 1). -/
theorem editFields_fits {set : Half} {v : EditValues} (k : Kind) (hv : editCoded set v = true) : (editFields k set v).Fits where
  l0 l hl := by obtain ⟨-, rfl⟩ := whenNamed_eq_some.1 hl; exact half_levelOf k _
  l1 l hl := by obtain ⟨-, rfl⟩ := whenNamed_eq_some.1 hl; exact half_levelOf k _
  group g hg := by
    obtain ⟨hnamed, rfl⟩ := whenNamed_eq_some.1 hg
    simp only [editCoded, hnamed, Bool.and_eq_true, Bool.not_true, Bool.false_or, decide_eq_true_eq] at hv
    omega

/-- A reference taken, read back. -/
theorem State.refs_addRef (s : State) (j g : Nat) (hg : g < s.effects.groups.length) :
    ((s.addRef j).group g).refs = (s.group g).refs + if j = g then 1 else 0 := by
  simp only [State.addRef, State.group_modifyGroup]
  by_cases h : j = g <;> simp [h, hg]

theorem State.refs_dropRef (s : State) (j g : Nat) (hg : g < s.effects.groups.length) :
    ((s.dropRef j).group g).refs = (s.group g).refs - if j = g then 1 else 0 :=
  (s.refs_dropRef? (some j) g hg).trans (by simp)

theorem EffectSlot.refsTo_of_some {e : EffectSlot} {r : EffectRecord} (h : e.record = some r) (g : Nat) :
    e.refsTo g = r.refsTo g := by
  simp [EffectSlot.refsTo, h]

/-- The references of a record, by its group and the group it reserves. -/
theorem EffectRecord.refsTo_of {r : EffectRecord} {own : Nat} {reserved : Option Nat} (hown : r.params.group = own)
    (hreserved : r.reserved = reserved) (g : Nat) :
    r.refsTo g = (if own = g then 1 else 0) + if reserved = some g then 1 else 0 := by
  subst hown hreserved
  rfl

/-- The counts of groups changed, then the record of slot `i`: a change of the slot when the counts move with the record's
references. -/
theorem State.slotChange_of_groups {i : Nat} {s u : State} {q : EffectRecord} (f : EffectRecord → EffectRecord)
    (hq : (s.effectSlot i).record = some q)
    (hu : ∃ groups, u = { s with effects := { s.effects with groups := groups } }
      ∧ groups.length = s.effects.groups.length)
    (hfollows : q.Follows (f q))
    (hrefs : ∀ g < s.effects.groups.length, q.refsTo g ≤ (s.group g).refs →
      (u.group g).refs + q.refsTo g = (s.group g).refs + (f q).refsTo g) :
    s.SlotChange i { s.effectSlot i with record := some (f q) } (u.modifyRecord i f) where
  outside := by
    obtain ⟨groups, rfl, -⟩ := hu
    exact ⟨_, rfl⟩
  slots := by
    obtain ⟨groups, rfl, -⟩ := hu
    refine (modify_eq_set _ i _ EffectSlot.blank).trans ?_
    show s.effects.slots.set i { s.effectSlot i with record := (s.effectSlot i).record.map f } = _
    rw [hq]
    rfl
  groups := by
    obtain ⟨groups, rfl, hlen⟩ := hu
    exact hlen
  addCounter := by
    obtain ⟨groups, rfl, -⟩ := hu
    rfl
  touchCounter := by
    obtain ⟨groups, rfl, -⟩ := hu
    exact id
  record p hp := by
    cases hp
    exact ⟨q, hq, hfollows⟩
  refs g hg hle := by
    rw [EffectSlot.refsTo_of_some hq] at hle ⊢
    exact hrefs g hg hle

/-- An edit taken at once by the record it names (R37). -/
theorem State.keeps_editAtOnce {i : Nat} {r q : EffectRecord} {f : EditFields} {s : State}
    (hq : (s.effectSlot i).record = some q) (hr : r.params = q.params) (hf : f.Fits) : s.Keeps (s.editAtOnce i r f) := by
  have hfollows : q.Follows { q with params := (q.params.overlay f).normalise } :=
    { addSeq := rfl
      levels := fun ⟨h0, h1, hrest⟩ => by
        obtain ⟨hl0, hl1⟩ := EffectParams.half_overlay h0 h1 hf.l0 hf.l1
        exact ⟨hl0, hl1, hrest⟩
      groups := fun ⟨hown, hreserved⟩ => by
        refine ⟨?_, hreserved⟩
        show f.group.getD q.params.group < 64
        cases hg : f.group with
        | none => exact hown
        | some g => exact hf.group g hg }
  have hbefore := EffectRecord.refsTo_of (r := q) rfl rfl
  have hafter := EffectRecord.refsTo_of (r := { q with params := (q.params.overlay f).normalise })
    (own := f.group.getD q.params.group) (reserved := q.reserved) rfl rfl
  unfold State.editAtOnce
  rw [hr]
  cases hg : f.group with
  | none =>
    refine (State.slotChange_of_groups (u := s) _ hq ⟨_, rfl, rfl⟩ hfollows fun g _ _ => ?_).keeps
    rw [hbefore, hafter, hg]
    rfl
  | some new =>
    refine (State.slotChange_of_groups (u := (s.addRef new).dropRef q.params.group) _ hq ⟨_, rfl, by simp⟩ hfollows
      fun g hg' hle => ?_).keeps
    rw [State.refs_dropRef _ _ _ (by simpa using hg'), State.refs_addRef _ _ _ hg']
    rw [hbefore] at hle ⊢
    rw [hafter, hg, Option.getD_some]
    omega

/-- A record with an edit that fits staged on it. -/
theorem EffectRecord.follows_staged {q : EffectRecord} {f : EditFields} (boundary : ShowTime)
    (hf : q.levelsOk → (∀ l ∈ f.l0, l.half) ∧ ∀ l ∈ f.l1, l.half) (hg : q.inGroups → ∀ g ∈ f.group, g < 64) :
    q.Follows { q with edit := some ⟨f, boundary⟩ } where
  addSeq := rfl
  levels h := by
    have hfields := hf h
    obtain ⟨h0, h1, -, himposed⟩ := h
    exact ⟨h0, h1, fun e he => by cases he; exact hfields, himposed⟩
  groups h := by
    obtain ⟨hown, -⟩ := id h
    exact ⟨hown, hg h⟩

/-- An edit staged on the record it names, or merged into its pending edit (R38, R39). -/
theorem State.keeps_stageEdit {i : Nat} {r q : EffectRecord} {f : EditFields} {s : State} (boundary : ShowTime)
    (hq : (s.effectSlot i).record = some q) (hr : r.edit = q.edit) (hf : f.Fits) :
    s.Keeps (s.stageEdit i r f boundary) := by
  have hbefore := EffectRecord.refsTo_of (r := q) rfl rfl
  have hafter (f : EditFields) := EffectRecord.refsTo_of (r := { q with edit := some ⟨f, boundary⟩ })
    (own := q.params.group) (reserved := f.group) rfl rfl
  unfold State.stageEdit
  rw [hr]
  cases he : q.edit with
  | none =>
    have hnone : q.reserved = none := by simp [EffectRecord.reserved, he]
    have hfollows := EffectRecord.follows_staged (q := q) boundary (fun _ => ⟨hf.l0, hf.l1⟩) fun _ => hf.group
    cases hg : f.group with
    | none =>
      refine (State.slotChange_of_groups (u := s) _ hq ⟨_, rfl, rfl⟩ hfollows fun g _ _ => ?_).keeps
      rw [hbefore, hafter, hnone, hg]
    | some new =>
      refine (State.slotChange_of_groups (u := s.addRef new) _ hq ⟨_, rfl, by simp⟩ hfollows fun g hg' _ => ?_).keeps
      rw [State.refs_addRef _ _ _ hg']
      rw [hbefore, hafter, hnone, hg]
      simp only [Option.some.injEq, reduceCtorEq, if_false]
      omega
  | some e =>
    have hsome : q.reserved = e.fields.group := by simp [EffectRecord.reserved, he]
    have hfollows : q.Follows { q with edit := some ⟨e.fields.merge f, boundary⟩ } := by
      refine EffectRecord.follows_staged boundary (fun ⟨_, _, hedit, _⟩ => ?_) fun ⟨_, hreserved⟩ g hg => ?_
      · obtain ⟨h0, h1⟩ := hedit e he
        exact ⟨fun l hl => (Option.or_eq_some_iff.1 hl).elim (hf.l0 l) fun h => h0 l h.2,
          fun l hl => (Option.or_eq_some_iff.1 hl).elim (hf.l1 l) fun h => h1 l h.2⟩
      · exact (Option.or_eq_some_iff.1 hg).elim (hf.group g) fun h => hreserved g (hsome.trans h.2)
    cases hg : f.group with
    | none =>
      refine (State.slotChange_of_groups (u := s) _ hq ⟨_, rfl, rfl⟩ hfollows fun g _ _ => ?_).keeps
      rw [hbefore, hafter, hsome, EditFields.merge, hg, Option.none_or]
    | some new =>
      obtain ⟨groups, hdrop, hdef⟩ := State.dropRef?_eq e.fields.group (s.addRef new)
      have hlen : groups.length = s.effects.groups.length := by simpa using congrArg List.length hdef
      refine (State.slotChange_of_groups (u := (s.addRef new).dropRef? e.fields.group) _ hq ⟨groups, hdrop, hlen⟩ hfollows
        fun g hg' hle => ?_).keeps
      rw [State.refs_dropRef? _ _ _ (by simpa using hg'), State.refs_addRef _ _ _ hg']
      rw [hbefore, hsome] at hle ⊢
      rw [hafter, EditFields.merge, hg, Option.some_or]
      simp only [Option.some.injEq]
      omega

/-- The touch stamp, pinned and class taken at acceptance (R41). -/
theorem State.keeps_touchEdit (i : Nat) (set : Half) (v : EditValues) (s : State) : s.Keeps (s.touchEdit i set v) := by
  have hstamp : s.Keeps { s with effects := { s.effects with touchCounter := nextTouch s.effects.touchCounter } } :=
    State.keeps_of_effects ⟨_, rfl⟩ id
      (fun ⟨hslots, hnodup, hbelow, hadd, _⟩ => ⟨hslots, hnodup, hbelow, hadd, Nat.min_le_right _ _⟩) id
  exact hstamp.trans (State.keeps_modifyRecord i _ (fun _ _ => rfl) fun _ => ⟨rfl, id, id⟩)

/-- The record that an edit finds after its touch: parameters and pending edit are untouched. -/
theorem State.record_touchEdit {i : Nat} {set : Half} {v : EditValues} {s : State} {r : EffectRecord}
    (hr : (s.effectSlot i).record = some r) :
    ∃ q, ((s.touchEdit i set v).effectSlot i).record = some q ∧ r.params = q.params ∧ r.edit = q.edit := by
  have hread := State.record_modifyRecord i i (fun r => { r with
    touch := s.effects.touchCounter
    pinned := if named set 12 then (yesNoOf v.pinned).getD r.pinned else r.pinned
    cls := if named set 13 then (classOf v.cls).getD r.cls else r.cls })
    { s with effects := { s.effects with touchCounter := nextTouch s.effects.touchCounter } }
  have hkept : State.effectSlot { s with effects := { s.effects with touchCounter := nextTouch s.effects.touchCounter } } i =
    s.effectSlot i := rfl
  rw [if_pos rfl, hkept, hr] at hread
  exact ⟨_, hread, rfl, rfl⟩

theorem keeps_editAccepted {i : Nat} {r : EffectRecord} {set : Half} {v : EditValues} {s : State} (c : EditTiming)
    (t : ShowTime) (hr : (s.effectSlot i).record = some r) (hv : editCoded set v = true) :
    s.Keeps (editAccepted i r c t set v s).1 := by
  obtain ⟨q, hq, hparams, hedit⟩ := State.record_touchEdit (set := set) (v := v) hr
  have hfits := editFields_fits r.params.kind hv
  unfold editAccepted
  dsimp only
  split
  · exact (s.keeps_touchEdit ..).trans (State.keeps_editAtOnce hq hparams hfits)
  split
  · exact (s.keeps_touchEdit ..).trans (State.keeps_stageEdit _ hq hedit hfits)
  · exact s.keeps_touchEdit ..

/-! ### Records placed (R21 to R28) -/

/-- A record placed in a free slot, with the add counter as its add sequence, the group it names counted once more. -/
theorem State.keeps_placeRecord {i : Nat} {r : EffectRecord} {s : State} (hi : i < s.effects.slots.length)
    (hfree : (s.effectSlot i).record = none) (hseq : r.addSeq = s.effects.addCounter)
    (hcounter : s.effects.addCounter ≠ 4294967295) (hedit : r.edit = none) (hgroup : r.params.group < 64)
    (hlevels : r.levelsOk) : s.Keeps (s.placeRecord i r) := by
  have hslots : (s.placeRecord i r).effects.slots =
      s.effects.slots.set i ⟨nextGeneration (s.effectSlot i).gen, some r⟩ :=
    modify_eq_set _ i _ EffectSlot.blank
  have hentry : s.effects.slots[i]? = some (s.effectSlot i) := by
    rw [State.effectSlot_of_getElem? (List.getElem?_eq_getElem hi), List.getElem?_eq_getElem hi]
  have hforall {P : EffectRecord → Prop} (hP : P r) (hs : ∀ q ∈ s.records, P q) : ∀ q ∈ (s.placeRecord i r).records, P q := by
    intro q hq
    obtain ⟨e, he, hq⟩ := State.mem_records.1 hq
    rw [hslots] at he
    rcases List.mem_or_eq_of_mem_set he with hmem | rfl
    · exact hs q (State.mem_records.2 ⟨e, hmem, hq⟩)
    · cases hq; exact hP
  refine State.keeps_of_effects ⟨_, rfl⟩ ?_ ?_ (hforall hlevels)
  · rintro ⟨hlen, hgroups, hrefs, hin⟩
    refine ⟨by rw [hslots, List.length_set, hlen], by simpa [State.placeRecord] using hgroups, fun g hg => ?_,
      hforall ⟨hgroup, by simp [EffectRecord.reserved, hedit]⟩ hin⟩
    have hcount : ((s.placeRecord i r).group g).refs = (s.group g).refs + if r.params.group = g then 1 else 0 := by
      refine State.refs_addRef _ r.params.group g ?_
      exact hgroups ▸ hg
    have hsum := sum_map_set (EffectSlot.refsTo g) hi ⟨nextGeneration (s.effectSlot i).gen, some r⟩ EffectSlot.blank
    have hbefore : (s.effects.slots.getD i EffectSlot.blank).refsTo g = 0 := by
      show (s.effectSlot i).refsTo g = 0
      simp [EffectSlot.refsTo, hfree]
    have hafter : EffectSlot.refsTo g ⟨nextGeneration (s.effectSlot i).gen, some r⟩ = if r.params.group = g then 1 else 0 := by
      simp [EffectSlot.refsTo, EffectRecord.refsTo, EffectRecord.reserved, hedit]
    have htable := hrefs g hg
    rw [State.refsTo_eq_sum] at htable ⊢
    rw [hslots]
    omega
  · rintro ⟨hlen, hnodup, hbelow, hadd, -⟩
    have hcount : (s.placeRecord i r).effects.addCounter = s.effects.addCounter + 1 := rfl
    refine ⟨by rw [hslots, List.length_set, hlen], ?_, hforall (by omega) fun q hq => ?_, by omega, Nat.min_le_right _ _⟩
    · rw [State.addSeqs_eq, hslots]
      refine ((filterMap_set_perm (fun e => e.record.map (·.addSeq))
        (a := ⟨nextGeneration (s.effectSlot i).gen, some r⟩) (c := r.addSeq) hentry (by simp [hfree]) rfl).nodup_iff).2
        (List.nodup_cons.2 ⟨fun hmem => ?_, ?_⟩)
      · rw [← State.addSeqs_eq] at hmem
        obtain ⟨q, hq, heq⟩ := List.mem_map.1 hmem
        have := hbelow q hq
        omega
      · rwa [← State.addSeqs_eq]
    · have := hbelow q hq
      omega

/-- A coded EFFECT_ADD names a group 0..63 (R23 step 2). -/
theorem addCodes_group {p : EffectAddParams} {c : AddCodes} (h : addCodes p = some c) : p.group.toNat < 64 := by
  unfold addCodes at h
  split at h
  · split at h
    · next hrange => omega
    · cases h
  · cases h

theorem newRecord_levelsOk (s : State) (p : EffectAddParams) (c : AddCodes) : (newRecord s p c).levelsOk :=
  EffectRecord.levelsOk_of_no_edit rfl (Level.half_normalise _ _ (half_levelOf _ _)) (Level.half_normalise _ _ (half_levelOf _ _))
    (by simp [newRecord])

/-- The lowest free slot is one of the table's and is free. -/
theorem State.freeEffectSlot_spec {s : State} {i : Nat} (h : s.freeEffectSlot = some i) :
    i < s.effects.slots.length ∧ (s.effectSlot i).record = none := by
  obtain ⟨hi, hfree, -⟩ := List.findIdx?_eq_some_iff_getElem.1 h
  refine ⟨hi, ?_⟩
  rw [State.effectSlot_of_getElem? (List.getElem?_eq_getElem hi)]
  simpa using hfree

/-- A candidate for eviction stands in the slot that it names. -/
theorem State.mem_evictionCandidates {s : State} {c : Nat × Nat} (h : c ∈ s.evictionCandidates) :
    ∃ r, (s.effectSlot c.2).record = some r ∧ r.evictable = true ∧ r.touch = c.1 := by
  obtain ⟨⟨e, i⟩, hmem, hc⟩ := List.mem_filterMap.1 h
  have he := State.effectSlot_of_getElem? (List.mem_zipIdx_iff_getElem?.1 hmem)
  dsimp only at hc he
  split at hc
  · next r hr =>
    split at hc
    · next hev =>
      cases hc
      exact ⟨r, by rw [he, hr], hev, rfl⟩
    · cases hc
  · cases hc

/-- The victim is the record of a slot of the table. -/
theorem State.victim_spec {s : State} {i : Nat} (h : s.victim = some i) : i < s.effects.slots.length := by
  obtain ⟨c, hhead, rfl⟩ := Option.map_eq_some_iff.1 h
  have hmem := (sortByKey_perm Prod.fst s.evictionCandidates).mem_iff.1 (List.mem_of_mem_head? hhead)
  obtain ⟨r, hr, -, -⟩ := State.mem_evictionCandidates hmem
  exact State.effectSlot_lt_of_some hr

/-- A freed slot holds no record, and the table keeps its length. -/
theorem State.freeRecord_freed (i : Nat) (s : State) : ((s.freeRecord i).effectSlot i).record = none
    ∧ (s.freeRecord i).effects.slots.length = s.effects.slots.length := by
  have hchange := s.freeRecord_change i
  refine ⟨?_, by rw [hchange.slots, List.length_modify]⟩
  rw [hchange.effectSlot_self]
  cases h : (s.effectSlot i).record <;> simp [EffectSlot.change, h]

theorem State.keeps_raise (e : Event) (s : State) : s.Keeps (s.raise e) := State.keeps_of_watched rfl

theorem State.keeps_raiseIf (b : Bool) (e : Event) (s : State) : s.Keeps (s.raiseIf b e) := by
  cases b
  · exact .refl s
  · exact s.keeps_raise e

theorem keeps_checked {l : List (Bool × ResultCode)} {go : Handler} {s : State}
    (h : firstFailure l = none → s.Keeps (go s).1) : s.Keeps (checked l go s).1 := by
  cases hl : firstFailure l with
  | none => rw [checked_of_none go s hl]; exact h hl
  | some c => rw [checked_of_some go s hl]; exact .refl s

theorem keeps_handleEffectAdd (p : EffectAddParams) (s : State) : s.Keeps (handleEffectAdd p s).1 := by
  unfold handleEffectAdd
  split
  · exact .refl s
  next c hc =>
  refine keeps_checked fun hpass => ?_
  have hcounter : s.effects.addCounter ≠ 4294967295 := by
    simpa using firstFailure_eq_none.1 hpass (decide (s.effects.addCounter = 4294967295), .tableFull) (by simp)
  split
  · next i hi =>
    obtain ⟨hlt, hfree⟩ := State.freeEffectSlot_spec hi
    exact State.keeps_placeRecord hlt hfree rfl hcounter rfl (addCodes_group hc) (newRecord_levelsOk s p c)
  split
  · next i hi =>
    obtain ⟨hfreed, hlen⟩ := s.freeRecord_freed i
    obtain ⟨hadd, -⟩ := (s.freeRecord_change i).counters
    have hplace := State.keeps_placeRecord (i := i) (r := newRecord s p c) (s := (s.freeRecord i).raise .effectEvicted)
      (hlen.symm ▸ State.victim_spec hi) hfreed hadd.symm (hadd.symm ▸ hcounter) rfl (addCodes_group hc)
      (newRecord_levelsOk s p c)
    exact (s.keeps_freeRecord i).trans ((State.keeps_raise ..).trans hplace)
  · exact .refl s

/-- The record a handle names stands in the slot it names (R20). -/
theorem State.record_of_lookup {s : State} {h : Half} {r : EffectRecord} (hr : s.lookupEffect h = some r) :
    (s.effectSlot (handleSlot h)).record = some r := by
  unfold State.lookupEffect at hr
  dsimp only at hr
  split at hr
  · cases hr
  · exact hr

theorem keeps_handleEffectEdit (h : Half) (timing : Byte) (t : Quad) (set : Half) (v : EditValues) (s : State) :
    s.Keeps (handleEffectEdit h timing t set v s).1 := by
  unfold handleEffectEdit
  split
  · next hv =>
    split
    · exact .refl s
    · next hr => exact keeps_checked fun _ => keeps_editAccepted _ _ (State.record_of_lookup hr) hv
  · exact .refl s

theorem keeps_handleEffectRetire (h : Half) (mode : Byte) (s : State) : s.Keeps (handleEffectRetire h mode s).1 := by
  unfold handleEffectRetire
  split
  · exact .refl s
  split
  · exact .refl s
  split
  · exact s.keeps_freeRecord _
  split
  · exact s.keeps_imposeFade ..
  · exact .refl s

theorem keeps_handleEffectQuery (h : Half) (s : State) : s.Keeps (handleEffectQuery h s).1 := by
  unfold handleEffectQuery
  split
  · exact .refl s
  · exact .refl s

/-- A group defined or undefined keeps its count (R44). -/
theorem keeps_handleGroupDefine (g kind : Byte) (members : List Half) (s : State) :
    s.Keeps (handleGroupDefine g kind members s).1 := by
  unfold handleGroupDefine
  split
  · exact .refl s
  refine keeps_checked fun _ => State.keeps_of_effects ⟨_, rfl⟩ (fun ⟨hslots, hgroups, hrefs, hin⟩ => ?_) id id
  refine ⟨hslots, by simpa [accept] using hgroups, fun j hj => ?_, hin⟩
  refine Eq.trans ?_ (hrefs j hj)
  simp only [accept, State.group_modifyGroup]
  split <;> rfl

/-! ### A jet boundary (R29 to R32, R46, R93) -/

/-- Every record changed to one that follows it and makes the same references. -/
theorem State.keeps_mapRecords (s : State) {f : EffectRecord → EffectRecord} (hrefs : ∀ g r, (f r).refsTo g = r.refsTo g)
    (hf : ∀ r, EffectRecord.Follows r (f r)) : s.Keeps { s with effects := { s.effects with
      slots := s.effects.slots.map fun e => { e with record := e.record.map f } } } := by
  have hrecords : State.records { s with effects := { s.effects with
      slots := s.effects.slots.map fun e => { e with record := e.record.map f } } } = s.records.map f := by
    simp [State.records, List.filterMap_map, List.map_filterMap]
  refine State.keeps_of_effects ⟨_, rfl⟩ ?_ ?_ ?_
  · rintro ⟨hslots, hgroups, hcounts, hin⟩
    refine ⟨by simpa using hslots, hgroups, fun g hg => (hcounts g hg).trans ?_, ?_⟩
    · rw [State.refsTo, State.refsTo, hrecords, List.map_map]
      exact congrArg (fun h => (s.records.map h).sum) (funext fun r => (hrefs g r).symm)
    · rw [hrecords]
      exact List.forall_mem_map.2 fun r hr => (hf r).groups (hin r hr)
  · rintro ⟨hslots, hnodup, hbelow, hadd, htouch⟩
    refine ⟨by simpa using hslots, ?_, ?_, hadd, htouch⟩
    · rw [hrecords, List.map_map]
      exact (congrArg (fun h => (s.records.map h).Nodup) (funext fun r => (hf r).addSeq)).mpr hnodup
    · rw [hrecords]
      exact List.forall_mem_map.2 fun r hr => by rw [(hf r).addSeq]; exact hbelow r hr
  · rw [hrecords]
    exact fun hs => List.forall_mem_map.2 fun r hr => (hf r).levels (hs r hr)

theorem State.keeps_boundaryRecord (t : ShowTime) (i : Nat) (s : State) : s.Keeps (s.boundaryRecord t i) := by
  rw [State.boundaryRecord_eq]
  exact ((s.fourSteps_change t i).keeps (noNewRefs_stepped t) fun _ _ hq => EffectRecord.follows_of_stepped hq).trans
    (State.keeps_raiseIf ..)

/-- A record with another envelope reported follows it. -/
theorem EffectRecord.follows_reported (r : EffectRecord) (reported : Nat) : r.Follows { r with reported := reported } :=
  ⟨rfl, id, id⟩

theorem State.keeps_reportEnvelopes (t : ShowTime) (s : State) : s.Keeps (s.reportEnvelopes t) :=
  s.keeps_mapRecords (f := EffectRecord.report s.timer.showState t) (fun _ _ => rfl) fun r => r.follows_reported _

theorem State.keeps_schedule (s : State) : s.Keeps s.schedule := by
  unfold State.schedule
  split
  · exact .refl s
  · have hpass := State.keeps_forEach (List.range 256) _ (State.keeps_boundaryRecord s.timer.clock) s
    generalize forEach (List.range 256) (State.boundaryRecord s.timer.clock) s = u at hpass ⊢
    exact hpass.trans (u.keeps_reportEnvelopes s.timer.clock)

theorem State.keeps_takeEffects (s : State) : s.Keeps s.takeEffects := by
  unfold State.takeEffects
  split
  · exact s.keeps_schedule.trans (State.keeps_of_watched rfl)
  · exact .refl s

theorem State.keeps_takeEffectsIf (makes : ShowTime → State → Bool) (s : State) : s.Keeps (s.takeEffectsIf makes) := by
  rcases s.takeEffectsIf_eq makes with ⟨-, -, -, h⟩ | ⟨-, h⟩ <;> rw [h]
  · exact s.keeps_takeEffects
  · exact .refl s

/-! ### The changes of show state (R49, R50) -/

/-- The effect table at an entry into STOPPED: no record is left for the counters to agree with (R50). -/
theorem State.keeps_clearEffects (s : State) : s.Keeps s.clearEffects := by
  have hpass := State.keeps_forEach (List.range 256) State.freeRecord State.keeps_freeRecord s
  have hfree := State.recordsChange_forEach (s := s) (fun i _ => State.freeRecord_change i _) 256
  unfold State.clearEffects
  generalize forEach (List.range 256) State.freeRecord s = u at hpass hfree ⊢
  refine ⟨hpass.refs, fun hseqs => ?_, hpass.levels, hpass.wind, hpass.valves, hpass.transport⟩
  obtain ⟨hslots, -⟩ := hpass.seqs hseqs
  obtain ⟨hlen, -⟩ := hseqs
  have hrecords : u.records = [] := by
    simp [State.records, hfree.slots_eq (by omega), EffectSlot.change_free]
  refine ⟨hslots, ?_, ?_, Nat.zero_le _, Nat.zero_le _⟩
  · show (u.records.map _).Nodup
    simp [hrecords]
  · show ∀ r ∈ u.records, _
    simp [hrecords]

theorem State.keeps_stopDeck (d : Nat) (s : State) : s.Keeps (s.stopDeck d) := by
  obtain ⟨slots, owner, heq, -, -⟩ := s.stopDeck_eq d
  rw [heq]
  exact State.keeps_of_watched rfl

theorem State.keeps_enterStopped (s : State) : s.Keeps s.enterStopped := by
  by_cases h : s.timer.showState = .stopped
  · rw [State.enterStopped_of_stopped h]
    exact .refl s
  · have hdecks := s.keeps_clearEffects.trans (State.keeps_forEach [0, 1] State.stopDeck State.keeps_stopDeck _)
    generalize hu : forEach [0, 1] State.stopDeck s.clearEffects = u at hdecks
    rw [State.enterStopped_eq h hu]
    exact hdecks.trans (State.keeps_of_watched rfl)

theorem State.keeps_enterEnding (fade : Nat) (s : State) : s.Keeps (s.enterEnding fade) := by
  have hpass := State.keeps_forEach (List.range 256) _ (State.keeps_endRecord s.timer.clock fade) s
  generalize hu : forEach (List.range 256) (State.endRecord s.timer.clock fade) s = u at hpass
  rw [State.enterEnding_eq hu]
  exact hpass.trans (State.keeps_of_watched rfl)

theorem State.keeps_endShow (ms : Nat) (s : State) : s.Keeps (s.endShow ms) := by
  unfold State.endShow
  split
  · exact s.keeps_enterStopped
  · exact s.keeps_enterEnding _

theorem State.keeps_takeEndTime (s : State) : s.Keeps s.takeEndTime := by
  unfold State.takeEndTime
  split
  · exact s.keeps_enterStopped
  · exact .refl s

theorem State.keeps_takeSilence (s : State) : s.Keeps s.takeSilence := by
  unfold State.takeSilence
  split
  · exact (s.keeps_endShow _).trans (State.keeps_raise ..)
  · exact .refl s

theorem State.keeps_assertStop (s : State) : s.Keeps s.assertStop := by
  unfold State.assertStop
  refine State.Keeps.trans ?_ (State.keeps_enterStopped _)
  exact State.keeps_of_watched rfl

theorem State.keeps_takeStop (s : State) : s.Keeps s.takeStop := by
  unfold State.takeStop
  split
  · exact s.keeps_assertStop
  · exact .refl s

end Sys2Proof.Machine
end

section
/-! PROOF. The invariants of the effect table, the zones, the valves and the link are kept by every handler and by the events
of a sample period: what does not write them is read off, what does is shown to write figures in range. -/
namespace Sys2Proof.Machine

/-! ### What the shared operations leave -/

/-- A choice between two changes that keep the invariants. -/
theorem State.Keeps.ite {c : Prop} [Decidable c] {s t u : State} (ht : s.Keeps t) (hu : s.Keeps u) :
    s.Keeps (if c then t else u) := by
  split
  · exact ht
  · exact hu

theorem State.keeps_modifyDue (f : Due → Due) (s : State) : s.Keeps (s.modifyDue f) := State.keeps_of_watched rfl

theorem State.keeps_modifyManifold (m : Nat) (f : Manifold → Manifold) (s : State) : s.Keeps (s.modifyManifold m f) :=
  State.keeps_of_watched rfl

theorem State.keeps_modifyPump (n : Nat) (f : Pump → Pump) (s : State) : s.Keeps (s.modifyPump n f) :=
  State.keeps_of_watched rfl

theorem State.keeps_modifyPresence (k : Nat) (f : PresenceInput → PresenceInput) (s : State) :
    s.Keeps (s.modifyPresence k f) := State.keeps_of_watched rfl

theorem State.keeps_modifyFixture (n : Nat) (f : Fixture → Fixture) (s : State) : s.Keeps (s.modifyFixture n f) :=
  State.keeps_of_watched rfl

theorem State.keeps_modifyLine (l : Nat) (f : Line → Line) (s : State) : s.Keeps (s.modifyLine l f) :=
  State.keeps_of_watched rfl

theorem State.keeps_modifyClipSlot (i : Nat) (f : ClipSlot → ClipSlot) (s : State) : s.Keeps (s.modifyClipSlot i f) :=
  State.keeps_of_watched rfl

theorem State.keeps_modifyDeck (d : Nat) (f : Deck → Deck) (s : State) : s.Keeps (s.modifyDeck d f) :=
  State.keeps_of_watched rfl

theorem keeps_refuse (c : ResultCode) (s : State) : s.Keeps (refuse c s).1 := .refl s

/-! ### The Clip Store (sections 9.1 to 9.3) -/

theorem State.keeps_releaseHeld (d : Nat) (s : State) : s.Keeps (s.releaseHeld d) := by
  obtain ⟨slots, owner, heq, -, -⟩ := s.releaseHeld_eq d
  rw [heq]
  exact State.keeps_of_watched rfl

theorem State.keeps_rejectBlock (h : Half) (page : Quad) (reason : ResultCode) (s : State) :
    s.Keeps (s.rejectBlock h page reason) := State.keeps_of_watched rfl

theorem State.keeps_acceptBlock (i : Nat) (c : Clip) (page : Nat) (data : List Byte) (s : State) :
    s.Keeps (s.acceptBlock i c page data) := by
  unfold State.acceptBlock
  dsimp only
  refine State.Keeps.trans ?_ (State.keeps_raiseIf ..)
  exact State.keeps_of_watched rfl

theorem State.keeps_judgeBlock (transfer : List Byte) (s : State) : s.Keeps (s.judgeBlock transfer) := by
  unfold State.judgeBlock
  split
  · exact State.keeps_rejectBlock ..
  refine .ite (State.keeps_rejectBlock ..) ?_
  split
  · exact State.keeps_rejectBlock ..
  exact .ite (State.keeps_rejectBlock ..) <| .ite (State.keeps_rejectBlock ..) <| .ite (State.keeps_rejectBlock ..) <|
    State.keeps_acceptBlock ..

theorem keeps_handleClipCreate (channels : Byte) (length : Quad) (s : State) :
    s.Keeps (handleClipCreate channels length s).1 :=
  keeps_checked fun _ => State.keeps_of_watched rfl

theorem keeps_handleClipRetire (h : Half) (s : State) : s.Keeps (handleClipRetire h s).1 := by
  unfold handleClipRetire
  split
  · exact .refl s
  split
  · exact State.keeps_of_watched rfl
  · exact State.keeps_modifyClipSlot ..

theorem keeps_handleClipQuery (h : Half) (s : State) : s.Keeps (handleClipQuery h s).1 := by
  unfold handleClipQuery
  split
  · exact .refl s
  split
  · exact .refl s
  · exact .refl s

/-! ### The Show Timer (chapter 1) -/

theorem keeps_handleShowStart (s : State) : s.Keeps (handleShowStart s).1 :=
  keeps_checked fun _ => State.keeps_of_watched rfl

theorem keeps_handleShowHold (s : State) : s.Keeps (handleShowHold s).1 :=
  keeps_checked fun _ => State.keeps_of_watched rfl

theorem keeps_handleShowResume (s : State) : s.Keeps (handleShowResume s).1 :=
  keeps_checked fun _ => State.keeps_of_watched rfl

theorem keeps_handleShowEnd (fade : Half) (s : State) : s.Keeps (handleShowEnd fade s).1 :=
  keeps_checked fun _ => State.keeps_endShow ..

theorem keeps_handleTempoSet (period anchor : Quad) (s : State) : s.Keeps (handleTempoSet period anchor s).1 :=
  keeps_checked fun _ => State.keeps_of_watched rfl

theorem keeps_handleLinkSet (mask : Half) (timeout : Byte) (fade : Half) (s : State) :
    s.Keeps (handleLinkSet mask timeout fade s).1 :=
  keeps_checked fun _ => State.keeps_of_watched rfl

/-! ### The audio envelope (R186) -/

/-- The peak enters the envelope at most as 8,388,607, and what decays was in range. -/
theorem State.keeps_takeEnvelope (s : State) : s.Keeps s.takeEnvelope := by
  unfold State.takeEnvelope
  split
  · refine ⟨id, id, fun ⟨hrecords, henvelope⟩ => ⟨hrecords, ?_⟩, id, id, rfl⟩
    exact Nat.max_le.2 ⟨Nat.min_le_right _ _, (Nat.sub_le _ _).trans henvelope⟩
  · exact .refl s

/-! ### The Slot Line Unit (chapter 8) -/

theorem State.keeps_writeSlots (n : Nat) (values : SlotValues) (s : State) : s.Keeps (s.writeSlots n values) := by
  unfold State.writeSlots
  split
  · exact .refl s
  · exact s.keeps_modifyLine n _

theorem State.keeps_takeGapEnd (n : Nat) (s : State) : s.Keeps (s.takeGapEnd n) := s.keeps_modifyLine n _

theorem keeps_handleLineSet (p : LineSetParams) (s : State) : s.Keeps (handleLineSet p s).1 :=
  keeps_checked fun _ => s.keeps_modifyLine ..

theorem State.keeps_moveClaims (old new : Option (Nat × Claims)) (s : State) : s.Keeps (s.moveClaims old new) := by
  cases old <;> cases new <;> exact State.keeps_of_watched rfl

/-! ### The Nozzle Engine (chapter 4) -/

/-- What `State.valvesOk` says of one nozzle. -/
def Nozzle.valveOk (z : Nozzle) : Prop := z.live.valve ≤ 1000 ∧ (z.cfg.present = false → z.live = NozzleLive.zero)

/-- What holds of every nozzle holds of every nozzle that a stage leaves, when the stage keeps it for present ones. -/
theorem forall_mem_onPresent {P : Nozzle → Prop} {f : Nat → Nozzle → Nozzle} {table : List Nozzle}
    (hf : ∀ n z, z.cfg.present = true → P z → P (f n z)) (h : ∀ z ∈ table, P z) : ∀ z ∈ onPresent f table, P z := by
  intro q hq
  obtain ⟨⟨z, n⟩, hmem, rfl⟩ := List.mem_map.1 hq
  have hz := h z (List.mem_of_getElem? (List.mem_zipIdx_iff_getElem?.1 hmem))
  dsimp only
  split
  · next hpresent => exact hf n z hpresent hz
  · exact hz

theorem valveTargetOf_le (scaled qmax : Nat) : valveTargetOf scaled qmax ≤ 1000 := by
  unfold valveTargetOf
  split
  · exact Nat.zero_le _
  · exact Nat.min_le_left _ _

/-- The slewed position lies between the position and its target (R87). -/
theorem slewed_le {v target slew bound : Nat} (hv : v ≤ bound) (ht : target ≤ bound) : slewed v target slew ≤ bound := by
  unfold slewed
  split
  · omega
  · split <;> omega

theorem Nozzle.valveOk_scaleStage (factor : Nat) {z : Nozzle} (hpresent : z.cfg.present = true) (h : z.valveOk) :
    (scaleStage factor z).valveOk := by
  obtain ⟨hv, -⟩ := h
  refine ⟨slewed_le hv (valveTargetOf_le _ _), fun habsent => ?_⟩
  have hfalse : z.cfg.present = false := habsent
  simp [hpresent] at hfalse

theorem Nozzle.valveOk_composeStage (s : State) (n : Nat) {z : Nozzle} (hpresent : z.cfg.present = true) (h : z.valveOk) :
    (s.composeStage n z).valveOk := by
  obtain ⟨hv, -⟩ := h
  refine ⟨hv, fun habsent => ?_⟩
  have hfalse : z.cfg.present = false := habsent
  simp [hpresent] at hfalse

theorem State.valvesOk_newTable {s : State} (h : s.valvesOk) : ∀ z ∈ s.newTable, z.valveOk := by
  have hcomposed : ∀ z ∈ s.composedTable, z.valveOk :=
    forall_mem_onPresent (fun n _ hpresent => Nozzle.valveOk_composeStage s n hpresent) h
  unfold State.newTable
  dsimp only
  exact forall_mem_onPresent (fun _ _ hpresent => Nozzle.valveOk_scaleStage _ hpresent) hcomposed

theorem State.keeps_jetFrame (s : State) : s.Keeps s.jetFrame := by
  have htables : s.Keeps { s with
      nozzles := { s.nozzles with table := s.newTable, frames := s.newFrames }
      pumps := { s.pumps with manifolds := report s.newFrames s.pumps.manifolds } } :=
    ⟨id, id, id, id, State.valvesOk_newTable, rfl⟩
  have hsummaries : s.Keeps { s with
      nozzles := { s.nozzles with table := s.newTable, frames := s.newFrames }
      pumps := { s.pumps with manifolds := report s.newFrames s.pumps.manifolds }
      effects := { s.effects with slots := s.summarise s.newTable s.effects.slots } } := by
    refine htables.trans (State.keeps_mapRecords _ (fun g r => ?_) fun r => ?_)
    · split <;> rfl
    · split
      · exact ⟨rfl, id, id⟩
      · exact .refl r
  exact hsummaries.trans ((State.keeps_forEach _ _ (fun l u => u.keeps_writeSlots l _) _).trans (State.keeps_raiseIf ..))

theorem State.keeps_takeJet (s : State) : s.Keeps s.takeJet := by
  unfold State.takeJet
  split
  · exact s.keeps_takeEnvelope.trans (State.keeps_takeEffects _ |>.trans
      (State.keeps_jetFrame _ |>.trans (State.keeps_modifyDue ..)))
  · exact .refl s

/-- A nozzle made absent has its live fields at 0 (R76). -/
theorem State.keeps_setNozzle (n : Nat) (c : NozzleConfig) (s : State) : s.Keeps (s.setNozzle n c) := by
  unfold State.setNozzle
  dsimp only
  refine (s.keeps_moveClaims (nozzleClaim n (s.nozzle n).cfg) (nozzleClaim n c)).trans ?_
  refine ⟨id, id, id, id, fun h => forall_mem_modify (P := Nozzle.valveOk) h fun z hz => ?_, rfl⟩
  obtain ⟨hv, -⟩ := hz
  split
  · next hpresent => exact ⟨hv, fun habsent => by rw [hpresent] at habsent; cases habsent⟩
  · exact ⟨Nat.zero_le _, fun _ => rfl⟩

theorem keeps_handleNozzleSet (p : NozzleSetParams) (s : State) : s.Keeps (handleNozzleSet p s).1 :=
  keeps_checked fun _ => s.keeps_setNozzle ..

/-! ### The Light Engine (chapter 7) -/

theorem State.keeps_lightCompute (s : State) : s.Keeps s.lightCompute := by
  unfold State.lightCompute
  dsimp only
  refine State.Keeps.trans ?_ (State.keeps_forEach _ _ (fun l u => u.keeps_writeSlots l _) _)
  exact State.keeps_of_watched rfl

theorem State.keeps_takeLight (s : State) : s.Keeps s.takeLight := by
  unfold State.takeLight
  split
  · exact s.keeps_takeEnvelope.trans (State.keeps_takeEffects _ |>.trans
      (State.keeps_lightCompute _ |>.trans (State.keeps_modifyDue ..)))
  · exact .refl s

theorem keeps_handleFixtureSet (p : FixtureSetParams) (s : State) : s.Keeps (handleFixtureSet p s).1 :=
  keeps_checked fun _ => (s.keeps_moveClaims ..).trans
    ((State.keeps_writeSlots ..).trans (State.keeps_modifyFixture ..))

/-! ### The Pump Controller (chapter 5) -/

theorem State.keeps_changePump (n : Nat) (f : Pump → Pump) (s : State) : s.Keeps (s.changePump n f) :=
  State.keeps_of_watched rfl

theorem State.keeps_faultPump (n : Nat) (c : FaultCause) (s : State) : s.Keeps (s.faultPump n c) :=
  State.keeps_of_watched rfl

theorem State.keeps_examine (n : Nat) (s : State) : s.Keeps (s.examine n) := by
  have hchange (f : Pump → Pump) := s.keeps_changePump n f
  have hfault (c : FaultCause) := s.keeps_faultPump n c
  unfold State.examine
  dsimp only
  refine .ite (.refl s) ?_
  split
  case h_1 => exact .ite (hchange _) (.ite (hfault _) (.ite (hchange _) (.ite (hfault _) (.refl s))))
  case h_2 => exact .ite (hchange _) (.ite (hfault _) (.ite (hfault _) (.refl s)))
  case h_3 => exact .ite (hfault _) (.ite (hchange _) (.ite (hfault _) (.refl s)))
  case h_4 => exact .ite (hfault _) (.refl s)
  case h_5 => exact .ite (hfault _) (.refl s)
  case h_6 => exact .refl s
  case h_7 => exact .refl s

theorem State.keeps_suspendPump (n : Nat) (s : State) : s.Keeps (s.suspendPump n) := by
  unfold State.suspendPump
  split
  case h_4 => exact .refl s
  all_goals exact State.keeps_of_watched rfl

theorem State.keeps_suspension (s : State) : s.Keeps s.suspension := by
  unfold State.suspension
  split
  · split
    · exact .refl s
    · refine (State.keeps_forEach (List.range 16) _ State.keeps_suspendPump s).trans ?_
      generalize forEach (List.range 16) State.suspendPump s = u
      exact State.keeps_of_watched rfl
  · exact State.keeps_of_watched rfl

theorem State.keeps_joinQueue (stopped : List Nat) (n : Nat) (s : State) : s.Keeps (s.joinQueue stopped n) := by
  unfold State.joinQueue
  exact .ite (State.keeps_of_watched rfl) (.refl s)

theorem State.keeps_cancelOutside (targets : List Nat) (n : Nat) (s : State) : s.Keeps (s.cancelOutside targets n) := by
  unfold State.cancelOutside
  exact .ite (State.keeps_of_watched rfl) (.refl s)

theorem State.keeps_stageQueue (stopped : List Nat) (m : Nat) (s : State) : s.Keeps (s.stageQueue stopped m) := by
  have hjoin := State.keeps_forEach (s.manifold m).targets _ (State.keeps_joinQueue stopped) s
  exact (State.Keeps.ite (c := s.pumps.suspended = true) (.refl s) hjoin).trans
    (State.keeps_forEach _ _ (State.keeps_cancelOutside _) _)

theorem State.keeps_stageDestage (m : Nat) (s : State) : s.Keeps (s.stageDestage m) := by
  unfold State.stageDestage
  split
  · exact s.keeps_modifyManifold ..
  split
  · exact s.keeps_modifyManifold ..
  split
  · exact State.keeps_of_watched rfl
  · exact .refl s

theorem State.keeps_stageSpeeds (m : Nat) (s : State) : s.Keeps (s.stageSpeeds m) :=
  State.keeps_forEach _ _ (fun n u => u.keeps_modifyPump n _) s

theorem State.keeps_stage (stopped : List Nat) (m : Nat) (s : State) : s.Keeps (s.stage stopped m) := by
  have hqueue : s.Keeps ((s.stageTargets m).stageQueue stopped m) :=
    (s.keeps_modifyManifold ..).trans (State.keeps_stageQueue ..)
  have hdestage (u : State) : u.Keeps (if u.pumps.suspended then u else u.stageDestage m) :=
    .ite (.refl u) (u.keeps_stageDestage m)
  exact hqueue.trans ((hdestage _).trans (State.keeps_stageSpeeds ..))

theorem State.keeps_grant (s : State) : s.Keeps s.grant := by
  unfold State.grant
  split
  · exact State.keeps_of_watched rfl
  · exact .refl s

theorem State.keeps_samplePumps (s : State) : s.Keeps s.samplePumps := State.keeps_of_watched rfl

theorem State.keeps_publish (s : State) : s.Keeps s.publish := State.keeps_of_watched rfl

theorem State.keeps_updateStaged (s : State) : s.Keeps s.updateStaged :=
  s.keeps_samplePumps.trans ((State.keeps_forEach _ _ State.keeps_examine _).trans
    ((State.keeps_suspension _).trans (State.keeps_forEach _ _ (State.keeps_stage _) _)))

theorem State.keeps_takePumps (s : State) : s.Keeps s.takePumps := by
  unfold State.takePumps
  split
  · exact s.keeps_updateStaged.trans ((State.keeps_grant _).trans
      ((State.keeps_publish _).trans (State.keeps_modifyDue ..)))
  · exact .refl s

theorem State.keeps_takePumpsIf (makes : Bool) (s : State) : s.Keeps (s.takePumpsIf makes) := by
  rcases s.takePumpsIf_eq makes with ⟨-, -, h⟩ | ⟨-, h⟩ <;> rw [h]
  · exact s.keeps_takePumps
  · exact .refl s

theorem keeps_handleManifoldSet (p : ManifoldSetParams) (s : State) : s.Keeps (handleManifoldSet p s).1 :=
  keeps_checked fun _ => s.keeps_modifyManifold ..

theorem keeps_handlePumpSet (p : PumpSetParams) (s : State) : s.Keeps (handlePumpSet p s).1 :=
  keeps_checked fun _ => s.keeps_modifyPump ..

theorem keeps_handleStartSet (interval : Half) (s : State) : s.Keeps (handleStartSet interval s).1 :=
  keeps_checked fun _ => State.keeps_of_watched rfl

theorem State.keeps_lockOut (n : Nat) (s : State) : s.Keeps (s.lockOut n) := by
  unfold State.lockOut
  split
  case h_7 => exact .refl s
  all_goals exact State.keeps_of_watched rfl

theorem keeps_handlePumpLockout (n : Byte) (s : State) : s.Keeps (handlePumpLockout n s).1 :=
  keeps_checked fun _ => s.keeps_lockOut _

theorem keeps_handlePumpRelease (n : Byte) (s : State) : s.Keeps (handlePumpRelease n s).1 :=
  keeps_checked fun _ => s.keeps_changePump ..

theorem keeps_handlePumpClear (n : Byte) (s : State) : s.Keeps (handlePumpClear n s).1 :=
  keeps_checked fun _ => s.keeps_changePump ..

/-! ### The Site Monitor (chapter 6) -/

/-- A zone changed so that its wind state agrees with any held wind that it agreed with. -/
theorem State.keeps_modifyZone (z : Nat) {f : Zone → Zone} (s : State)
    (hf : ∀ held (x : Zone), x.windOk held → (f x).windOk held) : s.Keeps (s.modifyZone z f) :=
  ⟨id, id, id, fun h => forall_mem_modify h (hf _), id, rfl⟩

theorem State.keeps_setLatch (latch : Bool) (z : Nat) (s : State) :
    s.Keeps (s.modifyZone z fun x => { x with latch := latch }) :=
  s.keeps_modifyZone z fun _ _ => id

theorem State.keeps_stopZones (k : Nat) (s : State) : s.Keeps (s.stopZones k) :=
  (State.keeps_forEach _ _ (State.keeps_setLatch true) s).trans (State.keeps_raiseIf ..)

theorem State.keeps_takePresence (k : Nat) (s : State) : s.Keeps (s.takePresence k) := by
  unfold State.takePresence
  exact .ite (.refl s) (.ite ((s.keeps_modifyPresence ..).trans (State.keeps_stopZones ..)) (s.keeps_modifyPresence ..))

/-- A zone just configured is CLEAR with count 0 (R129). -/
theorem Zone.windOk_configure (c : ZoneConfig) (held : Nat) (z : Zone) : (z.configure c).windOk held :=
  ⟨fun _ => ⟨rfl, rfl⟩, fun h => by cases h⟩

theorem State.keeps_setZone (p : ZoneSetParams) (s : State) : s.Keeps (s.setZone p) := by
  have hzone : s.Keeps ((s.modifyZone p.zone.toNat (Zone.configure (zoneConfigOf p))).raiseIf
      (decide ((s.zone p.zone.toNat).wind ≠ .clear)) .windState) :=
    (s.keeps_modifyZone _ fun held z _ => z.windOk_configure _ held).trans (State.keeps_raiseIf ..)
  unfold State.setZone
  dsimp only
  split
  · exact .ite (hzone.trans (State.keeps_stopZones ..)) hzone
  · exact hzone

theorem keeps_handleZoneSet (p : ZoneSetParams) (s : State) : s.Keeps (handleZoneSet p s).1 :=
  keeps_checked fun _ => s.keeps_setZone p

theorem keeps_handleZoneCap (z : Byte) (cap : Half) (s : State) : s.Keeps (handleZoneCap z cap s).1 :=
  keeps_checked fun _ => s.keeps_modifyZone _ fun _ _ => id

theorem keeps_handleZoneRelease (z : Byte) (s : State) : s.Keeps (handleZoneRelease z s).1 :=
  keeps_checked fun _ => State.keeps_forEach _ _ (State.keeps_setLatch false) s

theorem keeps_handleSiteRelease (s : State) : s.Keeps (handleSiteRelease s).1 :=
  keeps_checked fun _ => State.keeps_of_watched rfl

theorem keeps_handleWindSet (factor : Half) (decay : Byte) (s : State) : s.Keeps (handleWindSet factor decay s).1 :=
  keeps_checked fun _ => State.keeps_of_watched rfl

theorem State.keeps_takeLevelLow (s : State) : s.Keeps s.takeLevelLow :=
  .ite (State.keeps_of_watched rfl) (.refl s)

theorem State.keeps_takeLevelRestored (s : State) : s.Keeps s.takeLevelRestored :=
  .ite (State.keeps_of_watched rfl) (.refl s)

/-- A zone placed at a gate keeps its limits, and is DERATED only between them (Table 6-3). -/
theorem Zone.windOk_place {w : Nat} {z : Zone} (hz : z.heedsWind = true) : (z.place w).windOk w := by
  have hcfg : (z.place w).cfg = z.cfg := by
    unfold Zone.place
    split
    · split
      · rfl
      · split <;> rfl
    · split
      · rfl
      · split <;> rfl
  refine ⟨fun hheeds => ?_, fun hderated => ?_⟩
  · rw [Zone.heedsWind, hcfg] at hheeds
    rw [Zone.heedsWind, hheeds] at hz
    cases hz
  · rw [hcfg]
    unfold Zone.place at hderated
    split at hderated
    · next hhold =>
      split at hderated
      · simp [hhold] at hderated
      · split at hderated <;> simp [hhold] at hderated
    · split at hderated
      · cases hderated
      · split at hderated
        · omega
        · cases hderated

/-- A gate leaves every zone agreeing with the wind it holds. -/
theorem Zone.windOk_atGate {held w : Nat} {z : Zone} (h : z.windOk held) : (z.atGate w).windOk w := by
  unfold Zone.atGate
  split
  · next hz => exact Zone.windOk_place hz
  · next hz =>
    obtain ⟨hidle, -⟩ := h
    obtain ⟨hclear, hcount⟩ := hidle (by simpa using hz)
    exact ⟨fun _ => ⟨hclear, hcount⟩, fun hderated => by rw [hclear] at hderated; cases hderated⟩

theorem State.keeps_windGate (s : State) : s.Keeps s.windGate := by
  unfold State.windGate
  dsimp only
  refine State.Keeps.trans ?_ (State.keeps_raiseIf ..)
  exact ⟨id, id, id, fun h => List.forall_mem_map.2 fun z hz => Zone.windOk_atGate (h z hz), id, rfl⟩

theorem State.keeps_takeWind (s : State) : s.Keeps s.takeWind :=
  .ite (s.keeps_windGate.trans (State.keeps_modifyDue ..)) (.refl s)

/-! ### The Deck Mixer (sections 9.4 and 9.5) -/

/-- What one deck does is to clips, to itself and to the event summary. -/
theorem State.DeckChange.keeps {d : Nat} {s t : State} (h : s.DeckChange d t) : s.Keeps t := by
  obtain ⟨_, _, _, _, rfl⟩ := h.outside
  exact State.keeps_of_watched rfl

theorem State.keeps_emptyDeck (d : Nat) (s : State) : s.Keeps (s.emptyDeck d) :=
  (s.keeps_releaseHeld d).trans (State.keeps_modifyDeck ..)

theorem State.keeps_endDeckNow (d : Nat) (s : State) : s.Keeps (s.endDeckNow d) := (s.deckChange_endDeckNow d).keeps

theorem State.keeps_takeShowEnds (s : State) : s.Keeps s.takeShowEnds :=
  s.keeps_takeStop.trans ((State.keeps_takeSilence _).trans (State.keeps_takeEndTime _))

theorem State.keeps_takeDeckPeriod (s : State) : s.Keeps s.takeDeckPeriod := by
  rcases s.takeDeckPeriod_eq with ⟨-, h⟩ | ⟨-, -, h⟩ | ⟨-, -, h⟩ <;> rw [h]
  · exact .refl s
  · exact s.keeps_takeShowEnds
  · exact s.keeps_takeShowEnds.trans ((State.keeps_forEach _ _ (fun d u => (u.deckChange_processDeck d).keeps) _).trans
      (State.keeps_modifyDue ..))

theorem State.keeps_takeDeckStop (d : Nat) (s : State) : s.Keeps (s.takeDeckStop d) :=
  .ite (s.keeps_endDeckNow d) (.refl s)

theorem keeps_handleDeckCue (d : Byte) (h : Half) (cue : Quad) (s : State) : s.Keeps (handleDeckCue d h cue s).1 :=
  keeps_checked fun _ => (s.keeps_releaseHeld _).trans
    ((State.keeps_modifyClipSlot ..).trans (State.keeps_modifyDeck ..))

theorem keeps_handleDeckStart (d code : Byte) (start : Quad) (s : State) : s.Keeps (handleDeckStart d code start s).1 :=
  keeps_checked fun _ => s.keeps_modifyDeck ..

theorem State.keeps_stopDeckBy (d ramp : Nat) (s : State) : s.Keeps (s.stopDeckBy d ramp) := by
  unfold State.stopDeckBy
  dsimp only
  split
  · exact .refl s
  · exact s.keeps_emptyDeck d
  · exact s.keeps_emptyDeck d
  · exact .ite (s.keeps_endDeckNow d) (s.keeps_modifyDeck ..)
  · exact .ite (s.keeps_endDeckNow d) (s.keeps_modifyDeck ..)

theorem keeps_handleDeckStop (d : Byte) (ramp : Half) (s : State) : s.Keeps (handleDeckStop d ramp s).1 :=
  keeps_checked fun _ => s.keeps_stopDeckBy ..

theorem keeps_handleDeckGain (d : Byte) (target ramp : Half) (s : State) : s.Keeps (handleDeckGain d target ramp s).1 :=
  keeps_checked fun _ => s.keeps_modifyDeck ..

theorem keeps_handleDeckQuery (d : Byte) (s : State) : s.Keeps (handleDeckQuery d s).1 :=
  keeps_checked fun _ => s.keeps_takeEnvelope

theorem keeps_handleAudioSet (master : Half) (decay : Quad) (s : State) : s.Keeps (handleAudioSet master decay s).1 :=
  s.keeps_takeEnvelope.trans (State.keeps_of_watched rfl)

theorem State.keeps_mix (s : State) : s.Keeps s.mix := State.keeps_of_watched rfl

/-! ### The Configuration Store and the sample period (chapter 11, R1) -/

theorem keeps_handleStoreSave (s : State) : s.Keeps (handleStoreSave s).1 :=
  keeps_checked fun _ => State.keeps_of_watched rfl

theorem State.keeps_takeSave (s : State) : s.Keeps s.takeSave := .ite (State.keeps_of_watched rfl) (.refl s)

theorem State.keeps_settle (s : State) : s.Keeps s.settle :=
  (State.keeps_forEach _ _ State.keeps_takeGapEnd s).trans <|
    (State.keeps_takeEnvelope _).trans <| (State.keeps_forEach _ _ State.keeps_takePresence _).trans <|
    (State.keeps_takeStop _).trans <| (State.keeps_takeLevelLow _).trans <|
    (State.keeps_takeLevelRestored _).trans <| (State.keeps_takeSilence _).trans <|
    (State.keeps_takeEndTime _).trans <| (State.keeps_takeEffects _).trans <|
    (State.keeps_takeWind _).trans <| (State.keeps_takePumps _).trans <| (State.keeps_takeJet _).trans <|
    (State.keeps_takeLight _).trans <| State.keeps_takeSave _

theorem State.keeps_sampleInputs (i : Inputs) (s : State) : s.Keeps (s.sampleInputs i) := State.keeps_of_watched rfl

theorem State.keeps_countPeriod (s : State) : s.Keeps s.countPeriod := State.keeps_of_watched rfl

theorem State.keeps_samplePeriod (i : Inputs) (s : State) : s.Keeps (s.samplePeriod i) :=
  s.keeps_settle.trans <| (State.keeps_takeDeckPeriod _).trans <| (State.keeps_mix _).trans <|
    (State.keeps_forEach _ _ State.keeps_takeDeckStop _).trans <| (State.keeps_sampleInputs _ _).trans <|
    State.keeps_countPeriod _

/-! ### Every handler -/

theorem keeps_handlerOf {c : Instr} {h : Handler} (hc : handlerOf c = some h) (s : State) : s.Keeps (h s).1 := by
  cases c <;> cases hc
  case showStart => exact keeps_handleShowStart s
  case showHold => exact keeps_handleShowHold s
  case showResume => exact keeps_handleShowResume s
  case showEnd => exact keeps_handleShowEnd _ s
  case showStop => exact s.keeps_enterStopped
  case tempoSet => exact keeps_handleTempoSet _ _ s
  case effectAdd => exact keeps_handleEffectAdd _ s
  case effectEdit => exact keeps_handleEffectEdit _ _ _ _ _ s
  case effectRetire => exact keeps_handleEffectRetire _ _ s
  case effectQuery => exact keeps_handleEffectQuery _ s
  case groupDefine => exact keeps_handleGroupDefine _ _ _ s
  case nozzleSet => exact keeps_handleNozzleSet _ s
  case manifoldSet => exact keeps_handleManifoldSet _ s
  case pumpSet => exact keeps_handlePumpSet _ s
  case pumpRelease => exact keeps_handlePumpRelease _ s
  case pumpLockout => exact keeps_handlePumpLockout _ s
  case pumpClear => exact keeps_handlePumpClear _ s
  case startSet => exact keeps_handleStartSet _ s
  case zoneSet => exact keeps_handleZoneSet _ s
  case zoneCap => exact keeps_handleZoneCap _ _ s
  case zoneRelease => exact keeps_handleZoneRelease _ s
  case siteRelease => exact keeps_handleSiteRelease s
  case windSet => exact keeps_handleWindSet _ _ s
  case fixtureSet => exact keeps_handleFixtureSet _ s
  case lightMaster => exact State.keeps_of_watched rfl
  case lineSet => exact keeps_handleLineSet _ s
  case clipCreate => exact keeps_handleClipCreate _ _ s
  case clipRetire => exact keeps_handleClipRetire _ s
  case clipQuery => exact keeps_handleClipQuery _ s
  case deckCue => exact keeps_handleDeckCue _ _ _ s
  case deckStart => exact keeps_handleDeckStart _ _ _ s
  case deckStop => exact keeps_handleDeckStop _ _ s
  case deckGain => exact keeps_handleDeckGain _ _ _ s
  case deckQuery => exact keeps_handleDeckQuery _ s
  case audioSet => exact keeps_handleAudioSet _ _ s
  case linkSet => exact keeps_handleLinkSet _ _ _ s
  case storeSave => exact keeps_handleStoreSave s
  case showQuery | linkQuery | storeQuery => exact .refl s
  case groupQuery | nozzleQuery | manifoldQuery | pumpQuery | siteQuery | fixtureQuery | lineQuery =>
    exact keeps_checked fun _ => .refl s

/-- What a transfer that has ended does keeps the invariants, whatever it carried (R192). -/
theorem keeps_handlerOfTransfer (transfer : List Byte) (s : State) : s.Keeps (handlerOfTransfer transfer s).1 := by
  unfold handlerOfTransfer
  cases frameTransfer transfer with
  | command c =>
    cases hc : handlerOf c with
    | none => simpa [hc] using keeps_refuse .unknownCommand s
    | some h => simpa [hc] using keeps_handlerOf hc s
  | unknownCommand => exact .refl s
  | badLength => exact .refl s

end Sys2Proof.Machine
end

section
/-! PROOF. The link keeps its places and its transfers in range (R189 to R193, R196), and so every step keeps all the
invariants of this family (O55, O58). -/
namespace Sys2Proof.Machine

/-! ### The link -/

/-- What `State.linkOk` says of the link. -/
structure ShowLink.Ok (l : ShowLink) : Prop where
  places : placesHeld l ≤ 4
  waiting : ∀ r ∈ l.replies.tail, r.snapshot = none ∧ r.accepted = 0
  detached : l.attached = false → l.replies = [] ∧ l.transfer = none ∧ l.clipTransfer = none ∧ l.notice = none
  command : ∀ bytes ∈ l.transfer, 64 ≤ bytes.length ∧ bytes.length ≤ 513
  clip : ∀ bytes ∈ l.clipTransfer, 64 ≤ bytes.length ∧ bytes.length ≤ 65545

theorem State.linkOk_iff {s : State} : s.linkOk ↔ s.link.Ok :=
  ⟨fun ⟨hp, hw, hd, hc, hb⟩ => ⟨hp, hw, hd, hc, hb⟩, fun ⟨hp, hw, hd, hc, hb⟩ => ⟨hp, hw, hd, hc, hb⟩⟩

/-- The link's invariant reads no more than what transports messages. -/
theorem ShowLink.Ok.of_transport {l m : ShowLink} (h : m.transport = l.transport) (hl : l.Ok) : m.Ok := by
  simp only [ShowLink.transport, Prod.mk.injEq] at h
  obtain ⟨hattached, hreplies, htransfer, hclip, hnotice⟩ := h
  obtain ⟨hp, hw, hd, hc, hb⟩ := hl
  exact ⟨by rwa [placesHeld, hreplies, htransfer], by rwa [hreplies], by rwa [hattached, hreplies, htransfer, hclip, hnotice],
    by rwa [htransfer], by rwa [hclip]⟩

/-- A link with nothing in progress. -/
theorem ShowLink.Ok.of_idle {l : ShowLink} (hreplies : l.replies = []) (htransfer : l.transfer = none)
    (hclip : l.clipTransfer = none) (hnotice : l.notice = none) : l.Ok :=
  ⟨by simp [placesHeld, hreplies, htransfer], by simp [hreplies], fun _ => ⟨hreplies, htransfer, hclip, hnotice⟩,
    by simp [htransfer], by simp [hclip]⟩

/-- On an ATTACHED link nothing has to be idle. -/
theorem ShowLink.not_detached {l : ShowLink} (ha : l.attached = true) {p : Prop} : l.attached = false → p :=
  fun h => by rw [ha] at h; cases h

/-- A place is free for a command's packet: its transfer holds one already, or fewer than four are held (R191). -/
theorem ShowLink.Ok.replies_lt {l : ShowLink} (h : l.Ok) (hroom : l.transfer.isSome = true ∨ placesHeld l < 4) :
    l.replies.length < 4 := by
  obtain ⟨hplaces, -⟩ := h
  unfold placesHeld at hplaces hroom
  rcases hroom with hsome | hlt
  · rw [if_pos hsome] at hplaces; omega
  · omega

/-- The reply of a command behind those that wait (R193). -/
theorem ShowLink.Ok.dispatched {l m : ShowLink} (h : l.Ok) (hattached : m.attached = true)
    {r : Reply} (hreplies : m.replies = l.replies ++ [r]) (hr : r.snapshot = none ∧ r.accepted = 0)
    (htransfer : m.transfer = none) (hclip : m.clipTransfer = l.clipTransfer) (hlt : l.replies.length < 4) : m.Ok where
  places := by simp [placesHeld, hreplies, htransfer]; omega
  waiting q hq := by
    rw [hreplies] at hq
    have hmem : q ∈ l.replies.tail ∨ q = r := by
      cases hl : l.replies with
      | nil => simp [hl] at hq
      | cons a rest => simpa [hl] using hq
    rcases hmem with hwait | rfl
    · exact h.waiting q hwait
    · exact hr
  detached := ShowLink.not_detached hattached
  command := by simp [htransfer]
  clip := hclip ▸ h.clip

/-- A full packet joined to a transfer: one packet at least, and no more than the limit and one byte are kept. -/
theorem length_withPacket {limit : Nat} (transfer : Option (List Byte)) {packet : List Byte} (hlimit : 64 ≤ limit)
    (hfull : packet.length = 64) :
    64 ≤ (withPacket limit transfer packet).length ∧ (withPacket limit transfer packet).length ≤ limit + 1 := by
  simp only [withPacket, List.length_take, List.length_append, hfull]
  omega

/-- A packet that is neither over-long nor short is full. -/
theorem length_of_full {packet : List Byte} (hle : packet.length ≤ packetSize) (hshort : isShort packet = false) :
    packet.length = 64 := by
  have hge := of_decide_eq_false hshort
  simp only [packetSize] at hle hge
  omega

/-! ### Commands and events of the link -/

/-- From `s` to `t` all the invariants are kept, whatever the link transports. -/
structure State.KeepsAll (s t : State) : Prop where
  refs : s.refsAgree → t.refsAgree
  seqs : s.seqsAgree → t.seqsAgree
  levels : s.levelsOk → t.levelsOk
  wind : s.windOk → t.windOk
  valves : s.valvesOk → t.valvesOk
  link : s.link.Ok → t.link.Ok

theorem State.Keeps.all {s t : State} (h : s.Keeps t) : s.KeepsAll t :=
  ⟨h.refs, h.seqs, h.levels, h.wind, h.valves, ShowLink.Ok.of_transport h.transport⟩

theorem State.KeepsAll.refl (s : State) : s.KeepsAll s := (State.Keeps.refl s).all

theorem State.KeepsAll.trans {s t u : State} (h : s.KeepsAll t) (k : t.KeepsAll u) : s.KeepsAll u :=
  ⟨k.refs ∘ h.refs, k.seqs ∘ h.seqs, k.levels ∘ h.levels, k.wind ∘ h.wind, k.valves ∘ h.valves, k.link ∘ h.link⟩

/-- A change of the link alone. -/
theorem State.keepsAll_of_link {s : State} {l : ShowLink} (h : s.link.Ok → l.Ok) : s.KeepsAll { s with link := l } :=
  ⟨id, id, id, id, id, h⟩

/-- A command taken while a place is free for its reply (R191, R192). -/
theorem keepsAll_dispatch {h : Handler} (hh : ∀ s, State.Keeps s (h s).1) {s : State} (hattached : s.link.attached = true)
    (hroom : s.link.transfer.isSome = true ∨ placesHeld s.link < 4) : s.KeepsAll (dispatch h s) := by
  obtain ⟨hrefs, hseqs, hlevels, hwind, hvalves, htransport⟩ := hh s.transferTaken
  refine ⟨hrefs, hseqs, hlevels, hwind, hvalves, fun hl => ?_⟩
  simp only [ShowLink.transport, Prod.mk.injEq] at htransport
  obtain ⟨ha, hreplies, ht, hclip, -⟩ := htransport
  exact hl.dispatched (r := ⟨_, _, _, none, 0⟩) (ha.trans hattached) (congrArg (· ++ [_]) hreplies) ⟨rfl, rfl⟩ ht hclip
    (hl.replies_lt hroom)

theorem keepsAll_takeCommand {h : Handler} (hh : ∀ s, State.Keeps s (h s).1) (s : State) :
    s.KeepsAll (takeCommand h s) := by
  unfold takeCommand
  split
  · next hc =>
    obtain ⟨ha, ht, hlt⟩ := canTake_iff.1 hc
    exact keepsAll_dispatch hh ha (.inr (by simpa [placesHeld, ht] using hlt))
  · exact .refl s

/-- A packet of the command pipe (R189, R191): a further packet of its transfer, or the place it takes, keeps to four. -/
theorem exec_commandPacket_keepsAll (packet : List Byte) (s : State) :
    ∃ t, exec (.commandPacket packet) s = .next t ∧ s.KeepsAll t := by
  have haccepts : acceptsPacket packet s = true → s.link.attached = true ∧ packet.length ≤ packetSize
      ∧ (s.link.transfer.isSome = true ∨ placesHeld s.link < 4) := by
    simp only [acceptsPacket, Bool.and_eq_true, Bool.or_eq_true, decide_eq_true_eq]
    exact fun ⟨⟨ha, hle⟩, hroom⟩ => ⟨ha, hle, hroom⟩
  rcases execCommandPacket_eq packet s with ⟨-, h⟩ | ⟨hacc, hfull, h⟩ | ⟨hacc, -, h⟩
  · exact ⟨_, h, .refl s⟩
  · obtain ⟨ha, hle, hroom⟩ := haccepts hacc
    refine ⟨_, h, State.keepsAll_of_link fun hl => ?_⟩
    have hlt := hl.replies_lt hroom
    exact
      { places := by simp [placesHeld]; omega
        waiting := hl.waiting
        detached := ShowLink.not_detached ha
        command := fun bytes hb => by
          cases hb
          exact length_withPacket _ (limit := messageLimit) (by decide) (length_of_full hle hfull)
        clip := hl.clip }
  · obtain ⟨ha, -, hroom⟩ := haccepts hacc
    exact ⟨_, h, keepsAll_dispatch (keeps_handlerOfTransfer _) ha hroom⟩

theorem exec_malformedCommand_keepsAll (transfer : List Byte) (s : State) :
    ∃ t, exec (.malformedCommand transfer) s = .next t ∧ s.KeepsAll t := by
  refine ⟨_, rfl, ?_⟩
  split
  · exact keepsAll_takeCommand (keeps_refuse _) s
  · exact .refl s

/-- The head reply goes on, or leaves its place to the next (R193). -/
theorem ShowLink.Ok.headSent {l m : ShowLink} (h : l.Ok) (hattached : l.attached = true) {r : Reply} {rest : List Reply}
    (hreplies : l.replies = r :: rest) (hm : m.replies = rest ∨ ∃ q, m.replies = q :: rest)
    (hrest : m.attached = l.attached ∧ m.transfer = l.transfer ∧ m.clipTransfer = l.clipTransfer) : m.Ok := by
  obtain ⟨ha, ht, hc⟩ := hrest
  obtain ⟨hplaces, hwaiting, -, hcommand, hclip⟩ := h
  have hlen : m.replies.length ≤ l.replies.length := by
    rcases hm with hm | ⟨q, hm⟩ <;> simp [hm, hreplies]
  refine ⟨?_, fun q hq => hwaiting q ?_, ShowLink.not_detached (ha.trans hattached), by rwa [ht], by rwa [hc]⟩
  · unfold placesHeld at hplaces ⊢
    rw [ht]
    omega
  · rw [hreplies]
    rcases hm with hm | ⟨p, hm⟩ <;> rw [hm] at hq
    · exact List.mem_of_mem_tail hq
    · exact hq

theorem State.keepsAll_replySent {r : Reply} {rest : List Reply} (snapshot : Half) (packet : List Byte) (accepted : Bool)
    {s : State} (hattached : s.link.attached = true) (hreplies : s.link.replies = r :: rest) :
    s.KeepsAll (s.replySent r rest snapshot packet accepted) := by
  refine State.keepsAll_of_link fun hl => hl.headSent hattached hreplies ?_ ⟨rfl, rfl, rfl⟩
  dsimp only
  split
  · split
    · exact .inl rfl
    · exact .inr ⟨_, rfl⟩
  · exact .inr ⟨_, rfl⟩

/-- The bits of a snapshot leave the summary, which the link's invariant does not read (R194). -/
theorem State.keepsAll_clearSummary (snapshot : Half) (s : State) : s.KeepsAll (s.clearSummary snapshot) :=
  State.keepsAll_of_link (ShowLink.Ok.of_transport rfl)

theorem State.keepsAll_pollReply (accepted : Bool) (s : State) : s.KeepsAll (s.pollReply accepted) := by
  unfold State.pollReply
  split
  · next ha hr =>
    split
    · exact State.keepsAll_replySent _ _ _ ha hr
    · exact (s.keepsAll_clearSummary _).trans
        (State.keepsAll_replySent (s := s.clearSummary s.link.summary) _ _ _ ha hr)
  · exact State.keepsAll_of_link (ShowLink.Ok.of_transport rfl)

/-- A notice on an ATTACHED link (R195). -/
theorem State.keepsAll_noticeSent (snapshot : Half) (accepted : Bool) {s : State} (hattached : s.link.attached = true) :
    s.KeepsAll (s.noticeSent snapshot accepted) :=
  State.keepsAll_of_link fun ⟨hp, hw, _, hc, hb⟩ => ⟨hp, hw, ShowLink.not_detached hattached, hc, hb⟩

theorem State.keepsAll_pollNotice (accepted : Bool) (s : State) : s.KeepsAll (s.pollNotice accepted) := by
  have hrefused : s.KeepsAll { s with link := { s.link with lastNotice := none } } :=
    State.keepsAll_of_link (ShowLink.Ok.of_transport rfl)
  unfold State.pollNotice
  split
  · next ha =>
    split
    · exact State.keepsAll_noticeSent _ _ ha
    · dsimp only
      split
      · exact hrefused
      · exact (s.keepsAll_clearSummary _).trans
          (State.keepsAll_noticeSent (s := s.clearSummary s.link.summary) _ _ ha)
  · exact hrefused

/-- A packet of the clip pipe (R189, R190, R196). -/
theorem State.keepsAll_clipPacket (packet : List Byte) (s : State) : s.KeepsAll (s.clipPacket packet) := by
  rcases State.clipPacket_eq packet s with ⟨-, h⟩ | ⟨hacc, hfull, h⟩ | ⟨-, -, h⟩ <;> rw [h]
  · exact .refl s
  · refine State.keepsAll_of_link fun ⟨hp, hw, _, hc, _⟩ => ⟨hp, hw, ShowLink.not_detached hacc, hc, fun bytes hb => ?_⟩
    cases hb
    exact length_withPacket _ (limit := blockLimit) (by decide) hfull
  · have hended : s.KeepsAll { s with link := { s.link with clipTransfer := none } } := by
      refine State.keepsAll_of_link fun ⟨hp, hw, hd, hc, _⟩ => ⟨hp, hw, fun ha => ?_, hc, by simp⟩
      obtain ⟨hreplies, htransfer, -, hnotice⟩ := hd ha
      exact ⟨hreplies, htransfer, rfl, hnotice⟩
    exact hended.trans (State.keeps_judgeBlock ..).all

theorem State.keepsAll_clipBlock (packets : List (List Byte)) (s : State) :
    s.KeepsAll (forEach packets State.clipPacket s) :=
  forEach_keeps s.KeepsAll packets State.clipPacket (fun p _ _ h => h.trans (State.keepsAll_clipPacket p _)) s (.refl s)

theorem State.keepsAll_linkAttach (s : State) : s.KeepsAll { s with link := { s.link with attached := true } } :=
  State.keepsAll_of_link fun ⟨hp, hw, _, hc, hb⟩ => ⟨hp, hw, ShowLink.not_detached rfl, hc, hb⟩

theorem State.keepsAll_resetLink (s : State) : s.KeepsAll s.resetLink :=
  State.keepsAll_of_link fun _ => .of_idle rfl rfl rfl rfl

/-! ### Full reset (R201) -/

/-- Start-up leaves no record and no reference, zones CLEAR, valves at 0 and a link with nothing in progress. -/
theorem keepsAll_startUp (s : State) (store : ConfigStore) : s.KeepsAll (startUp store) := by
  have hrecords : (startUp store).records = [] := by
    simp [State.records, startUp, EffectSlot.blank, -List.reduceReplicate]
  have hslots : (startUp store).effects.slots.length = 256 := List.length_replicate
  refine ⟨fun _ => ⟨hslots, List.length_replicate, fun g _ => ?_, by simp [hrecords]⟩,
    fun _ => ⟨hslots, by simp [hrecords], by simp [hrecords], Nat.zero_le _, Nat.zero_le _⟩,
    fun _ => ⟨by simp [hrecords], Nat.zero_le _⟩, fun _ => ?_, fun _ => ?_, fun _ => .of_idle rfl rfl rfl rfl⟩
  · rw [State.refsTo, hrecords]
    show ((List.replicate 64 Group.blank).getD g Group.blank).refs = 0
    rw [List.getD_eq_getElem?_getD, List.getElem?_replicate]
    split <;> rfl
  · exact List.forall_mem_map.2 fun c _ => ⟨fun _ => ⟨rfl, rfl⟩, fun h => by cases h⟩
  · exact List.forall_mem_map.2 fun c _ => ⟨Nat.zero_le _, fun _ => rfl⟩

theorem State.keeps_setPending (pending : List Instr) (s : State) : s.Keeps { s with pending := pending } :=
  State.keeps_of_watched rfl

theorem State.keepsAll_fullReset (s : State) : s.KeepsAll { startUp s.store with pending := s.pending } :=
  (keepsAll_startUp s s.store).trans ((startUp s.store).keeps_setPending s.pending).all

/-! ### Every step -/

/-- Every event keeps the invariants. -/
theorem exec_event_keepsAll {c : Instr} (hc : handlerOf c = none) (s : State) :
    ∃ t, exec c s = .next t ∧ s.KeepsAll t := by
  cases c <;> cases hc
  case commandPacket packet => exact exec_commandPacket_keepsAll packet s
  case malformedCommand transfer => exact exec_malformedCommand_keepsAll transfer s
  case fullReset => exact ⟨_, rfl, s.keepsAll_fullReset⟩
  case linkAttach => exact ⟨_, rfl, s.keepsAll_linkAttach⟩
  case linkReset => exact ⟨_, rfl, s.keepsAll_resetLink⟩
  case samplePeriod i => exact ⟨_, rfl, (s.keeps_samplePeriod i).all⟩
  case replyPoll a => exact ⟨_, rfl, s.keepsAll_pollReply a⟩
  case noticePoll a => exact ⟨_, rfl, s.keepsAll_pollNotice a⟩
  case clipBlock ps => exact ⟨_, rfl, s.keepsAll_clipBlock ps⟩
  case endTimeReached => exact ⟨_, rfl, s.keeps_takeEndTime.all⟩
  case silenceTimerExpiry => exact ⟨_, rfl, s.keeps_takeSilence.all⟩
  case effectBoundary => exact ⟨_, rfl, s.keeps_takeEffects.all⟩
  case pendingEditApplied i => exact ⟨_, rfl, (s.keeps_takeEffectsIf _).all⟩
  case effectStartReached i => exact ⟨_, rfl, (s.keeps_takeEffectsIf _).all⟩
  case naturalEnd i => exact ⟨_, rfl, (s.keeps_takeEffectsIf _).all⟩
  case fadeComplete i => exact ⟨_, rfl, (s.keeps_takeEffectsIf _).all⟩
  case jetFrame => exact ⟨_, rfl, s.keeps_takeJet.all⟩
  case envelopeUpdate => exact ⟨_, rfl, s.keeps_takeEnvelope.all⟩
  case lightComputation => exact ⟨_, rfl, s.keeps_takeLight.all⟩
  case pumpUpdate => exact ⟨_, rfl, s.keeps_takePumps.all⟩
  case pumpStartTimeout n => exact ⟨_, rfl, (s.keeps_takePumpsIf _).all⟩
  case pumpStopTimeout n => exact ⟨_, rfl, (s.keeps_takePumpsIf _).all⟩
  case destage m => exact ⟨_, rfl, (s.keeps_takePumpsIf _).all⟩
  case startGrant => exact ⟨_, rfl, (s.keeps_takePumpsIf _).all⟩
  case windGate => exact ⟨_, rfl, s.keeps_takeWind.all⟩
  case windHoldRelease z => exact ⟨_, rfl, (State.Keeps.ite s.keeps_takeWind (.refl s)).all⟩
  case presenceDebounced k => exact ⟨_, rfl, (s.keeps_takePresence k).all⟩
  case emergencyStopAssertion => exact ⟨_, rfl, (State.Keeps.ite s.keeps_assertStop (.refl s)).all⟩
  case levelLow => exact ⟨_, rfl, s.keeps_takeLevelLow.all⟩
  case levelRestored => exact ⟨_, rfl, s.keeps_takeLevelRestored.all⟩
  case lineGapEnd l => exact ⟨_, rfl, (s.keeps_takeGapEnd l).all⟩
  case deckPeriod => exact ⟨_, rfl, s.keeps_takeDeckPeriod.all⟩
  case deckBegin d => exact ⟨_, rfl, (State.Keeps.ite s.keeps_takeDeckPeriod (.refl s)).all⟩
  case deckStopComplete d => exact ⟨_, rfl, (s.keeps_takeDeckStop d).all⟩
  case saveCompletion => exact ⟨_, rfl, s.keeps_takeSave.all⟩

theorem exec_keepsAll (c : Instr) (s : State) : ∃ t, exec c s = .next t ∧ s.KeepsAll t := by
  cases hc : handlerOf c with
  | some h => exact ⟨_, exec_of_handlerOf hc s, keepsAll_takeCommand (keeps_handlerOf hc) s⟩
  | none => exact exec_event_keepsAll hc s

/-- Every step keeps every invariant of this family. -/
theorem step_keepsAll {s t : State} (h : step s = .next t) : s.KeepsAll t := by
  unfold step at h
  split at h
  · cases h
    exact .refl s
  · next c rest _ =>
    obtain ⟨u, hu, hkeeps⟩ := exec_keepsAll c { s with pending := rest }
    obtain rfl : u = t := by simpa [hu] using h
    exact (s.keeps_setPending rest).all.trans hkeeps

/-- Settles O55: each invariant is the sizes of the tables, kept with the promises of the show state, and what it says of the
effect table, kept block by block. -/
theorem effectTableKept : Obligations.EffectTableKept := by
  unfold Obligations.EffectTableKept
  refine ⟨fun s t hs h => ?_, fun s t hs h => ?_⟩
  · obtain ⟨hsized, hrefs⟩ := State.groupsOk_iff.1 hs
    exact State.groupsOk_iff.2 ⟨(step_keepsShow h).sized hsized, (step_keepsAll h).refs hrefs⟩
  · obtain ⟨hsized, hseqs⟩ := State.addSeqOk_iff.1 hs
    exact State.addSeqOk_iff.2 ⟨(step_keepsShow h).sized hsized, (step_keepsAll h).seqs hseqs⟩

/-- Settles O58: block by block, as every figure is written within its range. -/
theorem figuresKept : Obligations.FiguresKept := by
  unfold Obligations.FiguresKept
  exact ⟨fun _ _ hs h => (step_keepsAll h).levels hs, fun _ _ hs h => (step_keepsAll h).wind hs,
    fun _ _ hs h => (step_keepsAll h).valves hs,
    fun _ _ hs h => State.linkOk_iff.2 ((step_keepsAll h).link (State.linkOk_iff.1 hs))⟩

end Sys2Proof.Machine
end

section
/-! PROOF. The commands of the effect table refused (R20, R23, R36), and GROUP_DEFINE (R44). -/
namespace Sys2Proof.Machine

/-! ### Checks in order -/

/-- The first check fails. -/
theorem firstFailure_cons_true {b : Bool} {c : ResultCode} {l : List (Bool × ResultCode)} (h : b = true) :
    firstFailure ((b, c) :: l) = some c := by
  simp [firstFailure, h]

/-- The first check passes. -/
theorem firstFailure_cons_false {b : Bool} {c : ResultCode} {l : List (Bool × ResultCode)} (h : b = false) :
    firstFailure ((b, c) :: l) = firstFailure l := by
  simp [firstFailure, h]

/-- A command refused on a ready link does nothing but answer. -/
theorem exec_of_refused {c : Instr} {h : Handler} {code : ResultCode} {s : State} (hc : handlerOf c = some h) (hs : s.ready)
    (hr : h s.transferTaken = (s.transferTaken, ⟨code, []⟩)) : exec c s = .next (s.answered code []) := by
  rw [exec_of_handlerOf hc, takeCommand_refuse (canTake_iff.2 hs) hr]

/-! ### EFFECT_ADD refused (R23) -/

/-- The checks of a coded EFFECT_ADD (R23 steps 1 and 3 to 5). -/
def addChecks (s : State) (p : EffectAddParams) (c : AddCodes) : List (Bool × ResultCode) :=
  [(s.timer.showState = .ending, .wrongShowState),
   (c.shape.needsPeriod && decide (p.p = 0), .badParam),
   (groupCheck s p.group.toNat c.kind = some .groupUndefined, .groupUndefined),
   (groupCheck s p.group.toNat c.kind = some .groupKind, .groupKind),
   (decide (s.effects.addCounter = 4294967295), .tableFull)]

/-- An EFFECT_ADD whose checks have passed (R26 to R28). -/
def addPlaced (p : EffectAddParams) (c : AddCodes) : Handler := fun s =>
  match s.freeEffectSlot with
  | some i => addAt i 0 (newRecord s p c) s
  | none =>
    match s.victim with
    | some i => addAt i (s.effectHandle i) (newRecord s p c) ((s.freeRecord i).raise .effectEvicted)
    | none => refuse .tableFull s

theorem handleEffectAdd_of_uncoded {p : EffectAddParams} (h : addCodes p = none) (s : State) :
    handleEffectAdd p s = refuse (if s.timer.showState = .ending then .wrongShowState else .badParam) s := by
  simp only [handleEffectAdd, h]

theorem handleEffectAdd_of_coded {p : EffectAddParams} {c : AddCodes} (h : addCodes p = some c) (s : State) :
    handleEffectAdd p s = checked (addChecks s p c) (addPlaced p c) s := by
  simp only [handleEffectAdd, h]
  rfl

/-- A coded EFFECT_ADD of which a check fails. -/
theorem handleEffectAdd_of_failure {p : EffectAddParams} {c : AddCodes} {code : ResultCode} {s : State}
    (h : addCodes p = some c) (hl : firstFailure (addChecks s p c) = some code) :
    handleEffectAdd p s = (s, ⟨code, []⟩) := by
  rw [handleEffectAdd_of_coded h, checked_of_some _ _ hl]

/-- EFFECT_ADD in ENDING (R23 step 1). -/
theorem handleEffectAdd_of_ending (p : EffectAddParams) {s : State} (h : s.timer.showState = .ending) :
    handleEffectAdd p s = (s, ⟨.wrongShowState, []⟩) := by
  cases hc : addCodes p with
  | none => rw [handleEffectAdd_of_uncoded hc, if_pos h]; rfl
  | some c => exact handleEffectAdd_of_failure hc (firstFailure_cons_true (by simpa using h))

/-- The first two checks of a coded EFFECT_ADD pass. -/
theorem firstFailure_addChecks {p : EffectAddParams} {c : AddCodes} {s : State} (hs : s.timer.showState ≠ .ending)
    (hp : c.shape.needsPeriod = false ∨ p.p ≠ 0) : firstFailure (addChecks s p c) = firstFailure
      [(decide (groupCheck s p.group.toNat c.kind = some .groupUndefined), .groupUndefined),
       (decide (groupCheck s p.group.toNat c.kind = some .groupKind), .groupKind),
       (decide (s.effects.addCounter = 4294967295), .tableFull)] := by
  refine (firstFailure_cons_false (by simpa using hs)).trans (firstFailure_cons_false ?_)
  rcases hp with hp | hp
  · rw [hp, Bool.false_and]
  · rw [decide_eq_false hp, Bool.and_false]

/-! The group check (R23 step 4, R36 step 5) -/

theorem groupCheck_of_undefined {s : State} {g : Nat} (k : Kind) (h : (s.group g).defined = none) :
    groupCheck s g k = some .groupUndefined := by
  simp only [groupCheck, h]

theorem groupCheck_of_defined {s : State} {g : Nat} {k : Kind} {d : GroupDef} (h : (s.group g).defined = some d) :
    groupCheck s g k = if d.kind = k then none else some .groupKind := by
  simp only [groupCheck, h]

/-- With a record that may not be evicted in every slot there is no place (R21, R27). -/
theorem addPlaced_of_full (p : EffectAddParams) (c : AddCodes) {s : State}
    (h : ∀ e ∈ s.effects.slots, ∃ r, e.record = some r ∧ r.evictable = false) :
    addPlaced p c s = (s, ⟨.tableFull, []⟩) := by
  have hfree : s.freeEffectSlot = none := by
    refine List.findIdx?_eq_none_iff.2 fun e he => ?_
    obtain ⟨r, hr, -⟩ := h e he
    simp [hr]
  have hcandidates : s.evictionCandidates = [] := by
    refine List.filterMap_eq_nil_iff.2 fun ⟨e, i⟩ hmem => ?_
    obtain ⟨r, hr, hkept⟩ := h e (List.mem_of_getElem? (List.mem_zipIdx_iff_getElem?.1 hmem))
    simp [hr, hkept]
  have hvictim : s.victim = none := by simp [State.victim, hcandidates, sortByKey]
  simp only [addPlaced, hfree, hvictim]
  rfl

/-! ### EFFECT_EDIT refused (R36) -/

/-- The checks of a coded EFFECT_EDIT of a record (R36 steps 3 to 5). -/
def editChecks (s : State) (r : EffectRecord) (set : Half) (v : EditValues) : List (Bool × ResultCode) :=
  [(r.state = .fading, .wrongState),
   ((r.resulting (editFields r.params.kind set v)).shape.needsPeriod
      && decide ((r.resulting (editFields r.params.kind set v)).p = 0), .badParam),
   (named set 11 && decide (groupCheck s v.group.toNat r.params.kind = some .groupUndefined), .groupUndefined),
   (named set 11 && decide (groupCheck s v.group.toNat r.params.kind = some .groupKind), .groupKind)]

section
variable {h : Half} {timing : Byte} {time : Quad} {set : Half} {v : EditValues} {s : State}

theorem handleEffectEdit_of_uncoded (hc : timingOf timing = none ∨ editCoded set v = false) :
    handleEffectEdit h timing time set v s = (s, ⟨.badParam, []⟩) := by
  unfold handleEffectEdit
  split
  · next c ht hv => rcases hc with hc | hc <;> simp [hc] at ht hv
  · rfl

theorem handleEffectEdit_of_stale {c : EditTiming} (ht : timingOf timing = some c) (hv : editCoded set v = true)
    (hl : s.lookupEffect h = none) : handleEffectEdit h timing time set v s = (s, ⟨.staleHandle, []⟩) := by
  simp only [handleEffectEdit, ht, hv, hl]
  rfl

theorem handleEffectEdit_of_coded {c : EditTiming} {r : EffectRecord} (ht : timingOf timing = some c)
    (hv : editCoded set v = true) (hl : s.lookupEffect h = some r) : handleEffectEdit h timing time set v s =
      checked (editChecks s r set v) (editAccepted (handleSlot h) r c time set v) s := by
  simp only [handleEffectEdit, ht, hv, hl]
  rfl

/-- A coded EFFECT_EDIT of which a check fails. -/
theorem handleEffectEdit_of_failure {c : EditTiming} {r : EffectRecord} {code : ResultCode} (ht : timingOf timing = some c)
    (hv : editCoded set v = true) (hl : s.lookupEffect h = some r)
    (hf : firstFailure (editChecks s r set v) = some code) :
    handleEffectEdit h timing time set v s = (s, ⟨code, []⟩) := by
  rw [handleEffectEdit_of_coded ht hv hl, checked_of_some _ _ hf]

end

/-- The first two checks of an EFFECT_EDIT pass. -/
theorem firstFailure_editChecks {s : State} {r : EffectRecord} {set : Half} {v : EditValues} (hr : r.state ≠ .fading)
    (hp : (r.resulting (editFields r.params.kind set v)).shape.needsPeriod = false
      ∨ (r.resulting (editFields r.params.kind set v)).p ≠ 0) :
    firstFailure (editChecks s r set v) = firstFailure
      [(named set 11 && decide (groupCheck s v.group.toNat r.params.kind = some .groupUndefined), .groupUndefined),
       (named set 11 && decide (groupCheck s v.group.toNat r.params.kind = some .groupKind), .groupKind)] := by
  refine (firstFailure_cons_false (by simpa using hr)).trans (firstFailure_cons_false ?_)
  rcases hp with hp | hp
  · rw [hp, Bool.false_and]
  · rw [decide_eq_false hp, Bool.and_false]

/-- Settles O12: the first failing check of each command, in its order. -/
theorem effectRefusals : Obligations.EffectRefusals := by
  unfold Obligations.EffectRefusals
  intro s hs
  refine ⟨fun p hending => exec_of_refused rfl hs (handleEffectAdd_of_ending p hending), fun p hne hc => ?_,
    fun p c hne hc => ⟨fun hneeds hzero => ?_, fun hperiod => ⟨fun hundef => ?_, fun d hd => ⟨fun hkind => ?_,
      fun hkind hcounter => ?_, fun hkind hcounter hfull => ?_⟩⟩⟩,
    fun h timing time set v hc => exec_of_refused rfl hs (handleEffectEdit_of_uncoded hc),
    fun h timing time set v ht hv hl => ?_, fun h timing time set v r ht hv hl => ?_⟩
  · refine exec_of_refused rfl hs ?_
    rw [handleEffectAdd_of_uncoded hc, if_neg (c := s.transferTaken.timer.showState = .ending) hne]
    rfl
  · refine exec_of_refused rfl hs (handleEffectAdd_of_failure hc ?_)
    exact (firstFailure_cons_false (decide_eq_false hne)).trans
      (firstFailure_cons_true (by simp [hneeds, hzero]))
  · refine exec_of_refused rfl hs (handleEffectAdd_of_failure hc ?_)
    rw [firstFailure_addChecks (s := s.transferTaken) hne hperiod, groupCheck_of_undefined (s := s.transferTaken) _ hundef]
    exact firstFailure_cons_true rfl
  · refine exec_of_refused rfl hs (handleEffectAdd_of_failure hc ?_)
    rw [firstFailure_addChecks (s := s.transferTaken) hne hperiod, groupCheck_of_defined (s := s.transferTaken) hd, if_neg hkind]
    exact (firstFailure_cons_false rfl).trans (firstFailure_cons_true rfl)
  · refine exec_of_refused rfl hs (handleEffectAdd_of_failure hc ?_)
    rw [firstFailure_addChecks (s := s.transferTaken) hne hperiod, groupCheck_of_defined (s := s.transferTaken) hd, if_pos hkind]
    exact firstFailure_cons_true (decide_eq_true hcounter)
  · refine exec_of_refused rfl hs ?_
    rw [handleEffectAdd_of_coded hc, checked_of_none, addPlaced_of_full p c (s := s.transferTaken) hfull]
    rw [firstFailure_addChecks (s := s.transferTaken) hne hperiod, groupCheck_of_defined (s := s.transferTaken) hd, if_pos hkind]
    exact firstFailure_cons_false (decide_eq_false hcounter)
  · obtain ⟨c, ht⟩ := Option.isSome_iff_exists.1 ht
    exact exec_of_refused rfl hs (handleEffectEdit_of_stale ht hv hl)
  · obtain ⟨c, ht⟩ := Option.isSome_iff_exists.1 ht
    have hfails {code : ResultCode} (hf : firstFailure (editChecks s.transferTaken r set v) = some code) :
        exec (.effectEdit h timing time set v) s = .next (s.answered code []) :=
      exec_of_refused rfl hs (handleEffectEdit_of_failure ht hv hl hf)
    refine ⟨fun hfading => hfails (firstFailure_cons_true (by simpa using hfading)), fun hne => ⟨fun hneeds hzero => ?_,
      fun hperiod hnamed => ⟨fun hundef => ?_, fun d hd hkind => ?_⟩⟩⟩
    · exact hfails ((firstFailure_cons_false (by simpa using hne)).trans
        (firstFailure_cons_true (by simp [hneeds, hzero])))
    · refine hfails ?_
      rw [firstFailure_editChecks (s := s.transferTaken) hne hperiod, groupCheck_of_undefined (s := s.transferTaken) _ hundef]
      exact firstFailure_cons_true (by simp [hnamed])
    · refine hfails ?_
      rw [firstFailure_editChecks (s := s.transferTaken) hne hperiod, groupCheck_of_defined (s := s.transferTaken) hd,
        if_neg hkind]
      exact (firstFailure_cons_false (by simp)).trans (firstFailure_cons_true (by simp [hnamed]))

/-! ### GROUP_DEFINE (R44) -/

/-- GROUP_DEFINE of a coded kind, by its checks in order. -/
theorem handleGroupDefine_of_coded {kind : Byte} {k : Kind} (hk : kindOf kind = some k) (g : Byte) (members : List Half)
    (s : State) : handleGroupDefine g kind members s = checked
      [(decide (63 < g.toNat) || decide (64 < members.length) || members.any (memberOutOfRange k), .badParam),
       (decide (¬ members.Nodup), .duplicateMember), (decide ((s.group g.toNat).refs ≠ 0), .groupInUse)]
      (accept fun s => s.modifyGroup g.toNat fun x => { x with
        defined := if members = [] then none else some ⟨k, members.map (·.toNat)⟩ }) s := by
  simp only [handleGroupDefine, hk]

/-- What R44 step 1 refuses of a GROUP_DEFINE. -/
def groupFieldsBad (g kind : Byte) (members : List Half) : Prop :=
  63 < g.toNat ∨ 1 < kind.toNat ∨ 64 < members.length
    ∨ (kind = 0 ∧ ∃ m ∈ members, 383 < m.toNat) ∨ (kind = 1 ∧ ∃ m ∈ members, 511 < m.toNat)

/-- A kind code over 1 names no kind. -/
theorem kindOf_cases (kind : Byte) : (kind = 0 ∧ kindOf kind = some .jet) ∨ (kind = 1 ∧ kindOf kind = some .light)
    ∨ (1 < kind.toNat ∧ kindOf kind = none) := by
  by_cases h0 : kind = 0
  · exact .inl ⟨h0, by rw [kindOf, if_pos h0]⟩
  by_cases h1 : kind = 1
  · exact .inr (.inl ⟨h1, by rw [kindOf, if_neg h0, if_pos h1]⟩)
  · exact .inr (.inr ⟨by bv_omega, by rw [kindOf, if_neg h0, if_neg h1]⟩)

/-- The first check of a GROUP_DEFINE of a kind fails exactly when its fields are bad. -/
theorem memberOutOfRange_iff {g kind : Byte} {members : List Half} {k : Kind} (hk : kindOf kind = some k) :
    (decide (63 < g.toNat) || decide (64 < members.length) || members.any (memberOutOfRange k)) = true
      ↔ groupFieldsBad g kind members := by
  rcases kindOf_cases kind with ⟨rfl, h⟩ | ⟨rfl, h⟩ | ⟨-, h⟩ <;> rw [hk] at h
  · obtain rfl : k = .jet := by simpa using h
    simp [groupFieldsBad, memberOutOfRange, or_assoc]
  · obtain rfl : k = .light := by simpa using h
    simp [groupFieldsBad, memberOutOfRange, or_assoc]
  · cases h

/-- Bad fields are refused first (R44 step 1). -/
theorem handleGroupDefine_of_bad {g kind : Byte} {members : List Half} (hbad : groupFieldsBad g kind members) (s : State) :
    handleGroupDefine g kind members s = (s, ⟨.badParam, []⟩) := by
  cases hk : kindOf kind with
  | none => simp only [handleGroupDefine, hk]; rfl
  | some k =>
    rw [handleGroupDefine_of_coded hk, checked_of_some]
    exact firstFailure_cons_true ((memberOutOfRange_iff hk).2 hbad)

/-- Fields that are not bad name a kind, and leave the checks of the members and of the references. -/
theorem handleGroupDefine_of_good {g kind : Byte} {members : List Half} (hgood : ¬ groupFieldsBad g kind members)
    (s : State) : handleGroupDefine g kind members s = checked
      [(decide (¬ members.Nodup), .duplicateMember), (decide ((s.group g.toNat).refs ≠ 0), .groupInUse)]
      (accept fun s => s.modifyGroup g.toNat fun x => { x with
        defined := if members = [] then none else some ⟨if kind = 0 then .jet else .light, members.map (·.toNat)⟩ }) s := by
  have hcoded : kindOf kind = some (if kind = 0 then .jet else .light) := by
    rcases kindOf_cases kind with ⟨rfl, h⟩ | ⟨rfl, h⟩ | ⟨h, -⟩
    · exact h
    · exact h
    · exact absurd (.inr (.inl h)) hgood
  have hfirst := Bool.eq_false_iff.2 fun h => hgood ((memberOutOfRange_iff hcoded).1 h)
  rw [handleGroupDefine_of_coded hcoded]
  simp only [checked, firstFailure_cons_false hfirst]

/-- Settles O16: the checks in order, then the group as it is defined. -/
theorem groupDefineOutcomes : Obligations.GroupDefineOutcomes := by
  unfold Obligations.GroupDefineOutcomes
  intro g kind members s hs bad
  refine ⟨fun hbad => exec_of_refused rfl hs (handleGroupDefine_of_bad hbad _), fun hgood hdup => ?_,
    fun hgood hnodup hrefs => ?_, fun hgood hnodup hrefs => ?_⟩
  · refine exec_of_refused rfl hs ?_
    rw [handleGroupDefine_of_good hgood, checked_of_some]
    exact firstFailure_cons_true (decide_eq_true hdup)
  · refine exec_of_refused rfl hs ?_
    rw [handleGroupDefine_of_good hgood, checked_of_some]
    exact (firstFailure_cons_false (decide_eq_false (not_not_intro hnodup))).trans
      (firstFailure_cons_true (decide_eq_true hrefs))
  · have hpass : firstFailure [(decide (¬ members.Nodup), .duplicateMember),
        (decide ((s.transferTaken.group g.toNat).refs ≠ 0), .groupInUse)] = none :=
      (firstFailure_cons_false (decide_eq_false (not_not_intro hnodup))).trans
        (firstFailure_cons_false (decide_eq_false (not_not_intro hrefs)))
    rw [exec_of_handlerOf rfl, takeCommand_of_ready hs, handleGroupDefine_of_good hgood, checked_of_none _ _ hpass]
    rfl

end Sys2Proof.Machine
end

section
/-! PROOF. EFFECT_RETIRE (Table 2-6) and the accepted EFFECT_EDIT (R37 to R41), state by state. -/
namespace Sys2Proof.Machine

/-! ### A record changed, written out -/

/-- A group with one more reference, and with one less (R43). -/
def Group.refer (x : Group) : Group := { x with refs := x.refs + 1 }

def Group.release (x : Group) : Group := { x with refs := x.refs - 1 }

theorem State.addRef_eq (g : Nat) (s : State) : s.addRef g = s.modifyGroup g Group.refer := rfl

theorem State.dropRef_eq (g : Nat) (s : State) : s.dropRef g = s.modifyGroup g Group.release := rfl

/-- A change of the record that slot `i` holds, written out by what it leaves of the record and of the counts. -/
theorem State.RecordChange.eq_of_groups {i : Nat} {k : EffectRecord → Option EffectRecord} {s t : State} {r : EffectRecord}
    {groups : List Group} (h : s.RecordChange i k t) (hr : (s.effectSlot i).record = some r)
    (hgroups : t.effects.groups = groups) : t = { s with effects := { s.effects with
      slots := s.effects.slots.modify i fun e => { e with record := k r }
      groups := groups } } := by
  have hslots : t.effects.slots = s.effects.slots.modify i fun e => { e with record := k r } :=
    h.slots.trans (modify_congr_of_entry fun e he => by
      rw [State.effectSlot_of_getElem? he] at hr
      rw [EffectSlot.change, hr]
      rfl)
  obtain ⟨hadd, htouch⟩ := h.counters
  obtain ⟨⟨slots, groups', add, touch⟩, rfl⟩ := h.outside
  cases hslots
  cases hgroups
  cases hadd
  cases htouch
  rfl

/-! ### EFFECT_RETIRE (R33 to R35) -/

/-- The counts once the references of a freed record are released (R35). -/
theorem State.groups_freeRecord {i : Nat} {r : EffectRecord} {s : State} (hr : (s.effectSlot i).record = some r) :
    (s.freeRecord i).effects.groups =
      match r.reserved with
      | some g => (s.effects.groups.modify r.params.group Group.release).modify g Group.release
      | none => s.effects.groups.modify r.params.group Group.release := by
  unfold State.freeRecord EffectRecord.reserved
  rw [hr]
  dsimp only
  cases r.edit.bind (·.fields.group) <;> rfl

/-- The counts once the pending edit of a record entering FADING is settled (R34). -/
theorem State.groups_imposeFade {i : Nat} {t : ShowTime} {r : EffectRecord} {s : State}
    (hr : (s.effectSlot i).record = some r) : (s.imposeFade i t).effects.groups =
      match r.reserved with
      | some g =>
        if (r.editAt t).isSome then s.effects.groups.modify r.params.group Group.release
        else s.effects.groups.modify g Group.release
      | none => s.effects.groups := by
  have hsettle : (s.imposeFade i t).effects.groups = (s.settleEdit i t).effects.groups := by
    unfold State.imposeFade
    rw [hr]
    rfl
  rw [hsettle]
  unfold State.settleEdit
  rw [hr]
  cases he : r.edit with
  | none => simp only [EffectRecord.reserved, he, Option.bind_none]
  | some e =>
    simp only [EffectRecord.reserved, EffectRecord.editAt, he, Option.bind_some]
    cases hg : e.fields.group <;> cases atOrAfter t e.boundary <;> simp [State.applyEdit, State.dropRef?, State.dropRef_eq, hg]

/-- The mode of a retire by its code (Table 2-6). -/
theorem retireModeOf_eq_none {mode : Byte} (h : 2 ≤ mode.toNat) : retireModeOf mode = none := by
  have h0 : mode ≠ 0 := by rintro rfl; cases h
  have h1 : mode ≠ 1 := by rintro rfl; exact absurd h (by decide)
  simp only [retireModeOf, if_neg h0, if_neg h1]

theorem retireModeOf_of_le {mode : Byte} (h : mode.toNat ≤ 1) :
    ∃ m, retireModeOf mode = some m ∧ (m = .cut ↔ mode = 1) := by
  by_cases h0 : mode = 0
  · exact ⟨.fade, by rw [retireModeOf, if_pos h0], by simp [h0]⟩
  · have h1 : mode = 1 := by bv_omega
    exact ⟨.cut, by rw [retireModeOf, if_neg h0, if_pos h1], by simp [h1]⟩

/-- Settles O15: the freed record, the imposed fade or nothing, by the mode and the record's state. -/
theorem effectRetireOutcomes : Obligations.EffectRetireOutcomes := by
  unfold Obligations.EffectRetireOutcomes
  intro h mode s hs
  refine ⟨fun hmode => exec_of_refused rfl hs ?_, fun hmode hl => exec_of_refused rfl hs ?_, fun r hmode hl => ?_⟩
  · simp only [handleEffectRetire, retireModeOf_eq_none hmode]
    rfl
  · obtain ⟨m, hm, -⟩ := retireModeOf_of_le hmode
    have hl : s.transferTaken.lookupEffect h = none := hl
    simp only [handleEffectRetire, hm, hl]
    rfl
  obtain ⟨m, hm, hcut⟩ := retireModeOf_of_le hmode
  have hl : s.transferTaken.lookupEffect h = some r := hl
  have hr := State.record_of_lookup hl
  have hexec : exec (.effectRetire h mode) s = .next (takeCommand (handleEffectRetire h mode) s) := rfl
  rw [takeCommand_of_ready hs] at hexec
  simp only [handleEffectRetire, hm, hl, hcut] at hexec
  refine ⟨fun hfree => ?_, fun hfade hfading => ?_, fun hfade hactive => ?_⟩ <;> rw [hexec]
  · rw [if_pos hfree, (State.freeRecord_change _ _).eq_of_groups hr (State.groups_freeRecord hr)]
    rfl
  · rw [if_neg (by simp [hfade, hfading]), if_neg (by simp [hfading])]
    rfl
  · rw [if_neg (by simp [hfade, hactive]), if_pos hactive,
      (State.imposeFade_change _ _ _).eq_of_groups hr (State.groups_imposeFade hr)]
    rfl

/-! ### The accepted EFFECT_EDIT (R37 to R41) -/

/-- A state in which an edit has left slot `i` with record `r` and the groups as given. -/
def State.edited (i : Nat) (r : EffectRecord) (groups : List Group) (s : State) : State :=
  { s with effects := { s.effects with
      slots := s.effects.slots.modify i fun e => { e with record := some r }
      groups := groups
      touchCounter := min (s.effects.touchCounter + 1) 4294967295 } }

/-- A change of the record that an edit has left. -/
theorem State.modifyRecord_edited (i : Nat) (r : EffectRecord) (groups : List Group) (f : EffectRecord → EffectRecord)
    (s : State) : (s.edited i r groups).modifyRecord i f = s.edited i (f r) groups := by
  unfold State.edited State.modifyRecord State.modifyEffectSlot
  dsimp only
  rw [List.modify_modify_eq]
  rfl

/-- A record with the touch stamp, and pinned and class as an edit names them (R41). -/
def EffectRecord.touched (stamp : Nat) (set : Half) (v : EditValues) (r : EffectRecord) : EffectRecord :=
  { r with
    touch := stamp
    pinned := if named set 12 then v.pinned = 1 else r.pinned
    cls := if named set 13 then (if v.cls = 1 then .ambient else .showClass) else r.cls }

/-- The codes that a coded edit names hold values (R36 step 1). -/
theorem editCoded_codes {set : Half} {v : EditValues} (hv : editCoded set v = true) :
    (named set 12 = true → (yesNoOf v.pinned).isSome = true) ∧ (named set 13 = true → (classOf v.cls).isSome = true) := by
  simp only [editCoded, Bool.and_eq_true, Bool.or_eq_true, Bool.not_eq_true'] at hv
  obtain ⟨⟨⟨⟨-, hpinned⟩, hcls⟩, -⟩, -⟩ := hv
  exact ⟨fun h => hpinned.resolve_left (by simp [h]), fun h => hcls.resolve_left (by simp [h])⟩

theorem yesNoOf_getD {b : Byte} (h : (yesNoOf b).isSome = true) (d : Bool) : (yesNoOf b).getD d = decide (b = 1) := by
  by_cases h0 : b = 0
  · subst h0; rfl
  · by_cases h1 : b = 1
    · subst h1; rfl
    · rw [yesNoOf, if_neg h0, if_neg h1] at h
      cases h

theorem classOf_getD {b : Byte} (h : (classOf b).isSome = true) (d : EffectClass) :
    (classOf b).getD d = if b = 1 then .ambient else .showClass := by
  by_cases h0 : b = 0
  · subst h0; rfl
  · by_cases h1 : b = 1
    · subst h1; rfl
    · rw [classOf, if_neg h0, if_neg h1] at h
      cases h

/-- What an edit does at acceptance (R41). -/
theorem State.touchEdit_eq {i : Nat} {r : EffectRecord} {set : Half} {v : EditValues} {s : State}
    (hr : (s.effectSlot i).record = some r) (hv : editCoded set v = true) :
    s.touchEdit i set v = s.edited i (r.touched s.effects.touchCounter set v) s.effects.groups := by
  obtain ⟨hpinned, hcls⟩ := editCoded_codes hv
  have htouched : { r with
      touch := s.effects.touchCounter
      pinned := if named set 12 then (yesNoOf v.pinned).getD r.pinned else r.pinned
      cls := if named set 13 then (classOf v.cls).getD r.cls else r.cls } = r.touched s.effects.touchCounter set v := by
    unfold EffectRecord.touched
    congr 1
    · split
      · next h => exact classOf_getD (hcls h) _
      · rfl
    · split
      · next h => exact yesNoOf_getD (hpinned h) _
      · rfl
  unfold State.touchEdit State.edited State.modifyRecord State.modifyEffectSlot
  dsimp only
  rw [modify_congr_of_entry (g := fun e => { e with record := some (r.touched s.effects.touchCounter set v) })]
  · rfl
  · intro e he
    rw [State.effectSlot_of_getElem? he] at hr
    rw [hr, Option.map_some, htouched]

section
variable (i : Nat) (q r : EffectRecord) (f : EditFields) (groups : List Group) (s : State)

theorem State.modifyGroup_edited (g : Nat) (h : Group → Group) :
    (s.edited i q groups).modifyGroup g h = s.edited i q (groups.modify g h) := rfl

/-- An edit taken at once (R37): the group it names gains a reference, the old one loses its own. -/
theorem State.editAtOnce_edited : (s.edited i q groups).editAtOnce i r f =
    s.edited i { q with params := (q.params.overlay f).normalise }
      (match f.group with
        | some g => (groups.modify g Group.refer).modify r.params.group Group.release
        | none => groups) := by
  unfold State.editAtOnce
  cases f.group with
  | none => exact State.modifyRecord_edited ..
  | some g =>
    simp only [State.addRef_eq, State.dropRef_eq, State.modifyGroup_edited]
    exact State.modifyRecord_edited ..

/-- An edit staged or merged (R38, R39): the group it names is reserved, a pending edit's reservation released. -/
theorem State.stageEdit_edited (boundary : ShowTime) : (s.edited i q groups).stageEdit i r f boundary =
    s.edited i { q with edit := some ⟨(match r.edit with
        | some e => e.fields.merge f
        | none => f), boundary⟩ }
      (match f.group, r.reserved with
        | some g, some old => (groups.modify g Group.refer).modify old Group.release
        | some g, none => groups.modify g Group.refer
        | none, _ => groups) := by
  unfold State.stageEdit EffectRecord.reserved
  cases f.group with
  | none =>
    cases r.edit with
    | none => exact State.modifyRecord_edited ..
    | some e => exact State.modifyRecord_edited ..
  | some g =>
    simp only [State.addRef_eq, State.modifyGroup_edited]
    cases r.edit with
    | none => exact State.modifyRecord_edited ..
    | some e =>
      simp only [Option.bind_some, Option.isSome_some, if_true]
      cases e.fields.group with
      | none => exact State.modifyRecord_edited ..
      | some old =>
        simp only [State.dropRef?, State.dropRef_eq, State.modifyGroup_edited]
        exact State.modifyRecord_edited ..

end

/-- A coded edit of a record that is not FADING, with a period where its shape needs one and a group of its kind, passes its
checks (R36). -/
theorem editChecks_pass {s : State} {r : EffectRecord} {set : Half} {v : EditValues} (hr : r.state ≠ .fading)
    (hp : (r.resulting (editFields r.params.kind set v)).shape.needsPeriod = false
      ∨ (r.resulting (editFields r.params.kind set v)).p ≠ 0)
    (hg : named set 11 = true → ∃ d, (s.group v.group.toNat).defined = some d ∧ d.kind = r.params.kind) :
    firstFailure (editChecks s r set v) = none := by
  rw [firstFailure_editChecks hr hp]
  cases hnamed : named set 11 with
  | false => rfl
  | true =>
    obtain ⟨d, hd, hkind⟩ := hg hnamed
    rw [groupCheck_of_defined hd, if_pos hkind]
    rfl

/-- An edit that passes its checks, on a ready link. -/
theorem exec_effectEdit_accepted {h : Half} {timing : Byte} {time : Quad} {set : Half} {v : EditValues} {c : EditTiming}
    {r : EffectRecord} {s : State} (hs : s.ready) (ht : timingOf timing = some c) (hv : editCoded set v = true)
    (hl : s.lookupEffect h = some r) (hf : firstFailure (editChecks s.transferTaken r set v) = none) :
    exec (.effectEdit h timing time set v) s = .next
      ((editAccepted (handleSlot h) r c time set v s.transferTaken).1.pushReply
        (editAccepted (handleSlot h) r c time set v s.transferTaken).2) := by
  rw [exec_of_handlerOf rfl, takeCommand_of_ready hs,
    handleEffectEdit_of_coded (s := s.transferTaken) ht hv hl, checked_of_none _ _ hf]

/-- Settles O14: the touched record, then the edit as the record's state has it taken. -/
theorem effectEditAccepted : Obligations.EffectEditAccepted := by
  unfold Obligations.EffectEditAccepted
  intro h timing time set v c r s hs ht hv hl f boundary touched up down edited new hp hg
  have hr := State.record_of_lookup hl
  have htouch := State.touchEdit_eq (s := s.transferTaken) hr hv
  have hgroup : (editFields r.params.kind set v).group = if named set 11 then some new else none := rfl
  have hexec (hstate : r.state ≠ .fading) := exec_effectEdit_accepted (time := time) hs ht hv hl
    (editChecks_pass (s := s.transferTaken) hstate hp hg)
  refine ⟨fun hstate => ?_, fun hstate hstaged => ?_, fun hstate hstaged => ?_⟩ <;> rw [hexec (by simp [hstate])] <;>
    unfold editAccepted <;> dsimp only <;> rw [htouch]
  · rw [if_pos hstate, State.editAtOnce_edited]
    rw [hgroup]
    cases named set 11 <;> rfl
  · rw [if_neg (by simp [hstate]), if_pos hstaged, State.stageEdit_edited]
    rw [hgroup]
    cases named set 11 <;> cases r.reserved <;> rfl
  · rw [if_neg (by simp [hstate]), if_neg (by simp [hstaged])]
    cases r.edit <;> rfl

end Sys2Proof.Machine
end

section
/-! PROOF. The accepted EFFECT_ADD: the record as written, the lowest free slot, and the victim (R21, R24 to R28). -/
namespace Sys2Proof.Machine

/-! ### The record as written (R24 to R26) -/

/-- A level as a message carries it, in the range of its kind and mode (R24). -/
theorem normalise_levelOf (k : Kind) (m : MixMode) (l : WireLevel) : (levelOf k l).normalise k m =
    match k with
    | .jet => ⟨min l.r.toNat 10000, 0, 0, 0⟩
    | .light =>
      if m = .scale then ⟨min l.r.toNat 10000, min l.g.toNat 10000, min l.b.toNat 10000, min l.w.toNat 10000⟩
      else ⟨l.r.toNat, l.g.toNat, l.b.toNat, l.w.toNat⟩ := by
  cases k <;> rfl

/-! ### The state with the record placed (R22, R26) -/

/-- A record placed in slot `i`, written out. -/
theorem State.placeRecord_eq (i : Nat) (r : EffectRecord) (s : State) : s.placeRecord i r = { s with effects :=
    { slots := s.effects.slots.set i ⟨nextGeneration (s.effectSlot i).gen, some r⟩
      groups := s.effects.groups.modify r.params.group Group.refer
      addCounter := s.effects.addCounter + 1
      touchCounter := min (s.effects.touchCounter + 1) 4294967295 } } := by
  have hslots := modify_eq_set s.effects.slots i (fun e => ⟨nextGeneration e.gen, some r⟩) EffectSlot.blank
  unfold State.placeRecord State.modifyEffectSlot
  dsimp only
  rw [hslots]
  rfl

/-- The handle of a record just placed (R20). -/
theorem State.effectHandle_placeRecord {i : Nat} (r : EffectRecord) {s : State} (hi : i < s.effects.slots.length) :
    (s.placeRecord i r).effectHandle i = handleOf i (nextGeneration (s.effectSlot i).gen) := by
  have hslot : (s.placeRecord i r).effectSlot i = ⟨nextGeneration (s.effectSlot i).gen, some r⟩ := by
    rw [State.placeRecord_eq]
    refine State.effectSlot_of_getElem? ?_
    exact List.getElem?_set_self hi
  rw [State.effectHandle, hslot]

/-! ### The lowest free slot (R21) -/

/-- A free slot below which none is free is the lowest one. -/
theorem State.freeEffectSlot_of_lowest {i : Nat} {s : State} (hi : i < s.effects.slots.length)
    (hfree : (s.effectSlot i).record = none) (hbelow : ∀ j < i, (s.effectSlot j).record ≠ none) :
    s.freeEffectSlot = some i := by
  refine List.findIdx?_eq_some_iff_getElem.2 ⟨hi, ?_, fun j hj => ?_⟩
  · rw [State.effectSlot_of_getElem? (List.getElem?_eq_getElem hi)] at hfree
    simp [hfree]
  · have htaken := hbelow j hj
    rw [State.effectSlot_of_getElem? (List.getElem?_eq_getElem (hj.trans hi))] at htaken
    simpa using htaken

theorem State.freeEffectSlot_of_full {s : State} (h : ∀ j < s.effects.slots.length, (s.effectSlot j).record ≠ none) :
    s.freeEffectSlot = none := by
  refine List.findIdx?_eq_none_iff.2 fun e he => ?_
  obtain ⟨j, hj, rfl⟩ := List.mem_iff_getElem.1 he
  have htaken := h j hj
  rw [State.effectSlot_of_getElem? (List.getElem?_eq_getElem hj)] at htaken
  simpa [Option.isSome_iff_ne_none] using htaken

/-! ### The victim (R27) -/

/-- An entry with keys above its own before it and none below its own behind it comes first in the order of keys. -/
theorem head?_sortByKey {α : Type} (key : α → Nat) (before : List α) {a : α} {behind : List α}
    (hbefore : ∀ b ∈ before, key a < key b) (hbehind : ∀ b ∈ behind, key a ≤ key b) :
    (sortByKey key (before ++ a :: behind)).head? = some a := by
  induction before with
  | nil =>
    show (insertByKey key a (sortByKey key behind)).head? = some a
    cases hsorted : sortByKey key behind with
    | nil => rfl
    | cons b rest =>
      have hb : b ∈ behind := (sortByKey_perm key behind).mem_iff.1 (by simp [hsorted])
      rw [insertByKey, if_pos (hbehind b hb)]
      rfl
  | cons b before ih =>
    have hrest := ih fun c hc => hbefore c (List.mem_cons_of_mem b hc)
    show (insertByKey key b (sortByKey key (before ++ a :: behind))).head? = some a
    obtain ⟨rest, hsorted⟩ := List.head?_eq_some_iff.1 hrest
    have hb := hbefore b List.mem_cons_self
    rw [hsorted, insertByKey, if_neg (by omega)]
    rfl

/-- The candidates stand in the order of their slots. -/
theorem State.pairwise_evictionCandidates (s : State) : s.evictionCandidates.Pairwise fun a b => a.2 < b.2 := by
  have hslots : s.effects.slots.zipIdx.Pairwise fun a b => a.2 < b.2 := by
    rw [← List.pairwise_map (f := Prod.snd) (R := (· < ·)), List.zipIdx_map_snd]
    exact List.pairwise_lt_range'
  refine hslots.filterMap _ fun a b hab c hc d hd => ?_
  have hsnd (e : EffectSlot × Nat) (c : Nat × Nat) (hc : (match e.1.record with
      | some r => if r.evictable then some (r.touch, e.2) else none
      | none => none) = some c) : c.2 = e.2 := by
    split at hc
    · split at hc
      · cases hc; rfl
      · cases hc
    · cases hc
  rw [hsnd a c hc, hsnd b d hd]
  exact hab

/-- The victim is the eligible record of smallest touch stamp, the lowest slot among equals (R27). -/
theorem State.victim_of_least {i : Nat} {v : EffectRecord} {s : State} (hv : (s.effectSlot i).record = some v)
    (hev : v.evictable = true)
    (hleast : ∀ j r, (s.effectSlot j).record = some r → r.evictable = true → v.touch < r.touch ∨ (v.touch = r.touch ∧ i ≤ j)) :
    s.victim = some i := by
  have hmem : (v.touch, i) ∈ s.evictionCandidates := by
    have hi := State.effectSlot_lt_of_some hv
    rw [State.effectSlot_of_getElem? (List.getElem?_eq_getElem hi)] at hv
    refine List.mem_filterMap.2 ⟨(s.effects.slots[i], i), List.mem_zipIdx_iff_getElem?.2 (List.getElem?_eq_getElem hi), ?_⟩
    simp [hv, hev]
  have hkeys (c : Nat × Nat) (hc : c ∈ s.evictionCandidates) : v.touch < c.1 ∨ (v.touch = c.1 ∧ i ≤ c.2) := by
    obtain ⟨r, hr, hrev, htouch⟩ := State.mem_evictionCandidates hc
    rw [← htouch]
    exact hleast c.2 r hr hrev
  have horder := s.pairwise_evictionCandidates
  obtain ⟨before, behind, hsplit⟩ := List.append_of_mem hmem
  rw [hsplit] at horder hkeys
  obtain ⟨-, -, hcross⟩ := List.pairwise_append.1 horder
  have hhead := head?_sortByKey Prod.fst before (a := (v.touch, i)) (behind := behind) (fun b hb => ?_) fun b hb => ?_
  · rw [State.victim, hsplit, hhead]
    rfl
  · have hlt : b.2 < i := hcross b hb _ List.mem_cons_self
    have := hkeys b (List.mem_append_left _ hb)
    omega
  · have := hkeys b (List.mem_append_right _ (List.mem_cons_of_mem _ hb))
    omega

/-! ### An EFFECT_ADD that passes its checks -/

/-- A coded EFFECT_ADD that passes its checks places its record (R23). -/
theorem handleEffectAdd_of_pass {p : EffectAddParams} {c : AddCodes} {d : GroupDef} {s : State}
    (hs : s.timer.showState ≠ .ending) (hc : addCodes p = some c) (hp : c.shape.needsPeriod = false ∨ p.p ≠ 0)
    (hd : (s.group p.group.toNat).defined = some d) (hkind : d.kind = c.kind) (hcounter : s.effects.addCounter ≠ 4294967295) :
    handleEffectAdd p s = addPlaced p c s := by
  rw [handleEffectAdd_of_coded hc, checked_of_none]
  rw [firstFailure_addChecks hs hp, groupCheck_of_defined hd, if_pos hkind]
  exact firstFailure_cons_false (decide_eq_false hcounter)

theorem addPlaced_of_free (p : EffectAddParams) (c : AddCodes) {i : Nat} {s : State} (h : s.freeEffectSlot = some i) :
    addPlaced p c s = addAt i 0 (newRecord s p c) s := by
  simp only [addPlaced, h]

/-- The taking of a transfer and the freeing of a record do not touch one another. -/
theorem State.freeRecord_transferTaken (i : Nat) (s : State) :
    s.transferTaken.freeRecord i = (s.freeRecord i).transferTaken := by
  have hslot : s.transferTaken.effectSlot i = s.effectSlot i := rfl
  unfold State.freeRecord
  rw [hslot]
  cases (s.effectSlot i).record with
  | none => rfl
  | some r =>
    dsimp only
    cases r.edit.bind (·.fields.group) <;> rfl

/-- A record in place of the one evicted from slot `i`. -/
def State.evictedFor (i : Nat) (r : EffectRecord) (s : State) : State :=
  ((s.freeRecord i).raise .effectEvicted).placeRecord i r

theorem State.evictedFor_transferTaken (i : Nat) (r : EffectRecord) (s : State) :
    s.transferTaken.evictedFor i r = (s.evictedFor i r).transferTaken := by
  unfold State.evictedFor
  rw [State.freeRecord_transferTaken]
  rfl

/-- What stands after an eviction: the new record in the victim's slot, at the next generation. -/
theorem State.slots_evictedFor (i : Nat) (r : EffectRecord) (s : State) : (s.evictedFor i r).effects.slots =
    s.effects.slots.set i ⟨nextGeneration (s.effectSlot i).gen, some r⟩ := by
  have hchange := s.freeRecord_change i
  have hgen : ((s.freeRecord i).effectSlot i).gen = (s.effectSlot i).gen := by
    rw [hchange.effectSlot_self]
    rfl
  have hfreed : ((s.freeRecord i).raise .effectEvicted).effectSlot i = (s.freeRecord i).effectSlot i := rfl
  unfold State.evictedFor
  rw [State.placeRecord_eq, hfreed, hgen]
  show (s.freeRecord i).effects.slots.set i _ = _
  rw [hchange.slots, modify_eq_set _ i _ EffectSlot.blank, List.set_set]

theorem State.effectHandle_evictedFor {i : Nat} (r : EffectRecord) {s : State} (hi : i < s.effects.slots.length) :
    (s.evictedFor i r).effectHandle i = handleOf i (nextGeneration (s.effectSlot i).gen) := by
  have hslot : (s.evictedFor i r).effectSlot i = ⟨nextGeneration (s.effectSlot i).gen, some r⟩ := by
    refine State.effectSlot_of_getElem? ?_
    rw [State.slots_evictedFor]
    exact List.getElem?_set_self hi
  rw [State.effectHandle, hslot]

theorem addPlaced_of_victim (p : EffectAddParams) (c : AddCodes) {i : Nat} {s : State} (hfree : s.freeEffectSlot = none)
    (h : s.victim = some i) : addPlaced p c s =
      (s.evictedFor i (newRecord s p c),
        addReply (s.evictedFor i (newRecord s p c)) i (newRecord s p c).params.start (s.effectHandle i)) := by
  simp only [addPlaced, hfree, h]
  rfl

/-- What an eviction leaves beside the slots: the event, the definitions of the groups and the counters. -/
theorem State.evictedFor_rest (i : Nat) (r : EffectRecord) (s : State) : s.sameOutsideEffects (s.evictedFor i r)
    ∧ (s.evictedFor i r).pending = s.pending ∧ (s.evictedFor i r).link = (s.raise .effectEvicted).link
    ∧ (s.evictedFor i r).effects.groups.map (·.defined) = s.effects.groups.map (·.defined)
    ∧ (s.evictedFor i r).effects.addCounter = s.effects.addCounter + 1
    ∧ (s.evictedFor i r).effects.touchCounter = min (s.effects.touchCounter + 1) 4294967295 := by
  have hchange := s.freeRecord_change i
  obtain ⟨hadd, htouch⟩ := hchange.counters
  have hdefined := hchange.defined
  obtain ⟨effects, heq⟩ := hchange.outside
  unfold State.evictedFor
  rw [heq] at hadd htouch hdefined ⊢
  rw [State.placeRecord_eq]
  refine ⟨⟨rfl, rfl, rfl, rfl, rfl, rfl, rfl, rfl, rfl, rfl, rfl⟩, rfl, rfl, ?_, congrArg (· + 1) hadd,
    congrArg (fun n => min (n + 1) 4294967295) htouch⟩
  exact (map_modify_of_same (f := Group.refer) _ _ fun _ => rfl).trans hdefined

/-- Settles O13: the record placed in the lowest free slot, or over the victim. -/
theorem effectAddPlaces : Obligations.EffectAddPlaces := by
  unfold Obligations.EffectAddPlaces
  intro p c d i s hs hz hi hending hc hperiod hd hkind hcounter level period params r gen
  obtain ⟨hlen, -⟩ := id hz
  have hi : i < s.effects.slots.length := by omega
  have hrecord : newRecord s p c = r := by
    unfold newRecord EffectParams.normalise
    simp only [normalise_levelOf]
    rfl
  have hexec : exec (.effectAdd p) s = .next ((addPlaced p c s.transferTaken).1.pushReply (addPlaced p c s.transferTaken).2) := by
    rw [exec_of_handlerOf rfl, takeCommand_of_ready hs,
      handleEffectAdd_of_pass (s := s.transferTaken) hending hc hperiod hd hkind hcounter]
  refine ⟨fun hfree hbelow => ?_, fun v hv hev hleast => ?_⟩
  · have hplaced := addPlaced_of_free p c (s := s.transferTaken) (State.freeEffectSlot_of_lowest hi hfree hbelow)
    have hnew : newRecord s.transferTaken p c = r := hrecord
    rw [hexec, hplaced, hnew, addAt, addReply]
    dsimp only
    rw [State.effectHandle_placeRecord r (s := s.transferTaken) hi, State.placeRecord_eq]
    rfl
  · have hfull : ∀ j < s.effects.slots.length, (s.effectSlot j).record ≠ none := fun j hj => by
      obtain ⟨q, hq, -⟩ := hleast j (by omega)
      simp [hq]
    have hvictim : s.victim = some i := State.victim_of_least hv hev fun j q hq hqev => by
      have hj := State.effectSlot_lt_of_some hq
      obtain ⟨q', hq', hless⟩ := hleast j (by omega)
      obtain rfl : q = q' := by simpa [hq] using hq'
      exact hless hqev
    have hfree := State.freeEffectSlot_of_full hfull
    have hnew : newRecord s.transferTaken p c = r := hrecord
    obtain ⟨hsame, hpending, hlink, hdefined, hadd, htouch⟩ := s.evictedFor_rest i r
    refine ⟨s.evictedFor i r, ?_, hsame, hpending, hlink, s.slots_evictedFor i r, hdefined, fun hok => ?_, hadd, htouch⟩
    · rw [hexec, addPlaced_of_victim p c (s := s.transferTaken) hfree hvictim, hnew, State.evictedFor_transferTaken, addReply]
      have hhandle : (s.evictedFor i r).transferTaken.effectHandle i = handleOf i gen := State.effectHandle_evictedFor r hi
      rw [hhandle]
      rfl
    · have hkeeps := keeps_handleEffectAdd p s
      rw [handleEffectAdd_of_pass hending hc hperiod hd hkind hcounter, addPlaced_of_victim p c hfree hvictim, hrecord] at hkeeps
      obtain ⟨-, hrefs⟩ := State.groupsOk_iff.1 hok
      obtain ⟨-, -, hagree, -⟩ := hkeeps.refs hrefs
      exact hagree

end Sys2Proof.Machine
end

section
/-! PROOF. Evaluation (chapter 3): the integer square root, the modes of composition, and the range of what a composition
gives (R55, R59, R64 to R69, Table 0-4). -/
namespace Sys2Proof.Machine

/-! ### The integer square root (Table 0-4) -/

/-- Each pass keeps the root between the bits found and the bits still open. -/
theorem isqrtFrom_bounds {n : Nat} (k r : Nat) (hr : r * r ≤ n) (hn : n < (r + 2 ^ k) * (r + 2 ^ k)) :
    isqrtFrom n k r * isqrtFrom n k r ≤ n ∧ n < (isqrtFrom n k r + 1) * (isqrtFrom n k r + 1) := by
  induction k generalizing r with
  | zero => exact ⟨hr, hn⟩
  | succ k ih =>
    unfold isqrtFrom
    split
    · next hbit =>
      refine ih _ hbit ?_
      rwa [Nat.add_assoc, ← Nat.two_mul, ← Nat.pow_succ']
    · next hbit => exact ih r hr (by omega)

theorem lt_isqrt_start (n : Nat) : n < 2 ^ (n.log2 / 2 + 1) * 2 ^ (n.log2 / 2 + 1) :=
  calc n < 2 ^ (n.log2 + 1) := Nat.lt_log2_self
    _ ≤ 2 ^ (n.log2 / 2 + 1 + (n.log2 / 2 + 1)) := Nat.pow_le_pow_right (by omega) (by omega)
    _ = _ := Nat.pow_add ..

theorem isqrt_bounds (n : Nat) : isqrt n * isqrt n ≤ n ∧ n < (isqrt n + 1) * (isqrt n + 1) :=
  isqrtFrom_bounds _ 0 (Nat.zero_le n) (by simpa only [Nat.zero_add] using lt_isqrt_start n)

/-! ### The fade-in value and the PULSE blend (R55, R59) -/

theorem fadeInValue_of_lt {tau fadeIn : Nat} (h : tau < fadeIn) : fadeInValue tau fadeIn = tau * 65536 / fadeIn :=
  if_pos h

theorem fadeInValue_of_le {tau fadeIn : Nat} (h : fadeIn ≤ tau) : fadeInValue tau fadeIn = 65536 :=
  if_neg (Nat.not_lt.2 h)

theorem blend_of_pulse {f : EffectParams} (h : f.shape = .pulse) (env tau m : Nat) :
    blend f env tau m = if tau % f.p < f.w then 65536 else 0 := by
  simp only [blend, h]

theorem EffectParams.w_normalise_of_pulse {f : EffectParams} (h : f.shape = .pulse) :
    f.normalise.w = min f.w f.normalise.p := by
  simp only [EffectParams.normalise, h]

/-- Settles O20: the fade-in value, the PULSE blend and the integer square root, one rule each. -/
theorem fadeInPulseAndRoot : Obligations.FadeInPulseAndRoot := by
  unfold Obligations.FadeInPulseAndRoot
  refine ⟨fun tau fadeIn => ?_, fun f env tau m hpulse hp => ?_, isqrt_bounds⟩
  · refine ⟨fadeInValue_of_lt, fadeInValue_of_le, fun h => fadeInValue_of_le (by omega), fun h => ?_,
      fun hlt hle => by omega⟩
    rw [fadeInValue_of_lt h, Nat.zero_mul, Nat.zero_div]
  · simp only [blend_of_pulse hpulse]
    have hmod : tau % f.p < f.p := Nat.mod_lt _ hp
    refine ⟨fun h => if_pos h, fun h => if_neg (by omega), ?_, fun h => if_neg (by omega), fun h => if_pos (by omega),
      fun h n => if_pos (by rwa [Nat.mul_mod_left])⟩
    rw [EffectParams.w_normalise_of_pulse hpulse]
    exact Nat.min_le_right ..

/-! ### A weighted sum of two figures (R64, R66, R68) -/

/-- Two figures at most `top`, weighted to 65,536 in all. -/
theorem weighted_le {top v x e : Nat} (he : e ≤ 65536) (hv : v ≤ top) (hx : x ≤ top) :
    v * (65536 - e) + x * e ≤ top * 65536 :=
  calc v * (65536 - e) + x * e ≤ top * (65536 - e) + top * e :=
        Nat.add_le_add (Nat.mul_le_mul_right _ hv) (Nat.mul_le_mul_right _ hx)
    _ = top * 65536 := by rw [← Nat.mul_add, Nat.sub_add_cancel he]

theorem mixLevel_le {top a l0 l1 : Nat} (ha : a ≤ 65536) (h0 : l0 ≤ top) (h1 : l1 ≤ top) : mixLevel a l0 l1 ≤ top :=
  Nat.div_le_of_le_mul ((weighted_le ha h0 h1).trans_eq (Nat.mul_comm ..))

theorem scaleFactor_le {level e : Nat} (he : e ≤ 65536) (hlevel : level ≤ 10000) : scaleFactor level e ≤ 10000 :=
  mixLevel_le he le_rfl hlevel

/-! ### The modes (R66 to R68): at an envelope of 0 each rule's figure is the value itself -/

theorem applyMode_replace (vmax v x e : Nat) : applyMode .replace vmax v x e = (v * (65536 - e) + x * e) / 65536 := by
  by_cases h : e = 0
  · subst h; simp [applyMode]
  · simp [applyMode, h]

theorem applyMode_max (vmax v x e : Nat) : applyMode .max vmax v x e = max v (x * e / 65536) := by
  by_cases h : e = 0
  · subst h; simp [applyMode]
  · simp [applyMode, h]

theorem applyMode_add {vmax v : Nat} (hv : v ≤ vmax) (x e : Nat) :
    applyMode .add vmax v x e = min vmax (v + x * e / 65536) := by
  by_cases h : e = 0
  · subst h; simp [applyMode, hv]
  · simp [applyMode, h]

theorem applyMode_scale (vmax v x e : Nat) : applyMode .scale vmax v x e = v * scaleFactor x e / 10000 := by
  by_cases h : e = 0
  · subst h; simp [applyMode, scaleFactor]
  · simp [applyMode, h]

/-- No mode takes a value out of its range, when a SCALE level is at most 10,000 (R69). -/
theorem applyMode_le {m : MixMode} {vmax v x e : Nat} (hv : v ≤ vmax) (hx : x ≤ vmax) (he : e ≤ 65536)
    (hscale : m = .scale → x ≤ 10000) : applyMode m vmax v x e ≤ vmax := by
  cases m with
  | replace => rw [applyMode_replace]; exact mixLevel_le he hv hx
  | max =>
    rw [applyMode_max]
    have hweighted : x * e / 65536 ≤ x := Nat.div_le_of_le_mul ((Nat.mul_le_mul_left x he).trans_eq (Nat.mul_comm ..))
    exact Nat.max_le.2 ⟨hv, hweighted.trans hx⟩
  | add => rw [applyMode_add hv]; exact Nat.min_le_left ..
  | scale =>
    rw [applyMode_scale]
    have hfactor : v * scaleFactor x e ≤ 10000 * v :=
      (Nat.mul_le_mul_left v (scaleFactor_le he (hscale rfl))).trans_eq (Nat.mul_comm ..)
    exact (Nat.div_le_of_le_mul hfactor).trans hv

/-! ### The contributions to a target (R53, R65) -/

/-- What a record gives, and that it is of the kind asked for. -/
theorem State.contribution_eq_some {s : State} {k : Kind} {n : Nat} {x : ShowTime} {r : EffectRecord} {c : Contribution} :
    s.contribution k n x r = some c ↔ (r.inForce x).kind = k ∧ ∃ m, s.memberPosition (r.inForce x).group n = some m
      ∧ c = ⟨(r.inForce x).layer, r.addSeq, (r.inForce x).mode, envelopeAt s.timer.showState r x,
        Level.mix (blend (r.inForce x) s.decks.envelope (elapsed r.state (r.inForce x).start x) m)
          (r.inForce x).l0 (r.inForce x).l1⟩ := by
  unfold State.contribution envelopeAt
  by_cases hk : (r.inForce x).kind = k
  · cases hm : s.memberPosition (r.inForce x).group n with
    | none => simp [hk, hm]
    | some m => simp [hk, hm, eq_comm]
  · simp [hk]

theorem State.contributions_perm (s : State) (k : Kind) (n : Nat) (x : ShowTime) :
    (s.contributions k n x).Perm (s.records.filterMap (s.contribution k n x)) :=
  sortByKey_perm _ _

theorem State.mem_contributions {s : State} {k : Kind} {n : Nat} {x : ShowTime} {c : Contribution} :
    c ∈ s.contributions k n x ↔ ∃ r ∈ s.records, s.contribution k n x r = some c :=
  (s.contributions_perm k n x).mem_iff.trans List.mem_filterMap

/-- The composition order: the key is the layer and the add sequence, each read off when the sequences are below 2^32. -/
theorem State.contributions_ordered {s : State} (hseq : ∀ r ∈ s.records, r.addSeq < 4294967296) (k : Kind) (n : Nat)
    (x : ShowTime) : (s.contributions k n x).Pairwise
      fun a b => a.layer < b.layer ∨ (a.layer = b.layer ∧ a.addSeq ≤ b.addSeq) := by
  have hbelow (c) (hc : c ∈ s.contributions k n x) : c.addSeq < 4294967296 := by
    obtain ⟨r, hr, hgives⟩ := State.mem_contributions.1 hc
    obtain ⟨-, m, -, rfl⟩ := State.contribution_eq_some.1 hgives
    exact hseq r hr
  refine List.Pairwise.imp_of_mem (fun {a b} ha hb hkey => ?_) (sortByKey_sorted _ _)
  have := hbelow a ha
  have := hbelow b hb
  omega

/-- Settles O19: each mode's figure, and the order of composition. -/
theorem layerArithmetic : Obligations.LayerArithmetic := by
  unfold Obligations.LayerArithmetic
  refine ⟨fun vmax v x e hv he => ?_, fun s n x => ⟨fun hseq k => ?_, rfl, rfl⟩⟩
  · refine ⟨applyMode_replace .., applyMode_max .., applyMode_add hv .., applyMode_scale .., fun hvmax hx => ?_⟩
    have := weighted_le he (hv.trans hvmax) hx
    omega
  · exact ⟨s.contributions_perm k n x, s.contributions_ordered hseq k n x⟩

/-! ### The blend's range (R58 to R63) -/

theorem cosineQuarter_getD_le (j : Nat) : cosineQuarter.getD j 0 ≤ 65536 := by
  have hall : ∀ c ∈ cosineQuarter, c ≤ 65536 := by
    simp only [cosineQuarter, List.forall_mem_append]
    and_intros <;> decide
  rw [List.getD_eq_getElem?_getD]
  cases hj : cosineQuarter[j]? with
  | none => exact Nat.zero_le _
  | some c => exact hall c (List.mem_of_getElem? hj)

theorem neg_le_cosine (i : Nat) : -65536 ≤ cosine i := by
  unfold cosine
  dsimp only
  generalize (if i ≤ 512 then i else 1024 - i) = j
  have := cosineQuarter_getD_le (512 - j)
  split <;> omega

theorem blend_le (f : EffectParams) {env : Nat} (henv : env ≤ 8388607) (tau m : Nat) : blend f env tau m ≤ 65536 := by
  cases hshape : f.shape <;> simp only [blend, hshape]
  case steady => exact le_rfl
  case ramp => exact Nat.min_le_left ..
  case pulse => split <;> omega
  case wave => have := neg_le_cosine (waveIndex tau f.p m f.step); omega
  case sparkle => split <;> omega
  case audio => omega

/-! ### The levels' range (R24, R64) -/

/-- Each channel of a level is at most `top`. -/
def Level.within (top : Nat) (l : Level) : Prop := l.r ≤ top ∧ l.g ≤ top ∧ l.b ≤ top ∧ l.w ≤ top

theorem Level.half_iff_within {l : Level} : l.half ↔ l.within 65535 := .rfl

/-- The greatest level of a record of a kind and mode, once normalised (R24). -/
def levelTop (k : Kind) (m : MixMode) : Nat :=
  match k with
  | .jet => 10000
  | .light => if m = .scale then 10000 else 65535

theorem levelTop_scale (k : Kind) : levelTop k .scale = 10000 := by cases k <;> rfl

theorem levelTop_light_of_ne {m : MixMode} (h : m ≠ .scale) : levelTop .light m = 65535 := if_neg h

theorem levelTop_light_le (m : MixMode) : levelTop .light m ≤ 65535 := by
  by_cases h : m = .scale
  · rw [h, levelTop_scale]; omega
  · exact (levelTop_light_of_ne h).le

/-- Normalisation brings a level of 16-bit figures into the range of its kind and mode. -/
theorem Level.within_normalise {l : Level} {k : Kind} {m : MixMode} (h : (l.normalise k m).half) :
    (l.normalise k m).within (levelTop k m) := by
  cases k with
  | jet => exact ⟨Nat.min_le_right .., Nat.zero_le _, Nat.zero_le _, Nat.zero_le _⟩
  | light =>
    by_cases hm : m = .scale
    · subst hm
      exact ⟨Nat.min_le_right .., Nat.min_le_right .., Nat.min_le_right .., Nat.min_le_right ..⟩
    · rw [levelTop_light_of_ne hm]
      exact Level.half_iff_within.1 h

theorem Level.within_mix {top a : Nat} {l0 l1 : Level} (ha : a ≤ 65536) (h0 : l0.within top) (h1 : l1.within top) :
    (Level.mix a l0 l1).within top := by
  obtain ⟨hr0, hg0, hb0, hw0⟩ := h0
  obtain ⟨hr1, hg1, hb1, hw1⟩ := h1
  exact ⟨mixLevel_le ha hr0 hr1, mixLevel_le ha hg0 hg1, mixLevel_le ha hb0 hb1, mixLevel_le ha hw0 hw1⟩

/-- The parameters in force are normalised, with or without the pending edit, so their levels are in range (R24, R52). -/
theorem EffectRecord.within_inForce {r : EffectRecord} (h : r.levelsOk) (x : ShowTime) :
    let f := r.inForce x
    f.l0.within (levelTop f.kind f.mode) ∧ f.l1.within (levelTop f.kind f.mode) := by
  obtain ⟨h0, h1, hedit, -⟩ := h
  unfold EffectRecord.inForce
  cases hat : r.editAt x with
  | none =>
    exact ⟨Level.within_normalise (Level.half_normalise _ _ h0),
      Level.within_normalise (Level.half_normalise _ _ h1)⟩
  | some e =>
    obtain ⟨he, -⟩ := EffectRecord.editAt_eq_some.1 hat
    obtain ⟨he0, he1⟩ := hedit e he
    obtain ⟨hl0, hl1⟩ := EffectParams.half_overlay h0 h1 he0 he1
    exact ⟨Level.within_normalise hl0, Level.within_normalise hl1⟩

/-! ### The range of a composition (R69) -/

/-- A contribution whose level is in the range of its kind and mode and whose envelope is at most 65,536. -/
def Contribution.inRange (k : Kind) (c : Contribution) : Prop :=
  c.level.within (levelTop k c.mode) ∧ c.envelope ≤ 65536

theorem State.contributions_inRange {s : State} (h : s.levelsOk) {k : Kind} {n : Nat} {x : ShowTime} {c : Contribution}
    (hc : c ∈ s.contributions k n x) : c.inRange k := by
  obtain ⟨hrecords, henvelope⟩ := h
  obtain ⟨r, hr, hgives⟩ := State.mem_contributions.1 hc
  obtain ⟨rfl, m, -, rfl⟩ := State.contribution_eq_some.1 hgives
  obtain ⟨h0, h1⟩ := EffectRecord.within_inForce (hrecords r hr) x
  obtain ⟨-, -, -, himposed⟩ := hrecords r hr
  exact ⟨Level.within_mix (blend_le _ henvelope ..) h0 h1, envelopeAt_le _ x himposed⟩

/-- Composition starts from 0 and no contribution in range takes a channel above its maximum. -/
theorem composeChannel_le {k : Kind} {vmax : Nat} {ch : Level → Nat} {cs : List Contribution}
    (hch : ∀ top (l : Level), l.within top → ch l ≤ top) (htop : ∀ m, levelTop k m ≤ vmax)
    (hcs : ∀ c ∈ cs, c.inRange k) : composeChannel vmax ch cs ≤ vmax := by
  refine List.foldlRecOn (motive := (· ≤ vmax)) cs _ (Nat.zero_le _) fun v hv c hc => ?_
  obtain ⟨hlevel, henvelope⟩ := hcs c hc
  have hle := hch _ _ hlevel
  exact applyMode_le hv (hle.trans (htop c.mode)) henvelope fun hm => by rwa [hm, levelTop_scale] at hle

/-- Settles O21: every contribution is in range, and so is what composition makes of them, channel by channel. -/
theorem evaluationStaysInRange : Obligations.EvaluationStaysInRange := by
  unfold Obligations.EvaluationStaysInRange
  intro s n x h
  have hjet (c) (hc : c ∈ s.contributions .jet n x) : c.inRange .jet := State.contributions_inRange h hc
  have hlight (c) (hc : c ∈ s.contributions .light n x) : c.inRange .light := State.contributions_inRange h hc
  refine ⟨?nozzle, ?r, ?g, ?b, ?w⟩
  case nozzle => exact composeChannel_le (fun _ _ ⟨hr, _, _, _⟩ => hr) (fun _ => Nat.le_refl _) hjet
  case r => exact composeChannel_le (fun _ _ ⟨hr, _, _, _⟩ => hr) levelTop_light_le hlight
  case g => exact composeChannel_le (fun _ _ ⟨_, hg, _, _⟩ => hg) levelTop_light_le hlight
  case b => exact composeChannel_le (fun _ _ ⟨_, _, hb, _⟩ => hb) levelTop_light_le hlight
  case w => exact composeChannel_le (fun _ _ ⟨_, _, _, hw⟩ => hw) levelTop_light_le hlight

end Sys2Proof.Machine
end

section
/-! PROOF. What a jet frame leaves, block by block and nozzle by nozzle (R78 to R93). -/
namespace Sys2Proof.Machine

/-! ### The slots of the lines (R90, R164) -/

/-- A write of slots touches the lines alone, and none when there are no slots. -/
theorem State.writeSlots_eq (n : Nat) (values : SlotValues) (s : State) : s.writeSlots n values =
    { s with lines := if values = [] then s.lines else s.lines.modify n (Line.write values) } := by
  unfold State.writeSlots
  split <;> rfl

theorem State.line_writeSlots (i j : Nat) (values : SlotValues) (s : State) : (s.writeSlots i values).line j =
    if i = j ∧ j < s.lines.length ∧ values ≠ [] then (s.line j).write values else s.line j := by
  unfold State.writeSlots
  split
  · next h => simp [h]
  · next h => simp [State.line_modifyLine, h]

theorem State.length_lines_writeSlots (n : Nat) (values : SlotValues) (s : State) :
    (s.writeSlots n values).lines.length = s.lines.length := by
  rw [State.writeSlots_eq]
  dsimp only
  split <;> simp

/-- Writes of slots into several lines touch the lines alone. -/
theorem State.forEach_writeSlots_outside (ls : List Nat) (values : Nat → SlotValues) (s : State) :
    ∃ lines, forEach ls (fun l s => s.writeSlots l (values l)) s = { s with lines := lines } := by
  induction ls generalizing s with
  | nil => exact ⟨s.lines, rfl⟩
  | cons l ls ih =>
    obtain ⟨lines, h⟩ := ih (s.writeSlots l (values l))
    exact ⟨lines, by rw [forEach_cons, h, State.writeSlots_eq]⟩

/-- Writes of slots into several lines reach each of them once. -/
theorem State.line_forEach_writeSlots {ls : List Nat} (hls : ls.Nodup) (values : Nat → SlotValues) {l : Nat} {s : State}
    (hl : l < s.lines.length) : (forEach ls (fun l s => s.writeSlots l (values l)) s).line l =
      if l ∈ ls ∧ values l ≠ [] then (s.line l).write (values l) else s.line l := by
  induction ls generalizing s with
  | nil => simp
  | cons k ls ih =>
    obtain ⟨hk, hls⟩ := List.nodup_cons.1 hls
    rw [forEach_cons, ih hls (by rwa [State.length_lines_writeSlots]), State.line_writeSlots]
    by_cases hkl : k = l
    · subst hkl
      simp [hk, hl]
    · simp [hkl, Ne.symm hkl]

/-! ### The state after a frame -/

/-- Whether a frame leaves some manifold short (R85). -/
def State.short (s : State) : Bool := s.newFrames.any fun f => decide (f.factor < 65536)

/-- What a frame writes outside the lines, and that it writes no more. -/
theorem State.jetFrame_eq (s : State) : s.jetFrame = { s with
    nozzles := { s.nozzles with table := s.newTable, frames := s.newFrames }
    pumps := { s.pumps with manifolds := report s.newFrames s.pumps.manifolds }
    effects := { s.effects with slots := s.summarise s.newTable s.effects.slots }
    lines := s.jetFrame.lines
    link := (s.raiseIf s.short .supplyLimited).link } := by
  unfold State.jetFrame
  dsimp only
  obtain ⟨lines, h⟩ := State.forEach_writeSlots_outside (List.range 4) (fun l => valveSlots l s.newTable) { s with
    nozzles := { s.nozzles with table := s.newTable, frames := s.newFrames }
    pumps := { s.pumps with manifolds := report s.newFrames s.pumps.manifolds }
    effects := { s.effects with slots := s.summarise s.newTable s.effects.slots } }
  rw [h]
  unfold State.short
  cases s.newFrames.any fun f => decide (f.factor < 65536) <;> rfl

@[simp] theorem State.jetFrame_nozzles (s : State) :
    s.jetFrame.nozzles = { s.nozzles with table := s.newTable, frames := s.newFrames } := by rw [State.jetFrame_eq]

theorem State.line_jetFrame {s : State} (hlines : s.lines.length = 4) {l : Nat} (hl : l < 4) : s.jetFrame.line l =
    if valveSlots l s.newTable = [] then s.line l else (s.line l).write (valveSlots l s.newTable) := by
  unfold State.jetFrame
  dsimp only
  have hraise (b : Bool) (u : State) : (u.raiseIf b .supplyLimited).line l = u.line l := by cases b <;> rfl
  rw [hraise, State.line_forEach_writeSlots List.nodup_range (fun l => valveSlots l s.newTable) (hlines.symm ▸ hl)]
  by_cases h : valveSlots l s.newTable = [] <;> simp [h, hl] <;> rfl

/-! ### The nozzle table after a frame -/

theorem getElem?_onPresent (f : Nat → Nozzle → Nozzle) (table : List Nozzle) (n : Nat) :
    (onPresent f table)[n]? = table[n]?.map fun z => if z.cfg.present then f n z else z := by
  simp only [onPresent, List.getElem?_map, List.getElem?_zipIdx, Nat.zero_add]
  cases table[n]? <;> rfl

/-- What a frame of state `s` makes of nozzle `n` (R78 to R89). -/
def State.framed (s : State) (n : Nat) (z : Nozzle) : Nozzle :=
  if z.cfg.present then scaleStage (s.jetFrame.frame z.cfg.manifold).factor (s.composeStage n z) else z

theorem State.framed_of_present {s : State} {n : Nat} {z : Nozzle} (h : z.cfg.present = true) : s.framed n z =
    scaleStage (s.jetFrame.frame z.cfg.manifold).factor (s.composeStage n z) := if_pos h

theorem State.framed_of_absent {s : State} {n : Nat} {z : Nozzle} (h : z.cfg.present = false) : s.framed n z = z :=
  if_neg (by simp [h])

/-- A frame leaves every configuration. -/
@[simp] theorem State.framed_cfg (s : State) (n : Nat) (z : Nozzle) : (s.framed n z).cfg = z.cfg := by
  unfold State.framed
  split <;> rfl

theorem State.getElem?_newTable (s : State) (n : Nat) : s.newTable[n]? = s.nozzles.table[n]?.map (s.framed n) := by
  unfold State.newTable
  dsimp only
  rw [getElem?_onPresent, State.composedTable, getElem?_onPresent, Option.map_map]
  refine congrArg (Option.map · _) (funext fun z => ?_)
  cases h : z.cfg.present <;> simp [State.framed, State.frame, State.composeStage, h]

theorem State.nozzle_jetFrame (s : State) (n : Nat) : s.jetFrame.nozzle n = s.framed n (s.nozzle n) := by
  simp only [State.nozzle, State.jetFrame_nozzles, List.getD_eq_getElem?_getD, State.getElem?_newTable]
  cases s.nozzles.table[n]? with
  | none => exact (State.framed_of_absent rfl).symm
  | some z => rfl

/-- Every entry of the new table is what the frame makes of an entry of the old one. -/
theorem State.mem_newTable {s : State} {z : Nozzle} (h : z ∈ s.newTable) : ∃ n a, z = s.framed n a := by
  obtain ⟨n, hn⟩ := List.mem_iff_getElem?.1 h
  rw [State.getElem?_newTable] at hn
  obtain ⟨a, -, rfl⟩ := Option.map_eq_some_iff.1 hn
  exact ⟨n, a, rfl⟩

/-! ### Sums over a manifold (R83, R84, R91) -/

/-- A stage that keeps the configurations and a figure keeps the figure's sums. -/
theorem sumOver_onPresent (m : Nat) {g : Nozzle → Nat} {f : Nat → Nozzle → Nozzle} (hcfg : ∀ n z, (f n z).cfg = z.cfg)
    (hg : ∀ n z, g (f n z) = g z) (table : List Nozzle) : sumOver m g (onPresent f table) = sumOver m g table := by
  have hmap : onPresent f table = table.mapIdx fun n z => if z.cfg.present then f n z else z := by
    simp [onPresent, List.mapIdx_eq_zipIdx_map]
  rw [hmap]
  clear hmap
  unfold sumOver
  induction table generalizing f with
  | nil => rfl
  | cons z table ih =>
    have htail := ih (f := fun n => f (n + 1)) (fun n => hcfg (n + 1)) fun n => hg (n + 1)
    rw [List.mapIdx_cons]
    cases hz : z.cfg.present <;> by_cases hm : z.cfg.manifold = m <;> simp_all

/-- The floors of shares sum to no more than the share of the sum. -/
theorem sumOver_share_le {m k d : Nat} {g h : Nozzle → Nat} {table : List Nozzle}
    (hg : ∀ z ∈ table, z.cfg.present = true → z.cfg.manifold = m → g z = h z * k / d) :
    sumOver m g table ≤ sumOver m h table * k / d := by
  unfold sumOver
  induction table with
  | nil => simp
  | cons z table ih =>
    obtain ⟨hz, htable⟩ := List.forall_mem_cons.1 hg
    have htail := ih htable
    by_cases hin : z.cfg.present = true ∧ z.cfg.manifold = m
    · simp only [hin, decide_true, Bool.and_self, List.filter_cons_of_pos, List.map_cons, List.sum_cons,
        hz hin.1 hin.2, Nat.add_mul]
      exact (Nat.add_le_add_left htail _).trans (Nat.div_add_div_le_add_div ..)
    · have hout : (z.cfg.present && decide (z.cfg.manifold = m)) = false := by simpa using hin
      simpa only [List.filter_cons, hout, Bool.false_eq_true, if_false] using htail

/-- A manifold's factor is at most 1 (R83). -/
theorem scalingFactor_le (supply demand : Nat) : scalingFactor supply demand ≤ 65536 := by
  unfold scalingFactor
  split
  · next h => exact Nat.div_le_of_le_mul (Nat.mul_le_mul_right 65536 (Nat.le_of_lt h))
  · exact Nat.le_refl _

/-- The factor's share of the demand is no more than the supply (R84). -/
theorem demand_scaled_le (supply demand : Nat) : demand * scalingFactor supply demand / 65536 ≤ supply := by
  unfold scalingFactor
  split
  · exact Nat.div_le_of_le_mul (by rw [Nat.mul_comm 65536]; exact Nat.mul_div_le _ _)
  · omega

/-- Scaling moves no flow, so the demand is that of the table a frame leaves (R83). -/
theorem State.sumOver_flow_newTable (s : State) (m : Nat) :
    sumOver m (·.live.flow) s.newTable = sumOver m (·.live.flow) s.composedTable :=
  sumOver_onPresent m (f := fun _ z => scaleStage (s.newFrames.getD z.cfg.manifold FrameRecord.blank).factor z)
    (fun _ _ => rfl) (fun _ _ => rfl) s.composedTable

theorem zipIdx_onPresent (f : Nat → Nozzle → Nozzle) (table : List Nozzle) : (onPresent f table).zipIdx =
    table.zipIdx.map fun zi => (if zi.1.cfg.present then f zi.2 zi.1 else zi.1, zi.2) := by
  refine List.ext_getElem? fun n => ?_
  simp only [List.getElem?_zipIdx, getElem?_onPresent, List.getElem?_map]
  cases table[n]? <;> simp

/-- A forecast reads the configurations alone (R91), so a stage that keeps them keeps it. -/
theorem State.forecastOf_onPresent (s : State) (m : Nat) {f : Nat → Nozzle → Nozzle} (hcfg : ∀ n z, (f n z).cfg = z.cfg)
    (table : List Nozzle) : s.forecastOf m (onPresent f table) = s.forecastOf m table := by
  have hstage (n : Nat) (z : Nozzle) : (if z.cfg.present then f n z else z).cfg = z.cfg := by
    split
    · exact hcfg n z
    · rfl
  unfold State.forecastOf State.forecastFlow
  rw [zipIdx_onPresent, List.filter_map, List.map_map]
  simp only [Function.comp_def, hstage]

/-- The frame record of a manifold, from the table that the frame leaves and the forecast of the one it found
(R83, R91). -/
theorem State.frame_jetFrame {s : State} {m : Nat} (hm : m < 8) : s.jetFrame.frame m =
    ⟨sumOver m (·.live.flow) s.newTable, (s.manifold m).supply,
      scalingFactor (s.manifold m).supply (sumOver m (·.live.flow) s.newTable), s.forecastOf m s.nozzles.table⟩ := by
  have hframe : s.jetFrame.frame m = s.frameOf s.composedTable m := by
    simp [State.frame, State.newFrames, List.getD_eq_getElem?_getD, hm]
  rw [hframe, State.sumOver_flow_newTable, ← s.forecastOf_onPresent m (f := s.composeStage) fun _ _ => rfl]
  rfl

/-- Every factor of a frame is at most 1, the one of a manifold beyond the table included. -/
theorem State.factor_le (s : State) (m : Nat) : (s.jetFrame.frame m).factor ≤ 65536 := by
  by_cases hm : m < 8
  · rw [State.frame_jetFrame hm]
    exact scalingFactor_le _ _
  · simp [State.frame, State.newFrames, List.getD_eq_getElem?_getD, hm, FrameRecord.blank]

end Sys2Proof.Machine
end

section
/-! PROOF. The jet frame at its boundary (O22 to O25). -/
namespace Sys2Proof.Machine

/-! ### What a boundary takes before its frame (R29, R63, R186) -/

/-- The envelope update is to the Deck Mixer alone, and is then outstanding no more. -/
theorem State.takeEnvelope_outside (s : State) :
    ∃ decks, s.takeEnvelope = { s with decks := decks, due := { s.due with envelope := false } } := by
  unfold State.takeEnvelope
  split
  · exact ⟨_, rfl⟩
  · next h => exact ⟨s.decks, by rw [← Bool.eq_false_iff.2 h]⟩

/-- The scheduler's transitions are to the effect table and the event summary alone. -/
theorem State.schedule_outside (s : State) : ∃ effects link, s.schedule = { s with effects := effects, link := link } := by
  unfold State.schedule
  split
  · exact ⟨s.effects, s.link, rfl⟩
  · obtain ⟨effects, h, -⟩ := s.boundaryPass s.timer.clock 256
    rw [h]
    cases (s.effects.slots.take 256).any (EffectSlot.endsAt s.timer.clock) <;> exact ⟨_, _, rfl⟩

theorem State.takeEffects_outside (s : State) : ∃ effects link,
    s.takeEffects = { s with effects := effects, link := link, due := { s.due with effects := false } } := by
  unfold State.takeEffects
  split
  · obtain ⟨effects, link, h⟩ := s.schedule_outside
    exact ⟨effects, link, by rw [h]; rfl⟩
  · next h => exact ⟨s.effects, s.link, by rw [← Bool.eq_false_iff.2 h]⟩

/-- The state that the frame of a boundary is computed from (log entry 3). -/
def State.atFrame (s : State) : State := s.takeEnvelope.takeEffects

/-- What a boundary takes before its frame is to the decks, the effect table and the event summary alone. -/
theorem State.atFrame_outside (s : State) : ∃ decks effects link, s.atFrame = { s with
    decks := decks, effects := effects, link := link
    due := { s.due with envelope := false, effects := false } } := by
  obtain ⟨decks, henvelope⟩ := s.takeEnvelope_outside
  obtain ⟨effects, link, heffects⟩ := s.takeEnvelope.takeEffects_outside
  exact ⟨decks, effects, link, by rw [State.atFrame, heffects, henvelope]⟩

@[simp] theorem State.atFrame_nozzles (s : State) : s.atFrame.nozzles = s.nozzles := by
  obtain ⟨_, _, _, h⟩ := s.atFrame_outside
  rw [h]

@[simp] theorem State.atFrame_pumps (s : State) : s.atFrame.pumps = s.pumps := by
  obtain ⟨_, _, _, h⟩ := s.atFrame_outside
  rw [h]

@[simp] theorem State.atFrame_site (s : State) : s.atFrame.site = s.site := by
  obtain ⟨_, _, _, h⟩ := s.atFrame_outside
  rw [h]

@[simp] theorem State.atFrame_due (s : State) :
    s.atFrame.due = { s.due with envelope := false, effects := false } := by
  obtain ⟨_, _, _, h⟩ := s.atFrame_outside
  rw [h]

/-- With neither outstanding there is nothing to take before the frame. -/
theorem State.atFrame_idle {s : State} (henvelope : s.due.envelope = false) (heffects : s.due.effects = false) :
    s.atFrame = s := by
  rw [State.atFrame, State.takeEnvelope_idle henvelope, State.takeEffects_idle heffects]

/-- A frame outstanding is taken, whole. -/
theorem State.takeJet_due {s : State} (h : s.due.jet = true) :
    s.takeJet = s.atFrame.jetFrame.modifyDue fun d => { d with jet := false } := by
  simp [State.takeJet, State.atFrame, h]

/-- A frame taken is that of the state that the boundary's other events leave. -/
theorem State.takeJet_atFrame {s : State} (h : s.due.jet = true) : s.takeJet = s.atFrame.takeJet := by
  have hagain : s.atFrame.atFrame = s.atFrame := State.atFrame_idle (by simp) (by simp)
  rw [State.takeJet_due h, State.takeJet_due (s := s.atFrame) (by simpa using h), hagain]

/-- What a frame makes of each nozzle (R78). -/
theorem State.nozzle_takeJet {s : State} (h : s.due.jet = true) (n : Nat) :
    s.takeJet.nozzle n = s.atFrame.framed n (s.nozzle n) := by
  have hframe : s.takeJet.nozzle n = s.atFrame.jetFrame.nozzle n := by rw [State.takeJet_due h]; rfl
  rw [hframe, State.nozzle_jetFrame]
  simp only [State.nozzle, State.atFrame_nozzles]

theorem State.frame_takeJet {s : State} (h : s.due.jet = true) (m : Nat) :
    s.takeJet.frame m = s.atFrame.jetFrame.frame m := by
  rw [State.takeJet_due h]
  rfl

/-! ### Governing zones and caps (R80, R128, R136) -/

theorem State.mem_governing {s : State} {n z : Nat} : z ∈ s.governing n ↔
    (z < 16 ∧ (s.zone z).cfg.covers n = true) ∨ (z = 16 ∧ ∀ y < 16, ¬ (s.zone y).cfg.covers n = true) := by
  have hranged : (List.range 16).filter (fun z => (s.zone z).cfg.covers n) = [] ↔
      ∀ y < 16, ¬ (s.zone y).cfg.covers n = true := by simp [List.filter_eq_nil_iff]
  unfold State.governing
  dsimp only
  split
  · next h =>
    have hnone := hranged.1 h
    rw [List.mem_singleton]
    exact ⟨fun hz => .inr ⟨hz, hnone⟩, fun hz => hz.elim (fun ⟨hlt, hc⟩ => absurd hc (hnone z hlt)) (·.1)⟩
  · next h =>
    rw [List.mem_filter, List.mem_range]
    exact ⟨.inl, fun hz => hz.elim id fun ⟨_, hnone⟩ => absurd (hranged.2 hnone) h⟩

/-- Every nozzle is governed by some zone (R128). -/
theorem State.governing_ne_nil (s : State) (n : Nat) : ∃ z, z ∈ s.governing n := by
  by_cases h : ∃ y < 16, (s.zone y).cfg.covers n = true
  · obtain ⟨y, hy, hc⟩ := h
    exact ⟨y, State.mem_governing.2 (.inl ⟨hy, hc⟩)⟩
  · exact ⟨16, State.mem_governing.2 (.inr ⟨rfl, fun y hy hc => h ⟨y, hy, hc⟩⟩)⟩

theorem State.lt_of_mem_governing {s : State} {n z : Nat} (h : z ∈ s.governing n) : z < 17 := by
  rcases State.mem_governing.1 h with ⟨hz, -⟩ | ⟨hz, -⟩ <;> omega

/-- The smallest of a figure and those of a list. -/
theorem foldl_min_spec (f : Nat → Nat) (zs : List Nat) (c : Nat) :
    zs.foldl (fun c z => min c (f z)) c ≤ c ∧ (∀ z ∈ zs, zs.foldl (fun c z => min c (f z)) c ≤ f z)
      ∧ (zs.foldl (fun c z => min c (f z)) c = c ∨ ∃ z ∈ zs, zs.foldl (fun c z => min c (f z)) c = f z) := by
  induction zs generalizing c with
  | nil => simp
  | cons z zs ih =>
    obtain ⟨hle, hall, hsome⟩ := ih (min c (f z))
    rw [List.foldl_cons]
    generalize zs.foldl (fun c z => min c (f z)) (min c (f z)) = k at hle hall hsome
    refine ⟨by omega, List.forall_mem_cons.2 ⟨by omega, hall⟩, ?_⟩
    rcases hsome with h | ⟨y, hy, h⟩
    · rcases Nat.le_total c (f z) with hc | hc
      · exact .inl (by omega)
      · exact .inr ⟨z, List.mem_cons_self, by omega⟩
    · exact .inr ⟨y, List.mem_cons_of_mem z hy, h⟩

/-- In STOPPED every cap is 0 (R80). -/
theorem State.nozzleCap_stopped {s : State} (h : s.timer.showState = .stopped) (n maxHeight : Nat) :
    s.nozzleCap n maxHeight = 0 := if_pos h

/-- Out of STOPPED the cap is the smallest of the nozzle's own and those of its zones (R80). -/
theorem State.nozzleCap_spec {s : State} (h : s.timer.showState ≠ .stopped) (n maxHeight : Nat) :
    s.nozzleCap n maxHeight ≤ maxHeight ∧ (∀ z ∈ s.governing n, s.nozzleCap n maxHeight ≤ s.cap z)
      ∧ (s.nozzleCap n maxHeight = maxHeight ∨ ∃ z ∈ s.governing n, s.nozzleCap n maxHeight = s.cap z) := by
  rw [State.nozzleCap, if_neg h]
  exact foldl_min_spec s.cap (s.governing n) maxHeight

/-- The cap never passes that of a governing zone. -/
theorem State.nozzleCap_le_cap {s : State} {n z : Nat} (hz : z ∈ s.governing n) (maxHeight : Nat) :
    s.nozzleCap n maxHeight ≤ s.cap z := by
  by_cases h : s.timer.showState = .stopped
  · rw [State.nozzleCap_stopped h]
    exact Nat.zero_le _
  · obtain ⟨-, hall, -⟩ := State.nozzleCap_spec h n maxHeight
    exact hall z hz

/-- A stopped zone and one in WIND_HOLD have cap 0 (R136). -/
theorem State.cap_eq_zero {s : State} {z : Nat}
    (h : s.site.stopLatch = true ∨ (s.zone z).latch = true ∨ (s.zone z).wind = .windHold) : s.cap z = 0 := by
  rcases h with h | h | h <;> simp [State.cap, currentCap, h]

/-! ### The reason of a cut (R81) -/

/-- A stop holds nozzle `n`: the site's, or that of a zone which governs it. -/
def State.stopsNozzle (s : State) (n : Nat) : Prop :=
  s.site.stopLatch = true ∨ ∃ z ∈ s.governing n, (s.zone z).latch = true

/-- A zone that governs nozzle `n` gives it this cap, and is not CLEAR. -/
def State.windCuts (s : State) (n cap : Nat) : Prop :=
  ∃ z ∈ s.governing n, s.cap z = cap ∧ (s.zone z).wind ≠ .clear

/-- A cut target has one reason: stop, else wind, else the zone cap. -/
theorem State.reason_iff (s : State) (n composed cap : Nat) :
    ((s.reason n composed cap).stop = true ↔ cap < composed ∧ s.stopsNozzle n)
    ∧ ((s.reason n composed cap).wind = true ↔ cap < composed ∧ ¬ s.stopsNozzle n ∧ s.windCuts n cap)
    ∧ ((s.reason n composed cap).zoneCap = true ↔ cap < composed ∧ ¬ s.stopsNozzle n ∧ ¬ s.windCuts n cap) := by
  have hstop : (s.site.stopLatch || (s.governing n).any fun z => (s.zone z).latch) = true ↔ s.stopsNozzle n := by
    simp [State.stopsNozzle]
  have hwind : ((s.governing n).any fun z => decide (s.cap z = cap) && decide ((s.zone z).wind ≠ .clear)) = true
      ↔ s.windCuts n cap := by simp [State.windCuts]
  rw [← hstop, ← hwind]
  unfold State.reason
  dsimp only
  generalize (s.site.stopLatch || (s.governing n).any fun z => (s.zone z).latch) = stops
  generalize ((s.governing n).any fun z => decide (s.cap z = cap) && decide ((s.zone z).wind ≠ .clear)) = windy
  by_cases hcut : composed ≤ cap
  · simp [hcut, Nat.not_lt.2 hcut, Limits.empty]
  · cases stops
    · cases windy <;> simp [hcut, Nat.not_le.1 hcut, Limits.empty]
    · simp [hcut, Nat.not_le.1 hcut, Limits.empty]

end Sys2Proof.Machine
end

section
/-! PROOF. The jet frame settled (O22 to O25). -/
namespace Sys2Proof.Machine

/-! ### Flows and valves (R73, R82 to R89) -/

theorem isqrt_zero : isqrt 0 = 0 := by
  obtain ⟨h, -⟩ := isqrt_bounds 0
  simpa using h

/-- The largest coefficient and height call for a flow of 25,599 (R73). -/
theorem flowAt_le {k h : Nat} (hk : k ≤ 65535) (hh : h ≤ 10000) : flowAt k h ≤ 25599 := by
  obtain ⟨hroot, -⟩ := isqrt_bounds (h * 256)
  have hle : isqrt (h * 256) ≤ 1600 := by
    by_contra hgt
    have := Nat.mul_self_le_mul_self (Nat.not_le.1 hgt : 1601 ≤ isqrt (h * 256))
    omega
  have hprod := Nat.mul_le_mul hk hle
  unfold flowAt
  omega

/-- A scaled figure is no more than the figure. -/
theorem scaled_le {f : Nat} (hf : f ≤ 65536) (q : Nat) : q * f / 65536 ≤ q :=
  Nat.div_le_of_le_mul (by rw [Nat.mul_comm 65536]; exact Nat.mul_le_mul_left q hf)

/-- A target of 0 closes the valve: no flow, and so no valve target (R82, R86). -/
theorem valveTargetOf_flowAt_zero (k f qmax : Nat) : valveTargetOf (flowAt k 0 * f / 65536) qmax = 0 := by
  simp [valveTargetOf, flowAt, isqrt_zero]

theorem slewLimited_iff {v target slew : Nat} :
    slewLimited v target slew = true ↔ v + slew < target ∨ target + slew < v := decide_eq_true_iff

/-! ### JET_FRAME settled -/

/-- The current cap of a zone, the two stops as one case (R136). -/
theorem State.cap_eq (s : State) (k : Nat) : s.cap k =
    if s.site.stopLatch = true ∨ (s.zone k).latch = true then 0
    else match (s.zone k).wind with
      | .windHold => 0
      | .derated => (s.zone k).cfg.cap * ((s.zone k).cfg.hard - s.site.heldWind) / ((s.zone k).cfg.hard - (s.zone k).cfg.soft)
      | .clear => (s.zone k).cfg.cap := by
  unfold State.cap currentCap
  cases s.site.stopLatch
  · cases (s.zone k).latch
    · cases (s.zone k).wind <;> rfl
    · rfl
  · rfl

/-- A frame whose boundary has nothing else outstanding. -/
theorem State.takeJet_alone {s : State} (hjet : s.due.jet = true) (henvelope : s.due.envelope = false)
    (heffects : s.due.effects = false) : s.takeJet = s.jetFrame.modifyDue fun d => { d with jet := false } := by
  rw [State.takeJet_due hjet, State.atFrame_idle henvelope heffects]

/-- Settles O22: the frame of each nozzle, stage by stage. -/
theorem jetFramePublishes : Obligations.JetFramePublishes := by
  unfold Obligations.JetFramePublishes
  intro s hz
  have hexec (s : State) : exec .jetFrame s = .next s.takeJet := rfl
  refine ⟨fun hjet => ?idle, fun u v hjet hu hv => ?order,
    fun hjet henvelope heffects => ⟨s.takeJet, rfl, ?length, fun n _ => ?_⟩⟩
  case idle => rw [hexec, State.takeJet_idle hjet]
  case order =>
    cases hu
    cases hv
    rw [hexec, State.takeJet_atFrame hjet]
    rfl
  case length =>
    obtain ⟨-, -, hlength, -⟩ := hz
    rw [State.takeJet_alone hjet henvelope heffects]
    exact (congrArg (fun e => List.length e.table) s.jetFrame_nozzles).trans (s.length_newTable.trans hlength)
  intro a b
  have hframed : b = s.framed n a := by
    have h := State.nozzle_takeJet hjet n
    rwa [State.atFrame_idle henvelope heffects] at h
  refine ⟨fun habsent => hframed.trans (State.framed_of_absent habsent), fun hpresent => ?_⟩
  have hrecord : s.jetFrame.frame a.cfg.manifold = s.takeJet.frame a.cfg.manifold := by
    rw [State.frame_takeJet hjet, State.atFrame_idle henvelope heffects]
  have hfactor : (s.takeJet.frame a.cfg.manifold).factor ≤ 65536 := hrecord ▸ s.factor_le _
  rw [State.framed_of_present hpresent, hrecord] at hframed
  clear_value b
  subst hframed
  intro f q ranged governs zoneCap cut stops windy
  have hgoverns (z : Nat) : z ∈ s.governing n ↔ governs z := by
    simp [State.mem_governing, ZoneConfig.covers, governs, ranged]
  have hcap : s.cap = zoneCap := funext fun k => s.cap_eq k
  have hexists (p : Nat → Prop) : (∃ z ∈ s.governing n, p z) ↔ ∃ z < 17, governs z ∧ p z :=
    exists_congr fun z => ⟨fun ⟨hz, hp⟩ => ⟨State.lt_of_mem_governing hz, (hgoverns z).1 hz, hp⟩,
      fun ⟨_, hz, hp⟩ => ⟨(hgoverns z).2 hz, hp⟩⟩
  have hstops : s.stopsNozzle n ↔ stops := or_congr_right (hexists _)
  have hwindy : s.windCuts n (s.nozzleCap n a.cfg.maxHeight) ↔ windy := by
    rw [State.windCuts, hexists, hcap]
    rfl
  obtain ⟨hstop, hwind, hzone⟩ := s.reason_iff n (s.composeNozzle n (leadTime s.timer.clock a.cfg.lead))
    (s.nozzleCap n a.cfg.maxHeight)
  rw [hstops, hwindy] at hwind hzone
  rw [hstops] at hstop
  refine ⟨rfl, rfl, fun h => State.nozzleCap_stopped h _ _, fun h => ?smallest, rfl, rfl, rfl, rfl, rfl,
    fun hk hh => ?bound, rfl, rfl, ?supply, slewLimited_iff, hstop, hwind, hzone⟩
  case smallest =>
    obtain ⟨hown, hall, hsome⟩ := State.nozzleCap_spec h n a.cfg.maxHeight
    rw [hexists] at hsome
    rw [hcap] at hall hsome
    exact ⟨hown, fun z _ hz => hall z ((hgoverns z).2 hz), hsome⟩
  case bound => exact Nat.mul_le_mul_right 1000 ((scaled_le hfactor _).trans (flowAt_le hk hh))
  case supply => exact Bool.and_eq_true_iff.trans (and_congr decide_eq_true_iff decide_eq_true_iff)

/-! ### What a frame hands on -/

/-- A manifold's report, read back (R92, R105). -/
theorem State.manifold_jetFrame {s : State} (hz : s.pumps.manifolds.length = 8) {m : Nat} (hm : m < 8) :
    s.jetFrame.manifold m = { s.manifold m with
      demand := (s.jetFrame.frame m).demand, forecast := (s.jetFrame.frame m).forecast } := by
  have hreport : s.jetFrame.manifold m = (report s.newFrames s.pumps.manifolds).getD m Manifold.blank := by
    rw [State.manifold, State.jetFrame_eq]
  have hentry : s.pumps.manifolds[m]? = some (s.manifold m) := by
    simp [State.manifold, List.getD_eq_getElem?_getD, hz, hm]
  rw [hreport, List.getD_eq_getElem?_getD]
  simp only [report, List.getElem?_map, List.getElem?_zipIdx, hentry, Option.map_some, Option.getD_some, Nat.zero_add,
    State.frame, State.jetFrame_nozzles]

/-- Settles O23: the frame writes what it hands on, and no more. -/
theorem jetFrameReports : Obligations.JetFrameReports := by
  unfold Obligations.JetFrameReports
  intro s hz hjet henvelope heffects
  obtain ⟨-, -, -, -, hmanifolds, -, -, -, -, hlines, -⟩ := hz
  have htable : s.takeJet.nozzles.table = s.newTable := by
    rw [State.takeJet_alone hjet henvelope heffects, State.modifyDue_nozzles, State.jetFrame_nozzles]
  refine ⟨s.takeJet, rfl, fun m hm => ?manifold, fun l hl => ?line, ?rest⟩
  all_goals rw [htable, State.takeJet_alone hjet henvelope heffects]
  case manifold =>
    have hframe := State.frame_jetFrame (s := s) hm
    refine ⟨hframe, (State.manifold_jetFrame hmanifolds hm).trans ?_⟩
    rw [hframe]
  case line => exact State.line_jetFrame hlines hl
  case rest =>
    have hshort : (s.jetFrame.modifyDue fun d => { d with jet := false }).nozzles.frames = s.newFrames := by
      rw [State.modifyDue_nozzles, State.jetFrame_nozzles]
    rw [hshort, State.jetFrame_eq]
    refine ⟨rfl, ?_, rfl, rfl, rfl, rfl, rfl, rfl, rfl, rfl, rfl, rfl, rfl⟩
    show (s.raiseIf s.short .supplyLimited).link = _
    unfold State.short
    cases s.newFrames.any fun f => decide (f.factor < 65536) <;> rfl

/-- Settles O24: each nozzle receives its share, and the shares sum to no more than the share of the demand. -/
theorem flowsWithinSupply : Obligations.FlowsWithinSupply := by
  unfold Obligations.FlowsWithinSupply
  rintro s _ - hjet ⟨⟩ m hm
  have hmanifold : s.atFrame.manifold m = s.manifold m := by simp only [State.manifold, State.atFrame_pumps]
  have hframe := State.frame_jetFrame (s := s.atFrame) hm
  have htable : s.takeJet.nozzles.table = s.atFrame.newTable := by
    rw [State.takeJet_due hjet, State.modifyDue_nozzles, State.jetFrame_nozzles]
  have hshare : ∀ z ∈ s.atFrame.newTable, z.cfg.present = true → z.cfg.manifold = m →
      z.live.scaledFlow = z.live.flow * (s.atFrame.jetFrame.frame m).factor / 65536
      ∧ z.live.scaledHeight =
        z.live.target * (s.atFrame.jetFrame.frame m).factor * (s.atFrame.jetFrame.frame m).factor / 2 ^ 32 := by
    intro z hz hpresent hm
    obtain ⟨n, a, rfl⟩ := State.mem_newTable hz
    rw [State.framed_cfg] at hpresent hm
    rw [State.framed_of_present hpresent, hm]
    exact ⟨rfl, rfl⟩
  rw [State.frame_takeJet hjet, htable]
  refine ⟨by rw [hframe, hmanifold], ?sum, fun z hz hpresent hm => ?nozzle⟩
  case sum =>
    refine (sumOver_share_le fun z hz hpresent hm => (hshare z hz hpresent hm).1).trans ?_
    rw [hframe]
    exact demand_scaled_le _ _
  case nozzle =>
    obtain ⟨hflow, hheight⟩ := hshare z hz hpresent hm
    refine ⟨hflow, hheight, fun htarget => ?_⟩
    have hfactor := s.atFrame.factor_le m
    exact (Nat.mul_le_mul (Nat.mul_le_mul htarget hfactor) hfactor).trans (by omega)

/-- Settles O25: a governing zone with cap 0 makes the target 0, and a target of 0 closes the valve. -/
theorem stopHoldsTargetsAtZero : Obligations.StopHoldsTargetsAtZero := by
  unfold Obligations.StopHoldsTargetsAtZero
  rintro s _ n - - hjet ⟨⟩ hpresent hstop
  have hzone : ∃ z ∈ s.governing n, s.cap z = 0 := by
    rcases hstop with hsite | ⟨z, hz, hzone⟩
    · obtain ⟨z, hz⟩ := s.governing_ne_nil n
      exact ⟨z, hz, State.cap_eq_zero (.inl hsite)⟩
    · exact ⟨z, hz, State.cap_eq_zero (.inr hzone)⟩
  obtain ⟨z, hz, hcap⟩ := hzone
  have hgoverning : s.atFrame.governing n = s.governing n := by
    unfold State.governing State.zone
    rw [State.atFrame_site]
  have hcapAt : s.atFrame.cap z = 0 := by
    rw [← hcap]
    simp only [State.cap, State.zone, State.atFrame_site]
  have hzero (maxHeight : Nat) : s.atFrame.nozzleCap n maxHeight = 0 :=
    Nat.le_zero.1 (hcapAt ▸ State.nozzleCap_le_cap (hgoverning ▸ hz) maxHeight)
  rw [State.nozzle_takeJet hjet, State.framed_of_present hpresent]
  have htarget : (s.atFrame.composeStage n (s.nozzle n)).live.target = 0 := by
    simp [State.composeStage, hzero]
  have hflow : (s.atFrame.composeStage n (s.nozzle n)).live.flow = flowAt (s.nozzle n).cfg.coefficient 0 := by
    simp [State.composeStage, hzero]
  refine ⟨htarget, ?_⟩
  simp only [scaleStage, hflow, valveTargetOf_flowAt_zero]

end Sys2Proof.Machine
end

section
/-! PROOF. NOZZLE_SET (R75, R76, R166). -/
namespace Sys2Proof.Machine

/-! ### Its checks -/

/-- A presence code over 1 says neither yes nor no. -/
theorem yesNoOf_isNone {b : Byte} : (yesNoOf b).isNone = true ↔ 1 < b.toNat := by
  unfold yesNoOf
  by_cases h0 : b = 0
  · simp [h0]
  · by_cases h1 : b = 1
    · simp [h1]
    · simp only [h0, h1, if_false, Option.isNone_none, true_iff]
      bv_omega

theorem nozzleFieldsBad_iff {s : State} {c : NozzleConfig} : nozzleFieldsBad s c = true ↔
    7 < c.manifold ∨ c.maxHeight = 0 ∨ 10000 < c.maxHeight ∨ c.coefficient = 0 ∨ 2000 < c.lead
      ∨ c.slew = 0 ∨ 1000 < c.slew ∨ 3 < c.line ∨ c.first = 0 ∨ 511 < c.first
      ∨ (s.line c.line).cfg.slots < c.first + 1 := by
  simp [nozzleFieldsBad, or_assoc]

/-- A slot is in conflict with a nozzle's valve when something else owns it (R166). -/
theorem State.conflict_valve_iff {s : State} {line slot n : Nat} :
    s.conflict line slot (SlotOwner.isValveOf n) = true ↔ (s.line line).owner slot ≠ .free
      ∧ (s.line line).owner slot ≠ .valveHigh n ∧ (s.line line).owner slot ≠ .valveLow n := by
  unfold State.conflict
  cases (s.line line).owner slot <;> simp [SlotOwner.isValveOf]

/-- The configuration a NOZZLE_SET asks for (log entry 14). -/
def nozzleAsked (p : NozzleSetParams) (s : State) : NozzleConfig :=
  if decide (p.present = 1) then nozzleConfigOf p else { (s.nozzle p.nozzle.toNat).cfg with present := false }

/-- The checks of a NOZZLE_SET after those of the show and the save (R75). -/
def nozzleChecks (p : NozzleSetParams) (s : State) : List (Bool × ResultCode) :=
  let n := p.nozzle.toNat
  let present := decide (p.present = 1)
  let old := s.nozzle n
  let c := nozzleAsked p s
  [(decide (383 < n) || (yesNoOf p.present).isNone, .badParam),
   (present && nozzleFieldsBad s c, .badParam),
   (old.cfg.present && decide (0 < old.live.valve) && (!present || decide (c.line ≠ old.cfg.line ∨ c.first ≠ old.cfg.first)),
     .busy),
   (present && (s.conflict c.line c.first (SlotOwner.isValveOf n)
     || s.conflict c.line (c.first + 1) (SlotOwner.isValveOf n)), .slotConflict)]

theorem handleNozzleSet_eq (p : NozzleSetParams) (s : State) : handleNozzleSet p s =
    checked (configChecks s ++ nozzleChecks p s) (accept (State.setNozzle p.nozzle.toNat (nozzleAsked p s))) s := rfl

/-- With the show STOPPED and no save, the first two checks pass. -/
theorem firstFailure_configChecks {s : State} (hstopped : s.timer.showState = .stopped) (hsaving : s.store.saving = false)
    (l : List (Bool × ResultCode)) : firstFailure (configChecks s ++ l) = firstFailure l := by
  simp [configChecks, firstFailure, hstopped, hsaving]

theorem exec_nozzleSet_refused {p : NozzleSetParams} {s : State} {code : ResultCode} (hs : s.configurable)
    (h : firstFailure (nozzleChecks p s) = some code) : exec (.nozzleSet p) s = .next (s.answered code []) := by
  obtain ⟨hready, hstopped, hsaving⟩ := hs
  exact exec_of_refused rfl hready
    (checked_of_some _ _ ((firstFailure_configChecks (s := s.transferTaken) hstopped hsaving _).trans h))

/-- NOZZLE_SET does not reach the link, so its transfer may as well be taken after it. -/
theorem State.setNozzle_transferTaken (n : Nat) (c : NozzleConfig) (s : State) :
    s.transferTaken.setNozzle n c = (s.setNozzle n c).transferTaken := by
  have hmoves (old new : Option (Nat × Claims)) : s.transferTaken.moveClaims old new = (s.moveClaims old new).transferTaken := by
    cases old <;> cases new <;> rfl
  unfold State.setNozzle
  dsimp only
  rw [hmoves]
  rfl

theorem exec_nozzleSet_accepted {p : NozzleSetParams} {s : State} (hs : s.configurable)
    (h : firstFailure (nozzleChecks p s) = none) : exec (.nozzleSet p) s =
      .next ((s.setNozzle p.nozzle.toNat (nozzleAsked p s)).answered .ok []) := by
  obtain ⟨hready, hstopped, hsaving⟩ := hs
  have hpass : firstFailure (configChecks s.transferTaken ++ nozzleChecks p s.transferTaken) = none :=
    (firstFailure_configChecks (s := s.transferTaken) hstopped hsaving _).trans h
  rw [exec_of_handlerOf (h := handleNozzleSet p) rfl, takeCommand_of_ready hready, handleNozzleSet_eq,
    checked_of_none _ _ hpass]
  exact congrArg (fun t => Host.Outcome.next (t.pushReply ⟨.ok, []⟩)) (State.setNozzle_transferTaken _ _ s)

/-! ### Its outcomes -/

/-- Settles O27: the checks in their order, then the configuration replaced. -/
theorem nozzleSetOutcomes : Obligations.NozzleSetOutcomes := by
  unfold Obligations.NozzleSetOutcomes
  intro p s hs n old c oldClaim bad taken busy
  refine ⟨fun h => ?range, fun hn habsent => ?absent, fun hn hpresent => ?present⟩
  case range =>
    refine exec_nozzleSet_refused hs (firstFailure_cons_true ?_)
    rwa [Bool.or_eq_true, decide_eq_true_iff, yesNoOf_isNone]
  case absent =>
    have hasked : nozzleAsked p s = { old.cfg with present := false } := by simp [nozzleAsked, habsent, old, n]
    have hchecks : firstFailure (nozzleChecks p s) = firstFailure [(decide busy, .busy)] := by
      simp [nozzleChecks, firstFailure, habsent, Nat.not_lt.2 hn, yesNoOf, old, n, busy]
    refine ⟨fun hbusy => ?_, fun hfree => ?_⟩
    · exact exec_nozzleSet_refused hs (hchecks.trans (firstFailure_cons_true (decide_eq_true hbusy)))
    · rw [exec_nozzleSet_accepted hs (hchecks.trans (firstFailure_cons_false (decide_eq_false hfree))), hasked]
      rfl
  case present =>
    have hasked : nozzleAsked p s = c := by simp [nozzleAsked, hpresent, c, nozzleConfigOf]
    have hbad : nozzleFieldsBad s c = true ↔ bad := nozzleFieldsBad_iff
    have htaken : (s.conflict c.line c.first (SlotOwner.isValveOf n)
        || s.conflict c.line (c.first + 1) (SlotOwner.isValveOf n)) = true ↔ taken := by
      simp [State.conflict_valve_iff, taken]
    have hbusy : (old.cfg.present && decide (0 < old.live.valve) && decide (c.line ≠ old.cfg.line ∨ c.first ≠ old.cfg.first))
        = true ↔ busy ∧ (c.line ≠ old.cfg.line ∨ c.first ≠ old.cfg.first) := by simp [busy, and_assoc]
    have hchecks : firstFailure (nozzleChecks p s) = firstFailure
        [(nozzleFieldsBad s c, .badParam),
         (old.cfg.present && decide (0 < old.live.valve) && decide (c.line ≠ old.cfg.line ∨ c.first ≠ old.cfg.first), .busy),
         (s.conflict c.line c.first (SlotOwner.isValveOf n) || s.conflict c.line (c.first + 1) (SlotOwner.isValveOf n),
           .slotConflict)] := by
      simp only [nozzleChecks, hasked, hpresent]
      exact firstFailure_cons_false (by simpa [yesNoOf] using hn)
    have hgood {b : Bool} {q : Prop} (hb : b = true ↔ q) (hq : ¬ q) : b = false := Bool.eq_false_iff.2 fun h => hq (hb.1 h)
    refine ⟨fun h => ?_, fun hfields h hmove => ?_, fun hfields hstays => ⟨fun h => ?_, fun hfree => ?_⟩⟩
    · exact exec_nozzleSet_refused hs (hchecks.trans (firstFailure_cons_true (hbad.2 h)))
    · exact exec_nozzleSet_refused hs (hchecks.trans ((firstFailure_cons_false (hgood hbad hfields)).trans
        (firstFailure_cons_true (hbusy.2 ⟨h, hmove⟩))))
    all_goals
      have hlast := hchecks.trans ((firstFailure_cons_false (hgood hbad hfields)).trans
        (firstFailure_cons_false (hgood hbusy fun ⟨hopen, hmove⟩ =>
          hstays.elim (absurd hopen) fun ⟨hline, hfirst⟩ => hmove.elim (absurd hline) (absurd hfirst))))
    · exact exec_nozzleSet_refused hs (hlast.trans (firstFailure_cons_true (htaken.2 h)))
    · rw [exec_nozzleSet_accepted hs (hlast.trans (firstFailure_cons_false (hgood htaken hfree))), hasked]
      rfl

end Sys2Proof.Machine
end

section
/-! PROOF. Who touches the nozzles: every event and handler leaves the Nozzle Engine and what is outstanding of its frame,
but for JET_FRAME, SAMPLE_PERIOD, NOZZLE_SET and a full reset. -/
namespace Sys2Proof.Machine

/-- The Nozzle Engine, and whether its frame is outstanding. -/
def State.jetView (s : State) : NozzleEngine × Bool := (s.nozzles, s.due.jet)

/-! ### The shared operations -/

theorem State.jetView_raiseIf (b : Bool) (e : Event) (s : State) : (s.raiseIf b e).jetView = s.jetView := by
  cases b <;> rfl

theorem State.jetView_modifyDue {f : Due → Due} (hf : ∀ d, (f d).jet = d.jet) (s : State) :
    (s.modifyDue f).jetView = s.jetView := by
  simp [State.jetView, hf]

/-- What every pass of a loop leaves, the loop leaves. -/
theorem jetView_forEach {α : Type} {f : α → State → State} (h : ∀ a s, (f a s).jetView = State.jetView s) (l : List α)
    (s : State) : (forEach l f s).jetView = s.jetView :=
  forEach_same State.jetView l f (fun a _ => h a) s

theorem jetView_ite {c : Prop} [Decidable c] {s t u : State} (ht : t.jetView = s.jetView) (hu : u.jetView = s.jetView) :
    (if c then t else u).jetView = s.jetView := by
  split
  · exact ht
  · exact hu

theorem jetView_checked {l : List (Bool × ResultCode)} {go : Handler} {s : State} (h : (go s).1.jetView = s.jetView) :
    (checked l go s).1.jetView = s.jetView := by
  cases hl : firstFailure l with
  | none => rwa [checked_of_none go s hl]
  | some c => rw [checked_of_some go s hl]

/-! ### The effect table -/

/-- A change of one record is to the effect table alone. -/
theorem State.RecordChange.jetView {i : Nat} {k : EffectRecord → Option EffectRecord} {s t : State}
    (h : s.RecordChange i k t) : t.jetView = s.jetView := by
  obtain ⟨_, rfl⟩ := h.outside
  rfl

theorem State.jetView_schedule (s : State) : s.schedule.jetView = s.jetView := by
  obtain ⟨_, _, h⟩ := s.schedule_outside
  rw [h]
  rfl

theorem State.jetView_takeEffects (s : State) : s.takeEffects.jetView = s.jetView := by
  obtain ⟨_, _, h⟩ := s.takeEffects_outside
  rw [h]
  rfl

theorem State.jetView_takeEffectsIf (makes : ShowTime → State → Bool) (s : State) :
    (s.takeEffectsIf makes).jetView = s.jetView :=
  jetView_ite s.jetView_takeEffects rfl

theorem State.jetView_takeEnvelope (s : State) : s.takeEnvelope.jetView = s.jetView := by
  obtain ⟨_, h⟩ := s.takeEnvelope_outside
  rw [h]
  rfl

theorem jetView_handleEffectAdd (p : EffectAddParams) (s : State) : (handleEffectAdd p s).1.jetView = s.jetView := by
  unfold handleEffectAdd
  split
  · rfl
  refine jetView_checked ?_
  split
  · rfl
  split
  · exact (s.freeRecord_change _).jetView
  · rfl

theorem State.jetView_editAtOnce (i : Nat) (r : EffectRecord) (f : EditFields) (s : State) :
    (s.editAtOnce i r f).jetView = s.jetView := by
  unfold State.editAtOnce
  cases f.group <;> rfl

theorem State.jetView_dropRef? (g : Option Nat) (s : State) : (s.dropRef? g).jetView = s.jetView := by
  cases g <;> rfl

theorem State.jetView_stageEdit (i : Nat) (r : EffectRecord) (f : EditFields) (boundary : ShowTime) (s : State) :
    (s.stageEdit i r f boundary).jetView = s.jetView := by
  unfold State.stageEdit
  dsimp only
  cases r.edit with
  | none => cases f.group <;> rfl
  | some e =>
    cases f.group with
    | none => rfl
    | some g => exact State.jetView_dropRef? _ (s.addRef g)

theorem jetView_editAccepted (i : Nat) (r : EffectRecord) (c : EditTiming) (t : ShowTime) (set : Half) (v : EditValues)
    (s : State) : (editAccepted i r c t set v s).1.jetView = s.jetView := by
  unfold editAccepted
  dsimp only
  split
  · exact State.jetView_editAtOnce ..
  split
  · exact State.jetView_stageEdit ..
  · rfl

theorem jetView_handleEffectEdit (h : Half) (timing : Byte) (t : Quad) (set : Half) (v : EditValues) (s : State) :
    (handleEffectEdit h timing t set v s).1.jetView = s.jetView := by
  unfold handleEffectEdit
  split
  · split
    · rfl
    · exact jetView_checked (jetView_editAccepted ..)
  · rfl

theorem jetView_handleEffectRetire (h : Half) (mode : Byte) (s : State) :
    (handleEffectRetire h mode s).1.jetView = s.jetView := by
  unfold handleEffectRetire
  split
  · rfl
  split
  · rfl
  split
  · exact (s.freeRecord_change _).jetView
  split
  · exact (State.imposeFade_change ..).jetView
  · rfl

theorem jetView_handleEffectQuery (h : Half) (s : State) : (handleEffectQuery h s).1.jetView = s.jetView := by
  unfold handleEffectQuery
  split <;> rfl

theorem jetView_handleGroupDefine (g kind : Byte) (members : List Half) (s : State) :
    (handleGroupDefine g kind members s).1.jetView = s.jetView := by
  unfold handleGroupDefine
  split
  · rfl
  · exact jetView_checked rfl

/-! ### The changes of show state -/

theorem State.jetView_releaseHeld (d : Nat) (s : State) : (s.releaseHeld d).jetView = s.jetView := by
  obtain ⟨_, _, h, -⟩ := s.releaseHeld_eq d
  rw [h]
  rfl

theorem State.jetView_emptyDeck (d : Nat) (s : State) : (s.emptyDeck d).jetView = s.jetView := s.jetView_releaseHeld d

theorem State.jetView_clearEffects (s : State) : s.clearEffects.jetView = s.jetView := by
  have hpass := jetView_forEach (fun i s => (s.freeRecord_change i).jetView) (List.range 256) s
  unfold State.clearEffects
  generalize forEach (List.range 256) State.freeRecord s = u at hpass ⊢
  exact hpass

theorem State.jetView_stopDeck (d : Nat) (s : State) : (s.stopDeck d).jetView = s.jetView :=
  jetView_ite (s.jetView_emptyDeck d) rfl

theorem State.jetView_enterStopped (s : State) : s.enterStopped.jetView = s.jetView := by
  by_cases h : s.timer.showState = .stopped
  · rw [State.enterStopped_of_stopped h]
  · have hdecks := (jetView_forEach State.jetView_stopDeck [0, 1] s.clearEffects).trans s.jetView_clearEffects
    generalize hu : forEach [0, 1] State.stopDeck s.clearEffects = u at hdecks
    rw [State.enterStopped_eq h hu]
    exact hdecks

theorem State.jetView_enterEnding (fade : Nat) (s : State) : (s.enterEnding fade).jetView = s.jetView := by
  have hpass := jetView_forEach (fun i u => (u.endRecord_change s.timer.clock fade i).jetView) (List.range 256) s
  generalize hu : forEach (List.range 256) (State.endRecord s.timer.clock fade) s = u at hpass
  rw [State.enterEnding_eq hu]
  exact hpass

theorem State.jetView_endShow (ms : Nat) (s : State) : (s.endShow ms).jetView = s.jetView :=
  jetView_ite s.jetView_enterStopped (s.jetView_enterEnding _)

theorem State.jetView_takeEndTime (s : State) : s.takeEndTime.jetView = s.jetView :=
  jetView_ite s.jetView_enterStopped rfl

theorem State.jetView_takeSilence (s : State) : s.takeSilence.jetView = s.jetView :=
  jetView_ite (s.jetView_endShow _) rfl

theorem State.jetView_assertStop (s : State) : s.assertStop.jetView = s.jetView :=
  State.jetView_enterStopped _

theorem State.jetView_takeStop (s : State) : s.takeStop.jetView = s.jetView := jetView_ite s.jetView_assertStop rfl

theorem State.jetView_takeShowEnds (s : State) : s.takeShowEnds.jetView = s.jetView :=
  (State.jetView_takeEndTime _).trans ((State.jetView_takeSilence _).trans s.jetView_takeStop)

/-! ### The lines and the lights -/

/-- Writes of slots are to the lines alone. -/
theorem State.jetView_writeSlots (n : Nat) (values : SlotValues) (s : State) :
    (s.writeSlots n values).jetView = s.jetView := jetView_ite rfl rfl

theorem State.jetView_moveClaims (old new : Option (Nat × Claims)) (s : State) :
    (s.moveClaims old new).jetView = s.jetView := by cases old <;> cases new <;> rfl

theorem State.jetView_takeGapEnd (n : Nat) (s : State) : (s.takeGapEnd n).jetView = s.jetView := rfl

theorem State.jetView_lightCompute (s : State) : s.lightCompute.jetView = s.jetView :=
  jetView_forEach (fun l s => State.jetView_writeSlots l _ s) (List.range 4) _

theorem State.jetView_takeLight (s : State) : s.takeLight.jetView = s.jetView :=
  jetView_ite ((State.jetView_lightCompute _).trans ((State.jetView_takeEffects _).trans s.jetView_takeEnvelope)) rfl

theorem State.jetView_setFixture (n : Nat) (c : FixtureConfig) (s : State) : (s.setFixture n c).jetView = s.jetView :=
  (State.jetView_writeSlots ..).trans (s.jetView_moveClaims ..)

/-! ### The pumps -/

theorem State.jetView_examine (n : Nat) (s : State) : (s.examine n).jetView = s.jetView := by
  unfold State.examine
  dsimp only
  repeat' split
  all_goals rfl

theorem State.jetView_suspendPump (n : Nat) (s : State) : (s.suspendPump n).jetView = s.jetView := by
  unfold State.suspendPump
  split <;> rfl

theorem State.jetView_suspension (s : State) : s.suspension.jetView = s.jetView := by
  have hpass := jetView_forEach State.jetView_suspendPump (List.range 16) s
  unfold State.suspension
  generalize forEach (List.range 16) State.suspendPump s = u at hpass ⊢
  exact jetView_ite (jetView_ite rfl hpass) rfl

theorem State.jetView_joinQueue (stopped : List Nat) (n : Nat) (s : State) :
    (s.joinQueue stopped n).jetView = s.jetView := jetView_ite rfl rfl

theorem State.jetView_cancelOutside (targets : List Nat) (n : Nat) (s : State) :
    (s.cancelOutside targets n).jetView = s.jetView := jetView_ite rfl rfl

theorem State.jetView_stageQueue (stopped : List Nat) (m : Nat) (s : State) :
    (s.stageQueue stopped m).jetView = s.jetView :=
  (jetView_forEach (State.jetView_cancelOutside _) _ _).trans
    (jetView_ite rfl (jetView_forEach (State.jetView_joinQueue stopped) _ s))

theorem State.jetView_stageDestage (m : Nat) (s : State) : (s.stageDestage m).jetView = s.jetView := by
  unfold State.stageDestage
  repeat' split
  all_goals rfl

theorem State.jetView_stageSpeeds (m : Nat) (s : State) : (s.stageSpeeds m).jetView = s.jetView :=
  jetView_forEach (f := fun n u => u.modifyPump n _) (fun _ _ => rfl) _ s

theorem State.jetView_stage (stopped : List Nat) (m : Nat) (s : State) : (s.stage stopped m).jetView = s.jetView :=
  (State.jetView_stageSpeeds ..).trans
    ((jetView_ite rfl (State.jetView_stageDestage ..)).trans (State.jetView_stageQueue stopped m (s.stageTargets m)))

theorem State.jetView_grant (s : State) : s.grant.jetView = s.jetView := by
  unfold State.grant
  split <;> rfl

theorem State.jetView_updateStaged (s : State) : s.updateStaged.jetView = s.jetView :=
  (jetView_forEach (State.jetView_stage _) _ _).trans
    ((State.jetView_suspension _).trans (jetView_forEach State.jetView_examine _ s.samplePumps))

theorem State.jetView_publish (s : State) : s.publish.jetView = s.jetView := rfl

theorem State.jetView_takePumps (s : State) : s.takePumps.jetView = s.jetView := by
  refine jetView_ite ?_ rfl
  rw [State.jetView_modifyDue (f := fun d => { d with pump := false }) fun _ => rfl, State.pumpUpdate,
    State.jetView_publish, State.jetView_grant, State.jetView_updateStaged]

theorem State.jetView_takePumpsIf (makes : Bool) (s : State) : (s.takePumpsIf makes).jetView = s.jetView :=
  jetView_ite s.jetView_takePumps rfl

theorem State.jetView_lockOut (n : Nat) (s : State) : (s.lockOut n).jetView = s.jetView := by
  unfold State.lockOut
  split <;> rfl

/-! ### The site -/

theorem State.jetView_stopZones (k : Nat) (s : State) : (s.stopZones k).jetView = s.jetView :=
  (State.jetView_raiseIf ..).trans (jetView_forEach (f := fun z u => u.modifyZone z _) (fun _ _ => rfl) _ s)

theorem State.jetView_takePresence (k : Nat) (s : State) : (s.takePresence k).jetView = s.jetView :=
  jetView_ite rfl (jetView_ite (State.jetView_stopZones k _) rfl)

theorem State.jetView_setZone (p : ZoneSetParams) (s : State) : (s.setZone p).jetView = s.jetView := by
  have hzone (b : Bool) (c : ZoneConfig) :
      ((s.modifyZone p.zone.toNat (Zone.configure c)).raiseIf b .windState).jetView = s.jetView :=
    State.jetView_raiseIf ..
  unfold State.setZone
  dsimp only
  split
  · exact jetView_ite ((State.jetView_stopZones ..).trans (hzone _ _)) (hzone _ _)
  · exact hzone _ _

theorem State.jetView_takeWind (s : State) : s.takeWind.jetView = s.jetView :=
  jetView_ite (State.jetView_raiseIf ..) rfl

/-! ### The decks and the clips -/

theorem State.DeckChange.jetView {d : Nat} {s t : State} (h : s.DeckChange d t) : t.jetView = s.jetView := by
  obtain ⟨_, _, _, _, rfl⟩ := h.outside
  rfl

theorem State.jetView_takeDeckPeriod (s : State) : s.takeDeckPeriod.jetView = s.jetView := by
  have hdecks (u : State) : (forEach [0, 1] State.processDeck u).jetView = u.jetView :=
    jetView_forEach (fun d s => (s.deckChange_processDeck d).jetView) _ u
  rcases s.takeDeckPeriod_eq with ⟨-, h⟩ | ⟨-, -, h⟩ | ⟨-, -, h⟩ <;> rw [h]
  · exact s.jetView_takeShowEnds
  · rw [State.jetView_modifyDue (f := fun d => { d with decksDone := true }) fun _ => rfl, hdecks, s.jetView_takeShowEnds]

theorem State.jetView_takeDeckStop (d : Nat) (s : State) : (s.takeDeckStop d).jetView = s.jetView :=
  (s.deckChange_takeDeckStop d).jetView

theorem State.jetView_stopDeckBy (d ramp : Nat) (s : State) : (s.stopDeckBy d ramp).jetView = s.jetView := by
  have hends : (s.endDeckNow d).jetView = s.jetView := (s.deckChange_endDeckNow d).jetView
  unfold State.stopDeckBy
  dsimp only
  split
  · rfl
  · exact s.jetView_emptyDeck d
  · exact s.jetView_emptyDeck d
  · exact jetView_ite hends rfl
  · exact jetView_ite hends rfl

theorem jetView_handleClipRetire (h : Half) (s : State) : (handleClipRetire h s).1.jetView = s.jetView := by
  unfold handleClipRetire
  split
  · rfl
  · split <;> rfl

theorem jetView_handleClipQuery (h : Half) (s : State) : (handleClipQuery h s).1.jetView = s.jetView := by
  unfold handleClipQuery
  split
  · rfl
  · split <;> rfl

theorem State.jetView_judgeBlock (transfer : List Byte) (s : State) : (s.judgeBlock transfer).jetView = s.jetView := by
  have haccept (i : Nat) (c : Clip) (page : Nat) (data : List Byte) : (s.acceptBlock i c page data).jetView = s.jetView :=
    State.jetView_raiseIf ..
  unfold State.judgeBlock
  split
  · rfl
  split
  · rfl
  split
  · rfl
  · exact jetView_ite rfl (jetView_ite rfl (jetView_ite rfl (haccept ..)))

theorem State.jetView_clipPacket (packet : List Byte) (s : State) : (s.clipPacket packet).jetView = s.jetView :=
  jetView_ite (jetView_ite (State.jetView_judgeBlock ..) rfl) rfl

/-! ### The link and the store -/

theorem State.jetView_pollReply (accepted : Bool) (s : State) : (s.pollReply accepted).jetView = s.jetView := by
  unfold State.pollReply
  split
  · split <;> rfl
  · rfl

theorem State.jetView_pollNotice (accepted : Bool) (s : State) : (s.pollNotice accepted).jetView = s.jetView := by
  unfold State.pollNotice
  refine jetView_ite ?_ rfl
  split
  · rfl
  · exact jetView_ite rfl rfl

theorem State.jetView_takeSave (s : State) : s.takeSave.jetView = s.jetView := jetView_ite rfl rfl

end Sys2Proof.Machine
end

section
/-! PROOF. What moves a valve: a jet frame that is outstanding, and a full reset (R76, R88). -/
namespace Sys2Proof.Machine

/-! ### Commands -/

/-- Every valve of `t` stands where it stands in `s`. -/
def State.SameValves (s t : State) : Prop := ∀ n, (t.nozzle n).live.valve = (s.nozzle n).live.valve

theorem State.SameValves.refl (s : State) : s.SameValves s := fun _ => rfl

/-- What leaves the Nozzle Engine leaves the valves. -/
theorem State.sameValves_of_jetView {s t : State} (h : t.jetView = s.jetView) : s.SameValves t := by
  obtain ⟨hnozzles, -⟩ := Prod.mk.inj h
  intro n
  rw [State.nozzle, hnozzles, State.nozzle]

/-- What `State.valvesOk` says of an entry, one past the end included. -/
theorem State.valvesOk_nozzle {s : State} (h : s.valvesOk) (n : Nat) : (s.nozzle n).valveOk := by
  cases hn : s.nozzles.table[n]? with
  | none =>
    have hblank : s.nozzle n = Nozzle.blank := by simp [State.nozzle, List.getD_eq_getElem?_getD, hn]
    rw [hblank]
    exact ⟨Nat.zero_le _, fun _ => rfl⟩
  | some z =>
    have hentry : s.nozzle n = z := by simp [State.nozzle, List.getD_eq_getElem?_getD, hn]
    rw [hentry]
    exact h z (List.mem_of_getElem? hn)

/-- A nozzle configured keeps its valve; one made absent has it at 0 (R76), where it was. -/
theorem State.sameValves_setNozzle {n : Nat} {c : NozzleConfig} {s : State}
    (hclosed : c.present = false → (s.nozzle n).live.valve = 0) : s.SameValves (s.setNozzle n c) := by
  intro j
  have hmoved := State.sameValves_of_jetView (s.jetView_moveClaims (nozzleClaim n (s.nozzle n).cfg) (nozzleClaim n c)) j
  refine (congrArg (fun z : Nozzle => z.live.valve) (State.nozzle_modifyNozzle ..)).trans ?_
  split
  next hj =>
    obtain ⟨rfl, -⟩ := hj
    cases hpresent : c.present with
    | true => exact hmoved
    | false => exact (hclosed hpresent).symm
  next => exact hmoved

/-- The third check of NOZZLE_SET passes a nozzle made absent only with its valve closed (R75). -/
theorem valve_of_nozzleChecks {p : NozzleSetParams} {s : State} (hv : s.valvesOk)
    (hpass : firstFailure (configChecks s ++ nozzleChecks p s) = none) (habsent : (nozzleAsked p s).present = false) :
    (s.nozzle p.nozzle.toNat).live.valve = 0 := by
  have hno : decide (p.present = 1) = false := by
    by_contra hyes
    rw [Bool.not_eq_false] at hyes
    rw [nozzleAsked, if_pos hyes] at habsent
    cases habsent
  have hbusy := firstFailure_eq_none.1 hpass (_, .busy)
    (List.mem_append_right _ (List.mem_cons_of_mem _ (List.mem_cons_of_mem _ List.mem_cons_self)))
  cases hold : (s.nozzle p.nozzle.toNat).cfg.present with
  | false =>
    obtain ⟨-, hzero⟩ := State.valvesOk_nozzle hv p.nozzle.toNat
    rw [hzero hold]
    rfl
  | true =>
    rw [hold, hno] at hbusy
    simpa using hbusy

theorem sameValves_handleNozzleSet (p : NozzleSetParams) {s : State} (hv : s.valvesOk) :
    s.SameValves (handleNozzleSet p s).1 := by
  rw [handleNozzleSet_eq]
  cases hchecks : firstFailure (configChecks s ++ nozzleChecks p s) with
  | some c =>
    rw [checked_of_some _ _ hchecks]
    exact .refl s
  | none =>
    rw [checked_of_none _ _ hchecks]
    exact State.sameValves_setNozzle (valve_of_nozzleChecks hv hchecks)

/-- Every other command leaves the Nozzle Engine. -/
theorem jetView_handlerOf {c : Instr} {h : Handler} (hc : handlerOf c = some h) (hset : ∀ p, c ≠ .nozzleSet p) (s : State) :
    (h s).1.jetView = s.jetView := by
  cases c <;> cases hc
  case nozzleSet p => exact absurd rfl (hset p)
  case showEnd => exact jetView_checked (s.jetView_endShow _)
  case showStop => exact s.jetView_enterStopped
  case effectAdd => exact jetView_handleEffectAdd _ s
  case effectEdit => exact jetView_handleEffectEdit _ _ _ _ _ s
  case effectRetire => exact jetView_handleEffectRetire _ _ s
  case effectQuery => exact jetView_handleEffectQuery _ s
  case groupDefine => exact jetView_handleGroupDefine _ _ _ s
  case pumpLockout => exact jetView_checked (s.jetView_lockOut _)
  case zoneSet => exact jetView_checked (s.jetView_setZone _)
  case zoneRelease =>
    exact jetView_checked (jetView_forEach (f := fun z u => u.modifyZone z _) (fun _ _ => rfl) _ s)
  case fixtureSet => exact jetView_checked (s.jetView_setFixture ..)
  case clipRetire => exact jetView_handleClipRetire _ s
  case clipQuery => exact jetView_handleClipQuery _ s
  case deckCue => exact jetView_checked (s.jetView_releaseHeld _)
  case deckStop => exact jetView_checked (s.jetView_stopDeckBy ..)
  case deckQuery => exact jetView_checked s.jetView_takeEnvelope
  case audioSet => exact s.jetView_takeEnvelope
  case showQuery | linkQuery | storeQuery | lightMaster => rfl
  all_goals exact jetView_checked rfl

/-- No command moves a valve. -/
theorem sameValves_handlerOf {c : Instr} {h : Handler} (hc : handlerOf c = some h) {s : State} (hv : s.valvesOk) :
    s.SameValves (h s).1 := by
  by_cases hset : ∃ p, c = .nozzleSet p
  · obtain ⟨p, rfl⟩ := hset
    cases hc
    exact sameValves_handleNozzleSet p hv
  · exact State.sameValves_of_jetView (jetView_handlerOf hc (fun p hp => hset ⟨p, hp⟩) s)

/-- A transfer moves no valve, whatever it carries (R192). -/
theorem sameValves_handlerOfTransfer (transfer : List Byte) {s : State} (hv : s.valvesOk) :
    s.SameValves (handlerOfTransfer transfer s).1 := by
  unfold handlerOfTransfer
  cases frameTransfer transfer with
  | command c =>
    cases hc : handlerOf c with
    | none => simpa [hc, refuse] using State.SameValves.refl s
    | some h => simpa [hc] using sameValves_handlerOf hc hv
  | unknownCommand => exact .refl s
  | badLength => exact .refl s

/-- A command message moves no valve. -/
theorem sameValves_takeCommand {c : Instr} {h : Handler} (hc : handlerOf c = some h) {s : State} (hv : s.valvesOk) :
    s.SameValves (takeCommand h s) := by
  unfold takeCommand
  split
  · exact sameValves_handlerOf hc (s := s.transferTaken) hv
  · exact .refl s

theorem sameValves_commandPacket (packet : List Byte) {s t : State} (hv : s.valvesOk)
    (h : exec (.commandPacket packet) s = .next t) : s.SameValves t := by
  rcases execCommandPacket_eq packet s with ⟨-, heq⟩ | ⟨-, -, heq⟩ | ⟨-, -, heq⟩ <;>
    obtain rfl := Host.Outcome.next.inj (heq.symm.trans h)
  · exact .refl s
  · exact .refl s
  · exact sameValves_handlerOfTransfer _ (s := s.transferTaken) hv

/-! ### Events -/

theorem jetView_malformedCommand (transfer : List Byte) {s t : State} (h : exec (.malformedCommand transfer) s = .next t) :
    t.jetView = s.jetView := by
  cases h
  split
  · exact jetView_ite rfl rfl
  · rfl

/-- Every event but the frame itself, the sample period, a packet of a command and a full reset leaves the Nozzle Engine. -/
theorem jetView_event {c : Instr} {s t : State} (hc : handlerOf c = none) (hreset : c ≠ .fullReset) (hjet : c ≠ .jetFrame)
    (hperiod : ∀ i, c ≠ .samplePeriod i) (hpacket : ∀ packet, c ≠ .commandPacket packet) (h : exec c s = .next t) :
    t.jetView = s.jetView := by
  cases c <;> cases hc
  case fullReset => exact absurd rfl hreset
  case jetFrame => exact absurd rfl hjet
  case samplePeriod i => exact absurd rfl (hperiod i)
  case commandPacket packet => exact absurd rfl (hpacket packet)
  case malformedCommand transfer => exact jetView_malformedCommand transfer h
  all_goals cases h
  case clipBlock ps => exact jetView_forEach State.jetView_clipPacket ps s
  case replyPoll a => exact s.jetView_pollReply a
  case noticePoll a => exact s.jetView_pollNotice a
  case endTimeReached => exact s.jetView_takeEndTime
  case silenceTimerExpiry => exact s.jetView_takeSilence
  case effectBoundary => exact s.jetView_takeEffects
  case pendingEditApplied | effectStartReached | naturalEnd | fadeComplete => exact s.jetView_takeEffectsIf _
  case envelopeUpdate => exact s.jetView_takeEnvelope
  case lightComputation => exact s.jetView_takeLight
  case pumpUpdate => exact s.jetView_takePumps
  case pumpStartTimeout | pumpStopTimeout | destage | startGrant => exact s.jetView_takePumpsIf _
  case windGate => exact s.jetView_takeWind
  case windHoldRelease => exact jetView_ite s.jetView_takeWind rfl
  case presenceDebounced k => exact s.jetView_takePresence k
  case emergencyStopAssertion => exact jetView_ite s.jetView_assertStop rfl
  case levelLow | levelRestored => exact jetView_ite rfl rfl
  case deckPeriod => exact s.jetView_takeDeckPeriod
  case deckBegin => exact jetView_ite s.jetView_takeDeckPeriod rfl
  case deckStopComplete d => exact s.jetView_takeDeckStop d
  case saveCompletion => exact s.jetView_takeSave
  case linkAttach | linkReset | lineGapEnd => rfl

/-! ### The frame and the sample period -/

/-- From `s` to `t` the valve of nozzle `n` has moved by no more than its slew, and not without an outstanding frame. -/
structure State.ValveSlews (s t : State) (n : Nat) : Prop where
  up : (t.nozzle n).live.valve ≤ (s.nozzle n).live.valve + (s.nozzle n).cfg.slew
  down : (s.nozzle n).live.valve ≤ (t.nozzle n).live.valve + (s.nozzle n).cfg.slew
  idle : s.due.jet = false → (t.nozzle n).live.valve = (s.nozzle n).live.valve

theorem State.SameValves.slews {s t : State} (h : s.SameValves t) (n : Nat) : s.ValveSlews t n :=
  ⟨by rw [h n]; exact Nat.le_add_right .., by rw [h n]; exact Nat.le_add_right .., fun _ => h n⟩

/-- The slewed position lies within the slew of the old one (R87). -/
theorem slewed_within (v target slew : Nat) : slewed v target slew ≤ v + slew ∧ v ≤ slewed v target slew + slew := by
  unfold slewed
  split
  · omega
  · split <;> omega

/-- A jet frame slews each valve (R87, R88). -/
theorem State.takeJet_slews (s : State) (n : Nat) : s.ValveSlews s.takeJet n := by
  cases hjet : s.due.jet with
  | false =>
    rw [State.takeJet_idle hjet]
    exact (State.SameValves.refl s).slews n
  | true =>
    have hvalve := congrArg (fun z : Nozzle => z.live.valve) (State.nozzle_takeJet hjet n)
    cases hpresent : (s.nozzle n).cfg.present with
    | false =>
      rw [State.framed_of_absent hpresent] at hvalve
      exact ⟨by omega, by omega, fun _ => hvalve⟩
    | true =>
      rw [State.framed_of_present hpresent] at hvalve
      obtain ⟨hup, hdown⟩ := slewed_within (s.nozzle n).live.valve _ (s.nozzle n).cfg.slew
      exact ⟨hvalve ▸ hup, hvalve ▸ hdown, fun hidle => by rw [hjet] at hidle; cases hidle⟩

/-- What is settled before the frame. -/
def State.settledToJet (s : State) : State :=
  let s := forEach (List.range 8) State.takePresence (forEach (List.range 4) State.takeGapEnd s).takeEnvelope
  s.takeStop.takeLevelLow.takeLevelRestored.takeSilence.takeEndTime.takeEffects.takeWind.takePumps

theorem State.settle_eq (s : State) : s.settle = s.settledToJet.takeJet.takeLight.takeSave := rfl

theorem State.jetView_settledToJet (s : State) : s.settledToJet.jetView = s.jetView := by
  have hlow (u : State) : u.takeLevelLow.jetView = u.jetView := jetView_ite rfl rfl
  have hrestored (u : State) : u.takeLevelRestored.jetView = u.jetView := jetView_ite rfl rfl
  unfold State.settledToJet
  dsimp only
  rw [State.jetView_takePumps, State.jetView_takeWind, State.jetView_takeEffects, State.jetView_takeEndTime,
    State.jetView_takeSilence, hrestored, hlow, State.jetView_takeStop, jetView_forEach State.jetView_takePresence,
    State.jetView_takeEnvelope, jetView_forEach State.jetView_takeGapEnd]

/-- The counts of a sample period leave the nozzle table. -/
theorem State.nozzle_samplePeriod (i : Inputs) (s : State) (n : Nat) :
    (s.samplePeriod i).nozzle n = s.settledToJet.takeJet.nozzle n := by
  have hsettled : (forEach [0, 1] State.takeDeckStop s.settle.takeDeckPeriod.mix).jetView =
      s.settledToJet.takeJet.jetView := by
    have hmix (u : State) : u.mix.jetView = u.jetView := rfl
    rw [jetView_forEach State.jetView_takeDeckStop, hmix, State.jetView_takeDeckPeriod, State.settle_eq,
      State.jetView_takeSave, State.jetView_takeLight]
  obtain ⟨hnozzles, -⟩ := Prod.mk.inj hsettled
  unfold State.samplePeriod
  dsimp only
  generalize forEach [0, 1] State.takeDeckStop s.settle.takeDeckPeriod.mix = u at hnozzles ⊢
  show u.nozzles.table.getD n Nozzle.blank = _
  rw [hnozzles]
  rfl

theorem State.samplePeriod_slews (i : Inputs) (s : State) (n : Nat) : s.ValveSlews (s.samplePeriod i) n := by
  obtain ⟨hnozzles, hdue⟩ := Prod.mk.inj s.jetView_settledToJet
  have hnozzle : s.settledToJet.nozzle n = s.nozzle n := by rw [State.nozzle, hnozzles, State.nozzle]
  obtain ⟨hup, hdown, hidle⟩ := s.settledToJet.takeJet_slews n
  rw [hnozzle, ← State.nozzle_samplePeriod i] at hup hdown hidle
  rw [hdue] at hidle
  exact ⟨hup, hdown, hidle⟩

/-- A full reset closes every valve (R74). -/
theorem startUp_valve (store : ConfigStore) (n : Nat) : ((startUp store).nozzle n).live.valve = 0 := by
  simp only [State.nozzle, startUp, List.getD_eq_getElem?_getD, List.getElem?_map]
  cases store.loaded.nozzles[n]? <;> rfl

/-- What every command makes of a valve, a full reset aside. -/
theorem exec_valve {c : Instr} {s t : State} (hv : s.valvesOk) (hreset : c ≠ .fullReset) (h : exec c s = .next t) (n : Nat) :
    s.ValveSlews t n
      ∧ (c ≠ .jetFrame → (∀ i, c ≠ .samplePeriod i) → (t.nozzle n).live.valve = (s.nozzle n).live.valve) := by
  by_cases hjet : c = .jetFrame
  · subst hjet
    cases h
    exact ⟨s.takeJet_slews n, fun hne => absurd rfl hne⟩
  by_cases hperiod : ∃ i, c = .samplePeriod i
  · obtain ⟨i, rfl⟩ := hperiod
    have hperiod : s.samplePeriod i = t := Host.Outcome.next.inj h
    subst hperiod
    exact ⟨s.samplePeriod_slews i n, fun _ hne => absurd rfl (hne i)⟩
  have hsame : s.SameValves t := by
    cases hc : handlerOf c with
    | some handler =>
      obtain rfl := Host.Outcome.next.inj ((exec_of_handlerOf hc s).symm.trans h)
      exact sameValves_takeCommand hc hv
    | none =>
      by_cases hpacket : ∃ packet, c = .commandPacket packet
      · obtain ⟨packet, rfl⟩ := hpacket
        exact sameValves_commandPacket packet hv h
      · exact State.sameValves_of_jetView (jetView_event hc hreset hjet (fun i hi => hperiod ⟨i, hi⟩)
          (fun packet hp => hpacket ⟨packet, hp⟩) h)
  exact ⟨hsame.slews n, fun _ _ => hsame n⟩

/-- Settles O26: a valve moves in a frame alone, where it is slewed. -/
theorem valveWithinSlew : Obligations.ValveWithinSlew := by
  unfold Obligations.ValveWithinSlew
  intro c s t _ hv h n _
  refine ⟨fun hc => ?reset, fun hc => ?moves⟩
  case reset =>
    subst hc
    cases h
    exact startUp_valve s.store n
  case moves =>
    obtain ⟨u, hu, hkeeps⟩ := exec_keepsAll c s
    obtain rfl := Host.Outcome.next.inj (hu.symm.trans h)
    obtain ⟨hle, -⟩ := State.valvesOk_nozzle (hkeeps.valves hv) n
    obtain ⟨⟨hup, hdown, hidle⟩, hother⟩ := exec_valve hv hc h n
    refine ⟨hle, hup, hdown, fun hstill => ?_, fun hmoved => ?_⟩
    · rcases hstill with hdue | ⟨hjet, hperiod⟩
      · exact hidle hdue
      · exact hother hjet hperiod
    · exact Bool.of_not_eq_false fun hdue => hmoved (hidle hdue)

end Sys2Proof.Machine
end

section
/-! PROOF. The signals the part drives (R104, R161, R162, R187). -/
namespace Sys2Proof.Machine

/-! ### Pumps (R104) -/

theorem State.runOutput_iff {s : State} {n : Nat} :
    s.runOutput n = true ↔ (s.pump n).state = .starting ∨ (s.pump n).state = .running := by
  simp [State.runOutput, Pump.runOutput]

/-! ### Slot lines (R161, R162) -/

/-- A line is at mark once the last stop bit of its frame is out. -/
theorem Line.levelAt_after {l : Line} {bit : Nat} (h : 12 * (l.run.slots + 1) ≤ bit) : l.levelAt bit = true := by
  rw [Line.levelAt, if_neg (Nat.not_lt.2 h)]

/-- Within the frame a line shows the bit of the character that is out (Table 8-3). -/
theorem Line.levelAt_within {l : Line} {bit : Nat} (h : bit < 12 * (l.run.slots + 1)) :
    l.levelAt bit = (l.character (bit / 12)).level (bit % 12) := by
  rw [Line.levelAt, if_pos h]

theorem Line.character_value (l : Line) (k : Nat) :
    (l.character k).value = if k = 0 then l.address else l.front.getD (k - 1) 0 := by
  unfold Line.character
  split <;> rfl

theorem Line.character_kind (l : Line) (k : Nat) : (l.character k).kind = decide (k = 0) := by
  unfold Line.character
  split
  next h => simp [h]
  next h => simp [h]

theorem Character.level_start (c : Character) : c.level 0 = false := rfl

theorem Character.level_value (c : Character) {bit : Nat} (h1 : 1 ≤ bit) (h8 : bit ≤ 8) :
    c.level bit = c.value.getLsbD (bit - 1) := by
  rw [Character.level, if_neg (by omega), if_pos h8]

theorem Character.level_kind (c : Character) : c.level 9 = c.kind := rfl

theorem Character.level_stop (c : Character) {bit : Nat} (h : 10 ≤ bit) : c.level bit = true := by
  rw [Character.level, if_neg (by omega), if_neg (by omega), if_neg (by omega)]

theorem Line.output_of_sending {l : Line} (h : l.sending = true) :
    l.output = l.levelAt (l.clocks / (16 * (l.run.divider + 1))) := by
  rw [Line.output, if_pos h]
  rfl

/-! ### The audio output (R187) -/

theorem channelBits_length (sample : Int) : (channelBits sample).length = 32 := by simp [channelBits]

/-- A bit of a number in two's complement, by division: what the width cuts off is a multiple of twice the bit's weight. -/
theorem getLsbD_ofInt {w k : Nat} (x : Int) (hk : k < w) :
    (BitVec.ofInt w x).getLsbD k = decide (x / 2 ^ k % 2 = 1) := by
  obtain ⟨d, rfl⟩ := Nat.exists_eq_add_of_lt hk
  have hpos : (0 : Int) < 2 ^ k := by positivity
  have hpow : (2 : Int) ^ (k + d + 1) = 2 ^ k * (2 * 2 ^ d) := by ring
  have hdiv : x / 2 ^ k % 2 = x % 2 ^ (k + d + 1) / 2 ^ k % 2 := by
    conv_lhs => rw [← Int.emod_add_mul_ediv x (2 ^ (k + d + 1)), hpow, mul_assoc, mul_assoc,
      Int.add_mul_ediv_left _ _ hpos.ne', Int.add_mul_emod_self_left]
    rw [hpow]
  have hnat : (((x % 2 ^ (k + d + 1)).toNat / 2 ^ k % 2 : Nat) : Int) = x / 2 ^ k % 2 := by
    rw [hdiv]
    push_cast
    rw [Int.toNat_of_nonneg (Int.emod_nonneg x (by positivity))]
  rw [BitVec.getLsbD, BitVec.toNat_ofInt, Nat.testBit_eq_decide_div_mod_eq]
  refine decide_eq_decide.2 ?_
  push_cast
  omega

theorem channelBits_sample (sample : Int) {i : Nat} (h : i < 24) :
    (channelBits sample)[i]? = some (decide (sample / 2 ^ (23 - i) % 2 = 1)) := by
  have hlen : i < ((List.range 24).map fun i => (BitVec.ofInt 24 sample).getMsbD i).length := by simpa using h
  rw [channelBits, List.getElem?_append_left hlen, List.getElem?_map, List.getElem?_range h, Option.map_some,
    BitVec.getMsbD_eq_getLsbD, decide_eq_true h, Bool.true_and]
  exact congrArg some (getLsbD_ofInt sample (by omega))

theorem channelBits_zeros (sample : Int) {i : Nat} (h : 24 ≤ i) (h' : i < 32) :
    (channelBits sample)[i]? = some false := by
  rw [channelBits, List.getElem?_append_right (by simpa using h), List.getElem?_replicate]
  simp
  omega

theorem State.audioBits_left (s : State) {i : Nat} (h : i < 32) :
    s.audioBits[i]? = (channelBits s.decks.out.left)[i]? :=
  List.getElem?_append_left (by rwa [channelBits_length])

theorem State.audioBits_right (s : State) (i : Nat) :
    s.audioBits[32 + i]? = (channelBits s.decks.out.right)[i]? := by
  rw [State.audioBits, List.getElem?_append_right (by rw [channelBits_length]; omega), channelBits_length,
    Nat.add_sub_cancel_left]

/-- Settles O53: pump by pump, bit time by bit time of a line, and bit by bit of an audio word. -/
theorem drivenSignals : Obligations.DrivenSignals := by
  unfold Obligations.DrivenSignals
  refine ⟨fun s n => ⟨State.runOutput_iff, rfl⟩, fun l => ⟨fun h => ?off, fun h hgap => ?gap, fun h hin => ?frame⟩,
    fun s i => ⟨?length, fun h => ?sample, fun h h' => ?zeros⟩⟩
  case off => rw [Line.output, h]; rfl
  case gap => rw [Line.output_of_sending h, Line.levelAt_after hgap]
  case frame =>
    have hlevel := (Line.output_of_sending h).trans (Line.levelAt_within hin)
    rw [hlevel, ← Line.character_value, ← Line.character_kind]
    refine ⟨fun h0 => ?_, fun h1 h8 => ?_, fun h9 => ?_, fun h10 => ?_⟩
    · rw [h0, Character.level_start]
    · rw [Character.level_value _ h1 h8]
    · rw [h9, Character.level_kind]
    · exact Character.level_stop _ h10
  case length => simp [State.audioBits, channelBits_length]
  case sample =>
    rw [s.audioBits_left (by omega), s.audioBits_right]
    exact ⟨channelBits_sample _ h, channelBits_sample _ h⟩
  case zeros =>
    rw [s.audioBits_left h', s.audioBits_right]
    exact ⟨channelBits_zeros _ h h', channelBits_zeros _ h h'⟩

end Sys2Proof.Machine
end

section
/-! PROOF. PUMP_LOCKOUT, PUMP_RELEASE and PUMP_CLEAR (R121 to R123), and PUMP_SET (R102). -/
namespace Sys2Proof.Machine

/-! ### One pump changed -/

/-- The pump read is the pump listed. -/
theorem State.pump_of_getElem? {s : State} {n : Nat} {p : Pump} (h : s.pumps.table[n]? = some p) : s.pump n = p := by
  simp [State.pump, List.getD_eq_getElem?_getD, h]

/-- Two changes that agree on the pump as it stands. -/
theorem State.modifyPump_congr {n : Nat} {f g : Pump → Pump} {s : State} (h : f (s.pump n) = g (s.pump n)) :
    s.modifyPump n f = s.modifyPump n g := by
  have htable : s.pumps.table.modify n f = s.pumps.table.modify n g :=
    modify_congr_of_entry fun p hp => by rwa [State.pump_of_getElem? hp] at h
  simp only [State.modifyPump, htable]

/-- A pump of the table, changed and read back. -/
theorem State.pump_modifyPump_same {n : Nat} {s : State} (h : n < s.pumps.table.length) (f : Pump → Pump) :
    (s.modifyPump n f).pump n = f (s.pump n) := by
  rw [State.pump_modifyPump, if_pos ⟨rfl, h⟩]

/-- What a pump reads on entry into a state in which it stands still (R104). -/
theorem Pump.enter_resting {st : PumpState} (hstarting : st ≠ .starting) (hrunning : st ≠ .running) (p : Pump) :
    p.enter st = { p with state := st, command := 0, target := 0, timer := 0 } := by
  rw [Pump.enter, if_neg hstarting, if_neg hrunning]

/-- Pump `n` standing still in a state, with a fault cause; PUMP_STATE is raised (R104, R111). -/
def State.restPump (n : Nat) (st : PumpState) (c : FaultCause) (s : State) : State :=
  (s.modifyPump n fun x => { x with state := st, command := 0, target := 0, timer := 0, cause := c }).raise .pumpState

theorem State.changePump_enter_eq_restPump {st : PumpState} (hstarting : st ≠ .starting) (hrunning : st ≠ .running)
    (n : Nat) (s : State) : s.changePump n (Pump.enter st) = s.restPump n st (s.pump n).cause := by
  have hcongr := State.modifyPump_congr (n := n) (f := Pump.enter st) (s := s)
    (g := fun x => { x with state := st, command := 0, target := 0, timer := 0, cause := (s.pump n).cause })
    (by rw [Pump.enter_resting hstarting hrunning])
  rw [State.changePump, hcongr, State.restPump]

theorem State.changePump_clear_eq_restPump {st : PumpState} (hstarting : st ≠ .starting) (hrunning : st ≠ .running)
    (n : Nat) (s : State) :
    (s.changePump n fun p => { p.enter st with cause := .none }) = s.restPump n st .none := by
  simp only [State.changePump, State.restPump, Pump.enter_resting hstarting hrunning]

/-- The reply after a pump has come to stand still: its new state and its mark. -/
theorem pumpStateReport_restPump {n : Nat} {s : State} (h : n < s.pumps.table.length) (st : PumpState) (c : FaultCause) :
    pumpStateReport n (s.restPump n st c) = put1 st.code ++ putFlag (s.pump n).mark := by
  have hpump := State.pump_modifyPump_same h fun x : Pump =>
    { x with state := st, command := 0, target := 0, timer := 0, cause := c }
  have hread : (s.restPump n st c).pump n = _ := hpump
  rw [pumpStateReport, hread]

/-! ### PUMP_LOCKOUT, PUMP_RELEASE and PUMP_CLEAR -/

/-- A lockout of pump `b`, on a ready link. -/
theorem exec_pumpLockout {b : Byte} {s : State} (hs : s.ready) : exec (.pumpLockout b) s = .next (if 15 < b.toNat then
    s.answered .badParam []
    else (s.lockOut b.toNat).answered .ok (pumpStateReport b.toNat (s.lockOut b.toNat))) := by
  refine congrArg Host.Outcome.next ((takeCommand_checked (failed := fun _ => decide (15 < b.toNat)) hs).trans ?_)
  rw [takeCommand_accept hs]
  have htaken : s.transferTaken.lockOut b.toNat = (s.lockOut b.toNat).transferTaken := by
    have hpump : s.transferTaken.pump b.toNat = s.pump b.toNat := rfl
    unfold State.lockOut
    rw [hpump]
    cases (s.pump b.toNat).state <;> rfl
  simp only [htaken, decide_eq_true_eq]
  rfl

/-! What a lockout makes of a pump, by its state (R121) -/

theorem State.lockOut_idle {n : Nat} {s : State} (h : (s.pump n).state = .idle) :
    s.lockOut n = s.restPump n .lockedOut (s.pump n).cause := by
  rw [← State.changePump_enter_eq_restPump (by decide) (by decide)]
  simp only [State.lockOut, h]

theorem State.lockOut_queued {n : Nat} {s : State} (h : (s.pump n).state = .queued) :
    s.lockOut n = (s.unqueue n).restPump n .lockedOut (s.pump n).cause := by
  have heffect := State.changePump_enter_eq_restPump (st := .lockedOut) (by decide) (by decide) n (s.unqueue n)
  simp only [State.lockOut, h, heffect]
  rfl

theorem State.lockOut_mark {n : Nat} {s : State}
    (h : (s.pump n).state = .starting ∨ (s.pump n).state = .running ∨ (s.pump n).state = .stopping) :
    s.lockOut n = s.modifyPump n fun x => { x with mark := true } := by
  rcases h with h | h | h <;> simp only [State.lockOut, h]

theorem State.lockOut_fault {n : Nat} {s : State} (h : (s.pump n).state = .fault) :
    s.lockOut n = s.restPump n .lockedOut .none := by
  rw [← State.changePump_clear_eq_restPump (by decide) (by decide)]
  simp only [State.lockOut, h]

theorem State.lockOut_lockedOut {n : Nat} {s : State} (h : (s.pump n).state = .lockedOut) : s.lockOut n = s := by
  simp only [State.lockOut, h]

/-- The checks of PUMP_RELEASE (R122). -/
def releaseChecks (n : Nat) (s : State) : List (Bool × ResultCode) :=
  [(decide (15 < n), .badParam), (decide ((s.pump n).state ≠ .lockedOut) || !(s.pump n).cfg.present, .wrongState),
   (s.channelActive n, .notReleasable)]

/-- The checks of PUMP_CLEAR (R123). -/
def clearChecks (n : Nat) (s : State) : List (Bool × ResultCode) :=
  [(decide (15 < n), .badParam), (decide ((s.pump n).state ≠ .fault), .wrongState), (s.channelActive n, .notReleasable)]

/-- A command of which a check fails does nothing but answer; one that passes them all is carried out. -/
theorem takeCommand_checks {checks : State → List (Bool × ResultCode)} {f : State → State} {payload : State → List Byte}
    {s : State} (hs : s.ready) (hchecks : checks s.transferTaken = checks s)
    (htaken : f s.transferTaken = (f s).transferTaken) (hpayload : payload (f s).transferTaken = payload (f s)) :
    takeCommand (fun s => checked (checks s) (accept f payload) s) s =
      match firstFailure (checks s) with
      | some c => s.answered c []
      | none => (f s).answered .ok (payload (f s)) := by
  rw [takeCommand_of_ready hs, hchecks]
  cases h : firstFailure (checks s) with
  | some c => rw [checked_of_some _ _ h]; rfl
  | none =>
    rw [checked_of_none _ _ h]
    simp only [accept, htaken, hpayload]
    rfl

theorem exec_pumpRelease {b : Byte} {s : State} (hs : s.ready) : exec (.pumpRelease b) s = .next (
    match firstFailure (releaseChecks b.toNat s) with
    | some c => s.answered c []
    | none => (s.restPump b.toNat .idle (s.pump b.toNat).cause).answered .ok
        (pumpStateReport b.toNat (s.restPump b.toNat .idle (s.pump b.toNat).cause))) := by
  have heffect := State.changePump_enter_eq_restPump (st := .idle) (by decide) (by decide) b.toNat s
  rw [← heffect]
  exact congrArg Host.Outcome.next (takeCommand_checks (checks := releaseChecks b.toNat) hs rfl rfl rfl)

theorem exec_pumpClear {b : Byte} {s : State} (hs : s.ready) : exec (.pumpClear b) s = .next (
    match firstFailure (clearChecks b.toNat s) with
    | some c => s.answered c []
    | none => (s.restPump b.toNat .idle .none).answered .ok
        (pumpStateReport b.toNat (s.restPump b.toNat .idle .none))) := by
  have heffect := State.changePump_clear_eq_restPump (st := .idle) (by decide) (by decide) b.toNat s
  rw [← heffect]
  exact congrArg Host.Outcome.next (takeCommand_checks (checks := clearChecks b.toNat) hs rfl rfl rfl)

theorem State.channelActive_iff {s : State} {n : Nat} : s.channelActive n = true ↔
    s.pins.fault.getLsbD n = true ∨ s.pins.feedback.getLsbD n = true := by
  rw [State.channelActive, Bool.or_eq_true]

/-- Settles O32: a lockout by the pump's state; a release and a clear by their checks in order. -/
theorem pumpStateCommands : Obligations.PumpStateCommands := by
  unfold Obligations.PumpStateCommands
  intro b s hs n p active reply into
  refine ⟨fun hn => ?absent, fun hn hsized => ?present⟩
  case absent =>
    have hrange : decide (15 < n) = true := decide_eq_true hn
    rw [exec_pumpLockout hs, exec_pumpRelease hs, exec_pumpClear hs, if_pos hn,
      releaseChecks, clearChecks, firstFailure_cons_true hrange, firstFailure_cons_true hrange]
    exact ⟨rfl, rfl, rfl⟩
  case present =>
    obtain ⟨-, -, -, -, -, htable, -⟩ := hsized
    have hin : n < s.pumps.table.length := by omega
    have hrange : decide (15 < n) = false := decide_eq_false (by omega)
    have hactive : s.channelActive n = true ↔ active := State.channelActive_iff
    have hreply (st : PumpState) (c : FaultCause) : pumpStateReport n (s.restPump n st c) = reply st p.mark :=
      pumpStateReport_restPump hin st c
    have hlock {t : State} {bytes : List Byte} (ht : s.lockOut n = t) (hbytes : pumpStateReport n t = bytes) :
        exec (.pumpLockout b) s = .next (t.answered .ok bytes) := by
      rw [exec_pumpLockout hs, if_neg (Nat.not_lt.2 hn), ht, hbytes]
    have hrelease : firstFailure (releaseChecks n s) = firstFailure
        [(decide (p.state ≠ .lockedOut) || !p.cfg.present, .wrongState), (s.channelActive n, .notReleasable)] :=
      firstFailure_cons_false hrange
    have hclear : firstFailure (clearChecks n s) = firstFailure
        [(decide (p.state ≠ .fault), .wrongState), (s.channelActive n, .notReleasable)] := firstFailure_cons_false hrange
    refine ⟨fun h => ?idle, fun h => ?queued, fun h => ?marked, fun h => ?fault, fun h => ?locked, fun h => ?wrong,
      fun h hpresent ha => ?channel, fun h hpresent ha => ?released, fun h => ?unfaulted, fun h ha => ?faultChannel,
      fun h ha => ?cleared⟩
    case idle => exact hlock (State.lockOut_idle h) (hreply .lockedOut p.cause)
    case queued => exact hlock (State.lockOut_queued h) (pumpStateReport_restPump (s := s.unqueue n) hin ..)
    case marked =>
      refine hlock (State.lockOut_mark h) ?_
      rw [pumpStateReport, State.pump_modifyPump_same hin]
    case fault => exact hlock (State.lockOut_fault h) (hreply .lockedOut .none)
    case locked =>
      refine hlock (State.lockOut_lockedOut h) ?_
      rw [pumpStateReport, h]
    case wrong =>
      have hfails : (decide (p.state ≠ .lockedOut) || !p.cfg.present) = true := by simpa using h
      rw [exec_pumpRelease hs, hrelease, firstFailure_cons_true hfails]
    case channel =>
      have hpasses : (decide (p.state ≠ .lockedOut) || !p.cfg.present) = false := by simp [h, hpresent]
      rw [exec_pumpRelease hs, hrelease, firstFailure_cons_false hpasses, firstFailure_cons_true (hactive.2 ha)]
    case released =>
      have hpasses : (decide (p.state ≠ .lockedOut) || !p.cfg.present) = false := by simp [h, hpresent]
      rw [exec_pumpRelease hs, hrelease, firstFailure_cons_false hpasses,
        firstFailure_cons_false (Bool.eq_false_iff.2 fun hc => ha (hactive.1 hc))]
      exact congrArg (fun bytes => Host.Outcome.next ((s.restPump n .idle p.cause).answered .ok bytes)) (hreply ..)
    case unfaulted =>
      rw [exec_pumpClear hs, hclear, firstFailure_cons_true (decide_eq_true h)]
    case faultChannel =>
      have hpasses : decide (p.state ≠ .fault) = false := by simp [h]
      rw [exec_pumpClear hs, hclear, firstFailure_cons_false hpasses, firstFailure_cons_true (hactive.2 ha)]
    case cleared =>
      have hpasses : decide (p.state ≠ .fault) = false := by simp [h]
      rw [exec_pumpClear hs, hclear, firstFailure_cons_false hpasses,
        firstFailure_cons_false (Bool.eq_false_iff.2 fun hc => ha (hactive.1 hc))]
      exact congrArg (fun bytes => Host.Outcome.next ((s.restPump n .idle .none).answered .ok bytes)) (hreply ..)

/-! ### PUMP_SET (R102) -/

theorem pumpFieldsBad_iff {p : PumpSetParams} : pumpFieldsBad p = true ↔
    7 < p.manifold.toNat ∨ 15 < p.rank.toNat ∨ p.rated.toNat = 0 ∨ 20000 < p.rated.toNat ∨ p.minSpeed.toNat < 100
      ∨ 900 < p.minSpeed.toNat ∨ p.ramp.toNat < 10 ∨ 1000 < p.ramp.toNat ∨ p.startTimeout.toNat < 500
      ∨ 30000 < p.startTimeout.toNat ∨ p.stopTimeout.toNat < 500 ∨ 60000 < p.stopTimeout.toNat := by
  simp [pumpFieldsBad, or_assoc]

theorem State.rankTaken_iff {s : State} {n m rank : Nat} : s.rankTaken n m rank = true ↔
    ∃ k < 16, k ≠ n ∧ (s.pump k).cfg.present = true ∧ (s.pump k).cfg.manifold = m ∧ (s.pump k).cfg.rank = rank := by
  simp [State.rankTaken, and_assoc]

/-- The checks of a PUMP_SET after those of the show and the save (R102). -/
def pumpSetChecks (p : PumpSetParams) (s : State) : List (Bool × ResultCode) :=
  [(decide (15 < p.pump.toNat) || (yesNoOf p.present).isNone, .badParam),
   (decide (p.present = 1) && pumpFieldsBad p, .badParam),
   (decide ((s.pump p.pump.toNat).state ≠ .lockedOut), .wrongState),
   (decide (p.present = 1) && s.rankTaken p.pump.toNat p.manifold.toNat p.rank.toNat, .badParam)]

/-- The pump once PUMP_SET has configured it (R102). -/
def State.configurePump (p : PumpSetParams) (s : State) : State :=
  s.modifyPump p.pump.toNat fun x => { x with cfg := pumpConfigOf p x.cfg, cause := .none }

theorem exec_pumpSet {p : PumpSetParams} {s : State} (hs : s.configurable) : exec (.pumpSet p) s = .next (
    match firstFailure (pumpSetChecks p s) with
    | some c => s.answered c []
    | none => (s.configurePump p).answered .ok []) := by
  obtain ⟨hready, hstopped, hsaving⟩ := hs
  have htaken := takeCommand_checks (f := State.configurePump p) (payload := fun _ => [])
    (checks := fun s => configChecks s ++ pumpSetChecks p s) hready rfl rfl rfl
  rw [firstFailure_configChecks hstopped hsaving] at htaken
  exact congrArg Host.Outcome.next htaken

/-- Settles O33: the checks in their order, then the configuration replaced. -/
theorem pumpSetOutcomes : Obligations.PumpSetOutcomes := by
  unfold Obligations.PumpSetOutcomes
  intro p s hs n c bad taken
  have hbad : pumpFieldsBad p = true ↔ bad := pumpFieldsBad_iff
  have htaken : s.rankTaken n p.manifold.toNat p.rank.toNat = true ↔ taken := State.rankTaken_iff
  refine ⟨fun h => ?refused, fun hn hfields => ?coded⟩
  case refused =>
    have hfails : firstFailure (pumpSetChecks p s) = some .badParam := by
      have hcode : (decide (15 < n) || (yesNoOf p.present).isNone) = true ↔ 15 < n ∨ 1 < p.present.toNat := by
        rw [Bool.or_eq_true, decide_eq_true_iff, yesNoOf_isNone]
      by_cases hrange : 15 < n ∨ 1 < p.present.toNat
      · exact firstFailure_cons_true (hcode.2 hrange)
      · obtain ⟨hyes, hb⟩ := (or_assoc.2 h).resolve_left hrange
        exact (firstFailure_cons_false (Bool.eq_false_iff.2 fun hc => hrange (hcode.1 hc))).trans
          (firstFailure_cons_true (by rw [hbad.2 hb, decide_eq_true hyes]; rfl))
    rw [exec_pumpSet hs, hfails]
  case coded =>
    have hchecks : firstFailure (pumpSetChecks p s) = firstFailure
        [(decide ((s.pump n).state ≠ .lockedOut), .wrongState),
         (decide (p.present = 1) && s.rankTaken n p.manifold.toNat p.rank.toNat, .badParam)] := by
      refine (firstFailure_cons_false ?_).trans (firstFailure_cons_false ?_)
      · rcases hfields with h | ⟨h, -⟩ <;> simpa [yesNoOf, h] using hn
      · rcases hfields with h | ⟨h, hb⟩
        · simp [h]
        · rw [Bool.eq_false_iff.2 fun hc => hb (hbad.1 hc), Bool.and_false]
    refine ⟨fun h => ?_, fun h hyes ht => ?_, fun h hfree => ?_⟩
    · rw [exec_pumpSet hs, hchecks, firstFailure_cons_true (decide_eq_true h)]
    · rw [exec_pumpSet hs, hchecks, firstFailure_cons_false (by simp [h]),
        firstFailure_cons_true (by rw [htaken.2 ht, decide_eq_true hyes]; rfl)]
    · have hrank : (decide (p.present = 1) && s.rankTaken n p.manifold.toNat p.rank.toNat) = false := by
        rcases hfree with h0 | hfree
        · simp [h0]
        · rw [Bool.eq_false_iff.2 fun ht => hfree (htaken.1 ht), Bool.and_false]
      rw [exec_pumpSet hs, hchecks, firstFailure_cons_false (by simp [h]), firstFailure_cons_false hrank]
      rfl

end Sys2Proof.Machine
end

section
/-! PROOF. What the stages of a pump update do to one pump: the input examination, the entry into suspension and staging
(R107 to R119), with what no stage of an update touches. -/
namespace Sys2Proof.Machine

/-! ### What an update leaves (R106) -/

/-- From `s` to `t` an update has changed pumps, manifolds, the start queue and the event summary, and of these no
configuration, no reported demand, and no bit of the summary but by raising it. -/
structure State.UpdateFrame (s t : State) : Prop where
  outside : t = { s with pumps := t.pumps, link := { s.link with summary := t.link.summary } }
  summary : ∀ i, s.link.summary.getLsbD i = true → t.link.summary.getLsbD i = true
  interval : t.pumps.startInterval = s.pumps.startInterval
  phase : t.pumps.phase = s.pumps.phase
  pumps : t.pumps.table.length = s.pumps.table.length
  pumpCfg : ∀ n, (t.pump n).cfg = (s.pump n).cfg
  manifolds : t.pumps.manifolds.length = s.pumps.manifolds.length
  manifoldCfg : ∀ m, (t.manifold m).cfg = (s.manifold m).cfg
  demand : ∀ m, (t.manifold m).demand = (s.manifold m).demand
  forecast : ∀ m, (t.manifold m).forecast = (s.manifold m).forecast

theorem State.UpdateFrame.refl (s : State) : s.UpdateFrame s :=
  ⟨rfl, fun _ => id, rfl, rfl, rfl, fun _ => rfl, rfl, fun _ => rfl, fun _ => rfl, fun _ => rfl⟩

theorem State.UpdateFrame.trans {s t u : State} (h : s.UpdateFrame t) (k : t.UpdateFrame u) : s.UpdateFrame u where
  outside := by
    rw [k.outside, h.outside]
  summary i := k.summary i ∘ h.summary i
  interval := k.interval.trans h.interval
  phase := k.phase.trans h.phase
  pumps := k.pumps.trans h.pumps
  pumpCfg n := (k.pumpCfg n).trans (h.pumpCfg n)
  manifolds := k.manifolds.trans h.manifolds
  manifoldCfg m := (k.manifoldCfg m).trans (h.manifoldCfg m)
  demand m := (k.demand m).trans (h.demand m)
  forecast m := (k.forecast m).trans (h.forecast m)

/-- The same figure of every entry, changed by what keeps it. -/
theorem getD_modify_same {α β : Type} (g : α → β) {f : α → α} (hf : ∀ a, g (f a) = g a) (l : List α) (i j : Nat) (d : α) :
    g ((l.modify i f).getD j d) = g (l.getD j d) := by
  rw [getD_modify]
  split
  · exact hf _
  · rfl

theorem State.updateFrame_raise (e : Event) (s : State) : s.UpdateFrame (s.raise e) :=
  { State.UpdateFrame.refl s with
    outside := rfl
    summary := fun i h => by rw [State.raise_link]; simp [h] }

theorem State.updateFrame_unqueue (n : Nat) (s : State) : s.UpdateFrame (s.unqueue n) :=
  { State.UpdateFrame.refl s with outside := rfl }

theorem State.updateFrame_modifyPump (n : Nat) {f : Pump → Pump} (hf : ∀ p, (f p).cfg = p.cfg) (s : State) :
    s.UpdateFrame (s.modifyPump n f) :=
  { State.UpdateFrame.refl s with
    outside := rfl
    pumps := List.length_modify ..
    pumpCfg := fun k => getD_modify_same Pump.cfg hf s.pumps.table n k Pump.blank }

theorem State.updateFrame_changePump (n : Nat) {f : Pump → Pump} (hf : ∀ p, (f p).cfg = p.cfg) (s : State) :
    s.UpdateFrame (s.changePump n f) :=
  (s.updateFrame_modifyPump n hf).trans (State.updateFrame_raise ..)

theorem State.updateFrame_modifyManifold (m : Nat) {f : Manifold → Manifold} (hcfg : ∀ x, (f x).cfg = x.cfg)
    (hdemand : ∀ x, (f x).demand = x.demand) (hforecast : ∀ x, (f x).forecast = x.forecast) (s : State) :
    s.UpdateFrame (s.modifyManifold m f) :=
  { State.UpdateFrame.refl s with
    outside := rfl
    manifolds := List.length_modify ..
    manifoldCfg := fun k => getD_modify_same Manifold.cfg hcfg s.pumps.manifolds m k Manifold.blank
    demand := fun k => getD_modify_same Manifold.demand hdemand s.pumps.manifolds m k Manifold.blank
    forecast := fun k => getD_modify_same Manifold.forecast hforecast s.pumps.manifolds m k Manifold.blank }

/-- A new state gives a pump its state, its speeds and a timer at 0, and touches no more (R104). -/
theorem Pump.enter_eq (st : PumpState) (p : Pump) :
    ∃ command target, p.enter st = { p with state := st, command := command, target := target, timer := 0 } := by
  unfold Pump.enter
  split
  · exact ⟨_, _, rfl⟩
  · split <;> exact ⟨_, _, rfl⟩

@[simp] theorem Pump.enter_cfg (st : PumpState) (p : Pump) : (p.enter st).cfg = p.cfg := by
  obtain ⟨_, _, h⟩ := p.enter_eq st
  rw [h]

@[simp] theorem Pump.enter_state (st : PumpState) (p : Pump) : (p.enter st).state = st := by
  obtain ⟨_, _, h⟩ := p.enter_eq st
  rw [h]

@[simp] theorem Pump.enter_mark (st : PumpState) (p : Pump) : (p.enter st).mark = p.mark := by
  obtain ⟨_, _, h⟩ := p.enter_eq st
  rw [h]

@[simp] theorem Pump.enter_timer (st : PumpState) (p : Pump) : (p.enter st).timer = 0 := by
  obtain ⟨_, _, h⟩ := p.enter_eq st
  rw [h]

@[simp] theorem Pump.enter_feedback (st : PumpState) (p : Pump) : (p.enter st).feedback = p.feedback := by
  obtain ⟨_, _, h⟩ := p.enter_eq st
  rw [h]

@[simp] theorem Pump.enter_fault (st : PumpState) (p : Pump) : (p.enter st).fault = p.fault := by
  obtain ⟨_, _, h⟩ := p.enter_eq st
  rw [h]

theorem State.updateFrame_enter (n : Nat) (st : PumpState) (s : State) : s.UpdateFrame (s.changePump n (Pump.enter st)) :=
  s.updateFrame_changePump n (Pump.enter_cfg st)

/-! ### The start queue (R115, R116) -/

/-- The start queue holds exactly the QUEUED pumps, each once. -/
structure State.QueueOk (s : State) : Prop where
  nodup : s.pumps.queue.Nodup
  mem : ∀ n, n ∈ s.pumps.queue ↔ (s.pump n).state = .queued

/-- The places of the start queue that are left to QUEUED pumps of `t`. -/
def State.stillQueued (t : State) (queue : List Nat) : List Nat :=
  queue.filter fun n => decide ((t.pump n).state = .queued)

/-- From `s` to `t` pumps have moved without a new one in the start queue, which keeps its order. -/
structure State.PumpsMove (s t : State) : Prop where
  frame : s.UpdateFrame t
  lastGrant : t.pumps.lastGrant = s.pumps.lastGrant
  unjoined : ∀ n, (t.pump n).state = .queued → (s.pump n).state = .queued
  queue : s.QueueOk → t.pumps.queue = t.stillQueued s.pumps.queue

/-- A queue that only loses the pumps that are QUEUED no more stays what it is. -/
theorem State.QueueOk.of_move {s t : State} (hs : s.QueueOk) (h : s.PumpsMove t) : t.QueueOk where
  nodup := by
    rw [h.queue hs]
    exact hs.nodup.filter _
  mem n := by
    rw [h.queue hs, State.stillQueued, List.mem_filter, hs.mem, decide_eq_true_iff]
    exact ⟨And.right, fun hq => ⟨h.unjoined n hq, hq⟩⟩

theorem State.PumpsMove.refl (s : State) : s.PumpsMove s where
  frame := .refl s
  lastGrant := rfl
  unjoined _ := id
  queue hs := (List.filter_eq_self.2 fun n hn => decide_eq_true ((hs.mem n).1 hn)).symm

theorem State.PumpsMove.trans {s t u : State} (h : s.PumpsMove t) (k : t.PumpsMove u) : s.PumpsMove u where
  frame := h.frame.trans k.frame
  lastGrant := k.lastGrant.trans h.lastGrant
  unjoined n := h.unjoined n ∘ k.unjoined n
  queue hs := by
    rw [k.queue (hs.of_move h), h.queue hs, State.stillQueued, State.stillQueued, List.filter_filter]
    refine List.filter_congr fun n _ => ?_
    by_cases hu : (u.pump n).state = .queued
    · simp [hu, k.unjoined n hu]
    · simp [hu]

/-! ### One pump moved -/

/-- A pump that is not LOCKED_OUT stands in the table. -/
theorem State.lt_of_pump_state {s : State} {n : Nat} (h : (s.pump n).state ≠ .lockedOut) : n < s.pumps.table.length := by
  by_contra hn
  have hnone : s.pumps.table[n]? = none := List.getElem?_eq_none (Nat.le_of_not_lt hn)
  exact h (by simp [State.pump, List.getD_eq_getElem?_getD, hnone, Pump.blank, Pump.fresh])

theorem State.pump_changePump {s : State} {n : Nat} (h : (s.pump n).state ≠ .lockedOut) (f : Pump → Pump) (k : Nat) :
    (s.changePump n f).pump k = if k = n then f (s.pump k) else s.pump k := by
  have hread := State.pump_modifyPump n k f s
  refine hread.trans ?_
  by_cases hk : k = n
  · rw [if_pos ⟨hk.symm, hk ▸ State.lt_of_pump_state h⟩, if_pos hk]
  · rw [if_neg fun ⟨heq, _⟩ => hk heq.symm, if_neg hk]

@[simp] theorem State.pump_unqueue (n k : Nat) (s : State) : (s.unqueue n).pump k = s.pump k := rfl

/-- Pump `n` of `t` is `q`, and every other pump is as in `s`. -/
def State.OnePump (s t : State) (n : Nat) (q : Pump) : Prop := ∀ k, t.pump k = if k = n then q else s.pump k

/-- The pump in a queue of QUEUED pumps moves out of it, the others keep their order. -/
theorem State.stillQueued_of_onePump {s t : State} {n : Nat} {q : Pump} (hs : s.QueueOk) (hpump : s.OnePump t n q)
    (hq : q.state ≠ .queued) : t.stillQueued s.pumps.queue = s.pumps.queue.filter (· ≠ n) := by
  refine List.filter_congr fun k hk => ?_
  rw [hpump k]
  by_cases hkn : k = n
  · simp [hkn, hq]
  · simp [hkn, (hs.mem k).1 hk]

/-- A pump that is not QUEUED moves to another state that is not QUEUED. -/
theorem State.pumpsMove_changePump {s : State} {n : Nat} {f : Pump → Pump} (hf : ∀ p, (f p).cfg = p.cfg)
    (hin : (s.pump n).state ≠ .lockedOut) (hold : (s.pump n).state ≠ .queued) (hnew : (f (s.pump n)).state ≠ .queued) :
    s.PumpsMove (s.changePump n f) := by
  have hpump : s.OnePump (s.changePump n f) n (f (s.pump n)) := fun k => by
    rw [State.pump_changePump hin]
    split
    next h => rw [h]
    next => rfl
  refine ⟨s.updateFrame_changePump n hf, rfl, fun k hk => ?_, fun hs => ?_⟩
  · rw [hpump k] at hk
    split at hk
    · exact absurd hk hnew
    · exact hk
  · rw [State.stillQueued_of_onePump hs hpump hnew]
    refine (List.filter_eq_self.2 fun k hk => decide_eq_true ?_).symm
    rintro rfl
    exact hold ((hs.mem k).1 hk)

/-- A pump moves to a state that is not QUEUED, and leaves the queue if it was in it. -/
theorem State.pumpsMove_unqueue {s : State} {n : Nat} {f : Pump → Pump} (hf : ∀ p, (f p).cfg = p.cfg)
    (hin : (s.pump n).state ≠ .lockedOut) (hnew : (f (s.pump n)).state ≠ .queued) :
    s.PumpsMove ((s.unqueue n).changePump n f) := by
  have hpump : s.OnePump ((s.unqueue n).changePump n f) n (f (s.pump n)) := fun k => by
    rw [State.pump_changePump (s := s.unqueue n) hin]
    split
    next h => rw [h]; rfl
    next => rfl
  refine ⟨(s.updateFrame_unqueue n).trans (State.updateFrame_changePump n hf _), rfl, fun k hk => ?_, fun hs => ?_⟩
  · rw [hpump k] at hk
    split at hk
    · exact absurd hk hnew
    · exact hk
  · rw [State.stillQueued_of_onePump hs hpump hnew]
    rfl

theorem State.pumpsMove_raise (e : Event) (s : State) : s.PumpsMove (s.raise e) :=
  { State.PumpsMove.refl s with frame := s.updateFrame_raise e }

/-- A pass over pumps, each of which `f` changes by `g` and no other: every one of them is changed once. -/
theorem State.pump_forEach {f : Nat → State → State} {g : Nat → Pump → Pump}
    (hf : ∀ n s k, State.pump (f n s) k = if k = n then g n (s.pump k) else s.pump k) {l : List Nat} (hl : l.Nodup)
    (s : State) (k : Nat) : (forEach l f s).pump k = if k ∈ l then g k (s.pump k) else s.pump k := by
  induction l generalizing s with
  | nil => simp
  | cons a l ih =>
    obtain ⟨ha, hl⟩ := List.nodup_cons.1 hl
    rw [forEach_cons, ih hl, hf]
    by_cases hk : k = a
    · subst hk
      simp [ha]
    · simp [hk]

theorem State.pumpsMove_forEach {f : Nat → State → State} (hf : ∀ n s, State.PumpsMove s (f n s)) (l : List Nat)
    (s : State) : s.PumpsMove (forEach l f s) :=
  forEach_keeps s.PumpsMove l f (fun n _ _ h => h.trans (hf n _)) s (.refl s)

end Sys2Proof.Machine
end

section
/-! PROOF. The first three stages of a pump update: the inputs sampled, every pump examined, staging suspended (R104, R107 to
R112). -/
namespace Sys2Proof.Machine

/-! ### What the examination of a pump finds (R107 to R110) -/

/-- A pump in FAULT with a cause (R110). -/
def Pump.faulted (c : FaultCause) (p : Pump) : Pump := { p.enter .fault with cause := c, mark := false }

/-- A STOPPING pump that has come to rest (R109). -/
def Pump.rested (p : Pump) : Pump := { p.enter (if p.mark then .lockedOut else .idle) with mark := false }

/-- What an update can do with a pump, but for the joining of the queue and its head's grant: nothing, a change of state,
a coming to rest, a fault, or a place in the start queue given up. -/
inductive PumpAction where
  | stays
  | moves (st : PumpState)
  | rests
  | faults (c : FaultCause)
  | dequeues

/-- What the examination of a pump finds (R107 to R110). -/
def Pump.finding (p : Pump) : PumpAction :=
  if !p.cfg.present then .stays
  else match p.state with
    | .starting =>
      if p.mark then .moves .stopping
      else if p.fault then .faults .faultInput
      else if p.feedback then .moves .running
      else if p.timedOut p.cfg.startTimeout then .faults .startTimeout
      else .stays
    | .running =>
      if p.mark then .moves .stopping
      else if p.fault then .faults .faultInput
      else if !p.feedback then .faults .feedbackLost
      else .stays
    | .stopping =>
      if p.fault then .faults .faultInput
      else if !p.feedback then .rests
      else if p.timedOut p.cfg.stopTimeout then .faults .stopTimeout
      else .stays
    | .idle => if p.fault then .faults .faultInput else .stays
    | .queued => if p.fault then .faults .faultInput else .stays
    | .lockedOut => .stays
    | .fault => .stays

/-- What an action makes of the pump. -/
def PumpAction.change : PumpAction → Pump → Pump
  | .stays => id
  | .moves st => Pump.enter st
  | .rests => Pump.rested
  | .faults c => Pump.faulted c
  | .dequeues => Pump.enter .idle

/-- What an action makes of the state. -/
def PumpAction.act (n : Nat) (s : State) : PumpAction → State
  | .stays => s
  | .moves st => s.changePump n (Pump.enter st)
  | .rests => s.changePump n Pump.rested
  | .faults c => s.faultPump n c
  | .dequeues => (s.unqueue n).changePump n (Pump.enter .idle)

/-- The pump after its examination. -/
def Pump.examined (p : Pump) : Pump := p.finding.change p

theorem State.examine_eq (n : Nat) (s : State) : s.examine n = (s.pump n).finding.act n s := by
  unfold State.examine Pump.finding
  dsimp only
  cases (s.pump n).cfg.present with
  | false => rfl
  | true =>
    cases (s.pump n).state <;> dsimp only [Bool.not_true, Bool.false_eq_true, if_false] <;> repeat' split
    all_goals rfl

/-- Which pumps an action is for, and where it moves them. -/
def PumpAction.Fits (p : Pump) : PumpAction → Prop
  | .stays => True
  | .moves st => (p.state = .starting ∨ p.state = .running) ∧ (st = .stopping ∨ st = .running)
  | .rests => p.state = .stopping
  | .faults _ => p.state ≠ .lockedOut
  | .dequeues => p.state = .queued

theorem Pump.finding_fits (p : Pump) : p.finding.Fits p := by
  unfold Pump.finding
  split
  · trivial
  split
  all_goals
    next h =>
      repeat' split
      all_goals simp [PumpAction.Fits, h]

/-- An action, if it is one, does not leave the pump QUEUED. -/
theorem PumpAction.change_state_ne_queued {f : PumpAction} {p : Pump} (h : f.Fits p) (hf : f ≠ .stays) :
    (f.change p).state ≠ .queued := by
  cases f with
  | stays => exact absurd rfl hf
  | moves st => obtain ⟨-, rfl | rfl⟩ := h <;> simp [PumpAction.change]
  | rests =>
    simp only [PumpAction.change, Pump.rested, Pump.enter_state]
    split <;> simp
  | faults c => simp [PumpAction.change, Pump.faulted]
  | dequeues => simp [PumpAction.change]

theorem PumpAction.change_cfg (f : PumpAction) (p : Pump) : (f.change p).cfg = p.cfg := by
  cases f <;> simp [PumpAction.change, Pump.rested, Pump.faulted]

/-- A fault moves the pump out of the queue and raises both events. -/
theorem State.faultPump_eq (n : Nat) (c : FaultCause) (s : State) :
    s.faultPump n c = ((s.unqueue n).changePump n (Pump.faulted c)).raise .pumpFault := rfl

/-- An action moves its own pump and no other. -/
theorem State.pump_act {f : PumpAction} {n : Nat} {s : State} (h : f.Fits (s.pump n)) (k : Nat) :
    (f.act n s).pump k = if k = n then f.change (s.pump k) else s.pump k := by
  cases f with
  | stays => simp [PumpAction.act, PumpAction.change]
  | moves st =>
    obtain ⟨hst, -⟩ := h
    exact State.pump_changePump (by rcases hst with h | h <;> simp [h]) _ k
  | rests =>
    have hst : (s.pump n).state = .stopping := h
    exact State.pump_changePump (by simp [hst]) _ k
  | faults c => exact State.pump_changePump (s := s.unqueue n) h _ k
  | dequeues =>
    have hst : (s.pump n).state = .queued := h
    exact State.pump_changePump (s := s.unqueue n) (by simp [hst]) _ k

theorem State.pumpsMove_act {f : PumpAction} {n : Nat} {s : State} (h : f.Fits (s.pump n)) : s.PumpsMove (f.act n s) := by
  have hne := PumpAction.change_state_ne_queued h
  have hcfg := f.change_cfg
  cases f with
  | stays => exact .refl s
  | moves st =>
    obtain ⟨hst, -⟩ := h
    exact State.pumpsMove_changePump hcfg (by rcases hst with h | h <;> simp [h]) (by rcases hst with h | h <;> simp [h])
      (hne PumpAction.noConfusion)
  | rests =>
    have hst : (s.pump n).state = .stopping := h
    exact State.pumpsMove_changePump hcfg (by simp [hst]) (by simp [hst]) (hne PumpAction.noConfusion)
  | faults c =>
    exact (State.pumpsMove_unqueue (f := Pump.faulted c) hcfg h (hne PumpAction.noConfusion)).trans (State.pumpsMove_raise ..)
  | dequeues =>
    have hst : (s.pump n).state = .queued := h
    exact State.pumpsMove_unqueue hcfg (by simp [hst]) (hne PumpAction.noConfusion)

theorem State.pump_examine (n : Nat) (s : State) (k : Nat) :
    (s.examine n).pump k = if k = n then (s.pump k).examined else s.pump k := by
  rw [s.examine_eq, State.pump_act (s.pump n).finding_fits]
  split
  next h => rw [h, Pump.examined]
  next => rfl

theorem State.pumpsMove_examine (n : Nat) (s : State) : s.PumpsMove (s.examine n) := by
  rw [s.examine_eq]
  exact State.pumpsMove_act (s.pump n).finding_fits

/-- A pump found faulty has both events raised (R111). -/
theorem State.summary_examine {n : Nat} {c : FaultCause} {s : State} (h : (s.pump n).finding = .faults c) :
    (s.examine n).link.summary.getLsbD 8 = true ∧ (s.examine n).link.summary.getLsbD 9 = true := by
  rw [s.examine_eq, h, PumpAction.act, State.faultPump_eq, State.raise_link, State.changePump, State.raise_link]
  simp [Event.mask, Event.bit]

/-- A pass that examines a pump found faulty ends with both events raised. -/
theorem State.summary_forEach_examine {n : Nat} {c : FaultCause} {l : List Nat} (hn : n ∈ l) {s : State}
    (h : (s.pump n).finding = .faults c) : (forEach l State.examine s).link.summary.getLsbD 8 = true
      ∧ (forEach l State.examine s).link.summary.getLsbD 9 = true := by
  induction l generalizing s with
  | nil => simp at hn
  | cons a l ih =>
    rw [forEach_cons]
    by_cases ha : n = a
    · obtain ⟨h8, h9⟩ := State.summary_examine (ha ▸ h)
      have hrest := (State.pumpsMove_forEach State.pumpsMove_examine l (s.examine a)).frame.summary
      exact ⟨hrest 8 h8, hrest 9 h9⟩
    · exact ih ((List.mem_cons.1 hn).resolve_left ha) (by rwa [State.pump_examine, if_neg ha])

/-- The manifolds and the suspension flag. -/
def State.plant (s : State) : List Manifold × Bool := (s.pumps.manifolds, s.pumps.suspended)

/-- No action touches a manifold or the suspension flag. -/
theorem State.plant_act (a : PumpAction) (n : Nat) (s : State) : (a.act n s).plant = s.plant := by
  cases a <;> rfl

/-- What a pump that moves after its examination did before it (R107, R108). -/
theorem Pump.examined_state {p : Pump} :
    (p.examined.state = .queued → p.state = .queued) ∧ (p.examined.state = .starting → p.state = .starting)
      ∧ (p.examined.state = .running → p.state = .starting ∨ p.state = .running) := by
  have hfits := p.finding_fits
  unfold Pump.examined
  cases hf : p.finding with
  | stays => exact ⟨id, id, .inr⟩
  | moves st =>
    rw [hf] at hfits
    obtain ⟨hst, rfl | rfl⟩ := hfits <;> simp [PumpAction.change, hst]
  | rests =>
    cases hm : p.mark <;> simp [PumpAction.change, Pump.rested, hm]
  | faults c => simp [PumpAction.change, Pump.faulted]
  | dequeues => simp [PumpAction.change]

/-- What a pump that is IDLE after its examination was before it (R109). -/
theorem Pump.idle_of_examined {p : Pump} (h : p.examined.state = .idle) : p.state = .idle ∨ p.state = .stopping := by
  have hfits := p.finding_fits
  unfold Pump.examined at h
  cases hf : p.finding with
  | stays =>
    rw [hf] at h
    exact .inl h
  | moves st =>
    rw [hf] at hfits h
    obtain ⟨-, rfl | rfl⟩ := hfits <;> simp [PumpAction.change] at h
  | rests =>
    rw [hf] at hfits
    exact .inr hfits
  | faults c => simp [hf, PumpAction.change, Pump.faulted] at h
  | dequeues =>
    unfold Pump.finding at hf
    split at hf
    · cases hf
    · split at hf <;> repeat' split at hf
      all_goals cases hf

/-- An absent pump is not examined (R101). -/
theorem Pump.examined_of_absent {p : Pump} (h : p.cfg.present = false) : p.examined = p := by
  simp [Pump.examined, Pump.finding, h, PumpAction.change]

theorem Pump.examined_cfg (p : Pump) : p.examined.cfg = p.cfg := PumpAction.change_cfg ..

/-! ### The inputs sampled (R104) -/

/-- A pump with its inputs as the pins stand. -/
def State.sampled (s : State) (n : Nat) : Pump :=
  { s.pump n with feedback := s.pins.feedback.getLsbD n, fault := s.pins.fault.getLsbD n }

theorem State.pump_samplePumps_of_lt {s : State} {n : Nat} (h : n < s.pumps.table.length) :
    s.samplePumps.pump n = s.sampled n := by
  have hentry : s.pumps.table[n]? = some (s.pump n) := by
    simp [State.pump, List.getD_eq_getElem?_getD, List.getElem?_eq_getElem h]
  simp only [State.pump, State.samplePumps, State.sampled, List.getD_eq_getElem?_getD, List.getElem?_map,
    List.getElem?_zipIdx, List.getElem?_eq_getElem h, Option.map_some, Option.getD_some, Nat.zero_add]

theorem State.pump_samplePumps_of_ge {s : State} {n : Nat} (h : s.pumps.table.length ≤ n) :
    s.samplePumps.pump n = s.pump n := by
  simp [State.pump, State.samplePumps, List.getD_eq_getElem?_getD, List.getElem?_eq_none h]

/-- Sampling touches the inputs alone. -/
theorem State.pump_samplePumps (s : State) (n : Nat) :
    (s.samplePumps.pump n).cfg = (s.pump n).cfg ∧ (s.samplePumps.pump n).state = (s.pump n).state := by
  rcases Nat.lt_or_ge n s.pumps.table.length with h | h
  · rw [State.pump_samplePumps_of_lt h]
    exact ⟨rfl, rfl⟩
  · rw [State.pump_samplePumps_of_ge h]
    exact ⟨rfl, rfl⟩

theorem State.pumpsMove_samplePumps (s : State) : s.PumpsMove s.samplePumps where
  frame :=
    { State.UpdateFrame.refl s with
      outside := rfl
      pumps := by simp [State.samplePumps]
      pumpCfg := fun n => (s.pump_samplePumps n).1 }
  lastGrant := rfl
  unjoined n h := by rwa [(s.pump_samplePumps n).2] at h
  queue hs := (List.filter_eq_self.2 fun n hn =>
    decide_eq_true (((s.pump_samplePumps n).2).trans ((hs.mem n).1 hn))).symm

/-! ### Suspension (R112) -/

/-- What the entry into suspension does with a pump (R112). -/
def Pump.suspending (p : Pump) : PumpAction :=
  match p.state with
  | .queued => .dequeues
  | .starting => .moves .stopping
  | .running => .moves .stopping
  | _ => .stays

/-- A pump at the entry into suspension. -/
def Pump.halted (p : Pump) : Pump := p.suspending.change p

theorem Pump.suspending_fits (p : Pump) : p.suspending.Fits p := by
  unfold Pump.suspending
  cases h : p.state <;> simp [PumpAction.Fits, h]

theorem State.suspendPump_eq (n : Nat) (s : State) : s.suspendPump n = (s.pump n).suspending.act n s := by
  unfold State.suspendPump Pump.suspending
  cases (s.pump n).state <;> rfl

theorem State.pump_suspendPump (n : Nat) (s : State) (k : Nat) :
    (s.suspendPump n).pump k = if k = n then (s.pump k).halted else s.pump k := by
  rw [s.suspendPump_eq, State.pump_act (s.pump n).suspending_fits]
  split
  next h => rw [h, Pump.halted]
  next => rfl

theorem State.pumpsMove_suspendPump (n : Nat) (s : State) : s.PumpsMove (s.suspendPump n) := by
  rw [s.suspendPump_eq]
  exact State.pumpsMove_act (s.pump n).suspending_fits

theorem Pump.halted_of_still {p : Pump} (hq : p.state ≠ .queued) (hs : p.state ≠ .starting) (hr : p.state ≠ .running) :
    p.halted = p := by
  have hstays : p.suspending = .stays := by
    unfold Pump.suspending
    cases h : p.state <;> simp_all
  rw [Pump.halted, hstays]
  rfl

/-- In suspension no pump waits, starts or runs (R112). -/
theorem Pump.halted_state (p : Pump) :
    p.halted.state ≠ .queued ∧ p.halted.state ≠ .starting ∧ p.halted.state ≠ .running := by
  unfold Pump.halted Pump.suspending
  cases h : p.state <;> simp [PumpAction.change, h]

theorem Pump.halted_cfg (p : Pump) : p.halted.cfg = p.cfg := PumpAction.change_cfg ..

/-- The destage timers stopped, at the entry into suspension (R112). -/
def State.stopDestaging (s : State) : State :=
  { s with pumps := { s.pumps with
      suspended := true, manifolds := s.pumps.manifolds.map fun m => { m with destage := none } } }

/-- The suspension flag alone taken over (R112). -/
def State.setSuspended (b : Bool) (s : State) : State := { s with pumps := { s.pumps with suspended := b } }

/-- All that the suspension stage can do (R112): lift the suspension, leave it, or enter it. -/
theorem State.suspension_eq (s : State) : s.suspension =
    if s.suspensionHolds then
      if s.pumps.suspended then s else (forEach (List.range 16) State.suspendPump s).stopDestaging
    else s.setSuspended false := rfl

theorem State.pump_stopDestaging (n : Nat) (s : State) : s.stopDestaging.pump n = s.pump n := rfl

theorem State.pump_setSuspended (n : Nat) (b : Bool) (s : State) : (s.setSuspended b).pump n = s.pump n := rfl

theorem State.manifold_setSuspended (m : Nat) (b : Bool) (s : State) : (s.setSuspended b).manifold m = s.manifold m := rfl

theorem State.manifold_stopDestaging (m : Nat) (s : State) :
    s.stopDestaging.manifold m = { s.manifold m with destage := none } := by
  have hmap := List.getD_map (n := m) s.pumps.manifolds Manifold.blank fun m => { m with destage := none }
  exact hmap

theorem State.pumpsMove_stopDestaging (s : State) : s.PumpsMove s.stopDestaging :=
  { State.PumpsMove.refl s with
    frame := { State.UpdateFrame.refl s with
      outside := rfl
      manifolds := List.length_map ..
      manifoldCfg := fun m => by rw [s.manifold_stopDestaging]
      demand := fun m => by rw [s.manifold_stopDestaging]
      forecast := fun m => by rw [s.manifold_stopDestaging] } }

theorem State.pumpsMove_setSuspended (b : Bool) (s : State) : s.PumpsMove (s.setSuspended b) :=
  { State.PumpsMove.refl s with frame := { State.UpdateFrame.refl s with outside := rfl } }

/-- A pass of suspension over the pumps leaves what no pump's move touches. -/
theorem State.plant_forEach {f : Nat → State → State} {action : Pump → PumpAction}
    (hf : ∀ n s, f n s = (action (s.pump n)).act n s) (l : List Nat) (s : State) : (forEach l f s).plant = s.plant :=
  forEach_same State.plant l f (fun n _ s => by rw [hf, State.plant_act]) s

/-! ### The first three stages together -/

/-- The pumps after the input examination (R107 to R110). -/
def State.inspected (s : State) : State := forEach (List.range 16) State.examine s.samplePumps

theorem State.updateInputs_eq (s : State) : s.updateInputs = s.inspected.suspension := rfl

theorem State.pumpsMove_inspected (s : State) : s.PumpsMove s.inspected :=
  s.pumpsMove_samplePumps.trans (State.pumpsMove_forEach State.pumpsMove_examine _ _)

theorem State.plant_inspected (s : State) : s.inspected.plant = s.plant :=
  State.plant_forEach (action := Pump.finding) State.examine_eq _ s.samplePumps

theorem State.pump_inspected {s : State} (hs : s.pumps.table.length = 16) {n : Nat} (hn : n < 16) :
    s.inspected.pump n = (s.sampled n).examined := by
  rw [State.inspected, State.pump_forEach (g := fun _ => Pump.examined) State.pump_examine List.nodup_range,
    if_pos (List.mem_range.2 hn), State.pump_samplePumps_of_lt (by omega)]

/-- What the site asks does not change within an update. -/
theorem State.UpdateFrame.suspensionHolds {s t : State} (h : s.UpdateFrame t) : t.suspensionHolds = s.suspensionHolds := by
  rw [h.outside]
  rfl

/-- A pump once its inputs are examined and staging is suspended or not. -/
def State.settledPump (s : State) (n : Nat) : Pump :=
  if s.suspensionHolds then (s.sampled n).examined.halted else (s.sampled n).examined

theorem State.settledPump_cfg (s : State) (n : Nat) : (s.settledPump n).cfg = (s.pump n).cfg := by
  unfold State.settledPump
  split
  · rw [Pump.halted_cfg, Pump.examined_cfg]
    rfl
  · rw [Pump.examined_cfg]
    rfl

theorem State.pumpsMove_suspension (s : State) : s.PumpsMove s.suspension := by
  rw [s.suspension_eq]
  split
  · split
    · exact .refl s
    · exact (State.pumpsMove_forEach State.pumpsMove_suspendPump _ s).trans (State.pumpsMove_stopDestaging _)
  · exact s.pumpsMove_setSuspended false

theorem State.pumpsMove_updateInputs (s : State) : s.PumpsMove s.updateInputs :=
  s.pumpsMove_inspected.trans (State.pumpsMove_suspension _)

theorem State.suspension_suspended (s : State) : s.suspension.pumps.suspended = s.suspensionHolds := by
  rw [s.suspension_eq]
  split
  next h =>
    split
    next hs => rw [hs, h]
    next => exact h.symm
  next h => exact (Bool.not_eq_true _ ▸ h).symm

theorem State.updateInputs_suspended (s : State) : s.updateInputs.pumps.suspended = s.suspensionHolds := by
  rw [s.updateInputs_eq, s.inspected.suspension_suspended, s.pumpsMove_inspected.frame.suspensionHolds]

/-- Where every pump stands once the first three stages are done. -/
theorem State.pump_updateInputs {s : State} (hs : s.pumpsOk) {n : Nat} (hn : n < 16) :
    s.updateInputs.pump n = s.settledPump n := by
  obtain ⟨⟨-, -, -, -, -, htable, -⟩, -, -, -, -, -, hsuspended⟩ := hs
  have hpump := State.pump_inspected htable hn
  obtain ⟨-, hplant⟩ := Prod.mk.inj s.plant_inspected
  rw [s.updateInputs_eq, s.inspected.suspension_eq, s.pumpsMove_inspected.frame.suspensionHolds, hplant, State.settledPump]
  cases s.suspensionHolds with
  | false => simp [State.pump_setSuspended, hpump]
  | true =>
    cases hold : s.pumps.suspended with
    | true =>
      obtain ⟨hq, hst, hr⟩ := hsuspended hold n hn
      obtain ⟨hq', hst', hr'⟩ := (s.sampled n).examined_state
      have hstill := Pump.halted_of_still (mt hq' hq) (mt hst' hst) fun h => (hr' h).elim hst hr
      simp [hpump, hstill]
    | false =>
      have hhalted := State.pump_forEach (g := fun _ => Pump.halted) State.pump_suspendPump (List.nodup_range (n := 16))
        s.inspected n
      rw [if_pos (List.mem_range.2 hn), hpump] at hhalted
      simp [State.pump_stopDestaging, hhalted]

/-- The manifolds once the first three stages are done: an entry into suspension has stopped their destage timers. -/
theorem State.manifold_updateInputs (s : State) (m : Nat) : s.updateInputs.manifold m =
    if s.suspensionHolds = true ∧ s.pumps.suspended = false then { s.manifold m with destage := none } else s.manifold m := by
  obtain ⟨hmanifolds, hplant⟩ := Prod.mk.inj s.plant_inspected
  have hmanifold : s.inspected.manifold m = s.manifold m := by rw [State.manifold, hmanifolds, State.manifold]
  obtain ⟨hpass, -⟩ := Prod.mk.inj
    (State.plant_forEach (action := Pump.suspending) State.suspendPump_eq (List.range 16) s.inspected)
  have hhalted : (forEach (List.range 16) State.suspendPump s.inspected).manifold m = s.manifold m := by
    rw [State.manifold, hpass, ← hmanifold, State.manifold]
  rw [s.updateInputs_eq, s.inspected.suspension_eq, s.pumpsMove_inspected.frame.suspensionHolds, hplant]
  cases s.suspensionHolds with
  | false => simp [State.manifold_setSuspended, hmanifold]
  | true =>
    cases s.pumps.suspended with
    | true => simp [hmanifold]
    | false => simp [State.manifold_stopDestaging, hhalted]

end Sys2Proof.Machine
end

section
/-! PROOF. The staging of one manifold at a pump update: its target set, its queue, its destage, its speeds
(R113 to R118). -/
namespace Sys2Proof.Machine

/-! ### The pumps of a manifold -/

theorem State.mem_pumpsOf {s : State} {m n : Nat} :
    n ∈ s.pumpsOf m ↔ n < 16 ∧ (s.pump n).cfg.present = true ∧ (s.pump n).cfg.manifold = m := by
  rw [State.pumpsOf, (sortByKey_perm _ _).mem_iff]
  simp

theorem State.pumpsOf_nodup (s : State) (m : Nat) : (s.pumpsOf m).Nodup :=
  (sortByKey_perm _ _).nodup_iff.2 (List.nodup_range.filter _)

/-- The pumps of a manifold stand in ascending rank. -/
theorem State.pumpsOf_sorted (s : State) (m : Nat) :
    (s.pumpsOf m).Pairwise fun a b => (s.pump a).cfg.rank ≤ (s.pump b).cfg.rank := sortByKey_sorted _ _

theorem State.pumpsOf_congr {s t : State} (h : ∀ n, (t.pump n).cfg = (s.pump n).cfg) (m : Nat) :
    t.pumpsOf m = s.pumpsOf m := by simp only [State.pumpsOf, h]

theorem State.leadingPart_congr {s t : State} (h : ∀ n, (t.pump n).cfg = (s.pump n).cfg) (need : Nat) (l : List Nat) :
    t.leadingPart need l = s.leadingPart need l := by
  induction l generalizing need with
  | nil => cases need <;> rfl
  | cons n l ih => cases need <;> simp [State.leadingPart, h, ih]

/-- The leading part is a leading part. -/
theorem State.leadingPart_prefix (s : State) (need : Nat) (l : List Nat) : s.leadingPart need l <+: l := by
  induction l generalizing need with
  | nil => cases need <;> exact List.nil_prefix
  | cons n l ih =>
    cases need with
    | zero => exact List.nil_prefix
    | succ need => exact (List.cons_prefix_cons).2 ⟨rfl, ih _⟩

theorem State.targetSet_sublist (s : State) (m need : Nat) : (s.targetSet m need).Sublist (s.pumpsOf m) :=
  (s.leadingPart_prefix ..).sublist.trans List.filter_sublist

theorem State.mem_pumpsOf_of_mem_targetSet {s : State} {m need n : Nat} (h : n ∈ s.targetSet m need) : n ∈ s.pumpsOf m :=
  (s.targetSet_sublist m need).subset h

theorem State.mem_runningOf {s : State} {m n : Nat} : n ∈ s.runningOf m ↔ n ∈ s.pumpsOf m ∧ (s.pump n).state = .running := by
  rw [State.mem_pumpsOf, State.runningOf, List.mem_filter]
  simp [and_assoc]

/-! ### What the staging of a manifold reads -/

/-- The destage timer a manifold's staging leaves (R117). -/
def State.destageAfter (s : State) (m : Nat) : Option Nat :=
  if s.pumps.suspended then (s.manifold m).destage
  else if s.outside m = [] then none
  else if (s.destageNext m).isSome then some 0
  else some ((s.manifold m).destage.getD 0)

/-- The manifold, the configurations and the running of its pumps are the same in `s` and `t`. -/
structure State.RunsAlike (m : Nat) (s t : State) : Prop where
  cfg : ∀ n, (t.pump n).cfg = (s.pump n).cfg
  manifold : t.manifold m = s.manifold m
  suspended : t.pumps.suspended = s.pumps.suspended
  starting : ∀ n ∈ s.pumpsOf m, (t.pump n).state = .starting ↔ (s.pump n).state = .starting
  running : ∀ n ∈ s.pumpsOf m, (t.pump n).state = .running ↔ (s.pump n).state = .running

theorem State.RunsAlike.outside {m : Nat} {s t : State} (h : s.RunsAlike m t) : t.outside m = s.outside m := by
  rw [State.outside, State.outside, State.pumpsOf_congr h.cfg, h.manifold]
  refine List.filter_congr fun n hn => ?_
  rw [decide_eq_decide.2 (h.starting n hn), decide_eq_decide.2 (h.running n hn)]

theorem State.RunsAlike.destageVictim {m : Nat} {s t : State} (h : s.RunsAlike m t) :
    t.destageVictim m = s.destageVictim m := by
  rw [State.destageVictim, State.destageVictim, h.outside]
  refine congrArg List.getLast? (List.filter_congr fun n hn => ?_)
  rw [decide_eq_decide.2 (h.running n (List.mem_filter.1 hn).1)]

theorem State.RunsAlike.destageNext {m : Nat} {s t : State} (h : s.RunsAlike m t) : t.destageNext m = s.destageNext m := by
  rw [State.destageNext, State.destageNext, h.manifold, h.suspended, h.destageVictim]

theorem State.RunsAlike.runningOf {m : Nat} {s t : State} (h : s.RunsAlike m t) : t.runningOf m = s.runningOf m := by
  rw [State.runningOf, State.runningOf]
  refine List.filter_congr fun n hn => ?_
  rw [h.cfg]
  by_cases hm : n ∈ s.pumpsOf m
  · rw [decide_eq_decide.2 (h.running n hm)]
  · rw [State.mem_pumpsOf, ← List.mem_range, and_iff_right hn, ← decide_eq_true_iff (p := _ = m), ← Bool.and_eq_true,
      Bool.not_eq_true] at hm
    rw [hm, Bool.false_and, Bool.false_and]

theorem State.RunsAlike.commonSpeed {m : Nat} {s t : State} (h : s.RunsAlike m t) : t.commonSpeed m = s.commonSpeed m := by
  simp only [State.commonSpeed, h.runningOf, h.cfg, h.manifold]

theorem State.RunsAlike.destageAfter {m : Nat} {s t : State} (h : s.RunsAlike m t) :
    t.destageAfter m = s.destageAfter m := by
  rw [State.destageAfter, State.destageAfter, h.suspended, h.manifold, h.outside, h.destageNext]

/-- Everything that the staging of a manifold reads of it and its pumps is the same in `s` and `t`. -/
structure State.SamePart (m : Nat) (s t : State) : Prop where
  cfg : ∀ n, (t.pump n).cfg = (s.pump n).cfg
  manifold : t.manifold m = s.manifold m
  suspended : t.pumps.suspended = s.pumps.suspended
  pump : ∀ n ∈ s.pumpsOf m, t.pump n = s.pump n

theorem State.SamePart.refl (m : Nat) (s : State) : s.SamePart m s := ⟨fun _ => rfl, rfl, rfl, fun _ _ => rfl⟩

theorem State.SamePart.trans {m : Nat} {s t u : State} (h : s.SamePart m t) (k : t.SamePart m u) : s.SamePart m u where
  cfg n := (k.cfg n).trans (h.cfg n)
  manifold := k.manifold.trans h.manifold
  suspended := k.suspended.trans h.suspended
  pump n hn := (k.pump n (by rwa [State.pumpsOf_congr h.cfg])).trans (h.pump n hn)

theorem State.SamePart.runsAlike {m : Nat} {s t : State} (h : s.SamePart m t) : s.RunsAlike m t :=
  ⟨h.cfg, h.manifold, h.suspended, fun n hn => by rw [h.pump n hn], fun n hn => by rw [h.pump n hn]⟩

theorem State.SamePart.targetSet {m : Nat} {s t : State} (h : s.SamePart m t) (need : Nat) :
    t.targetSet m need = s.targetSet m need := by
  rw [State.targetSet, State.targetSet, State.pumpsOf_congr h.cfg, State.leadingPart_congr h.cfg]
  exact congrArg _ (List.filter_congr fun n hn => by rw [h.pump n hn])

/-! ### The target set (R113, R114) -/

/-- The target set a manifold's staging forms (R113, R114). -/
def State.newTargets (s : State) (m : Nat) : List Nat := s.targetSet m (s.manifold m).neededFlow

theorem State.pump_stageTargets (m n : Nat) (s : State) : (s.stageTargets m).pump n = s.pump n := rfl

theorem State.manifold_stageTargets {m : Nat} {s : State} (hm : m < s.pumps.manifolds.length) :
    (s.stageTargets m).manifold m = { s.manifold m with needed := (s.manifold m).neededFlow, targets := s.newTargets m } :=
  (State.manifold_modifyManifold ..).trans (if_pos ⟨rfl, hm⟩)

theorem State.manifold_stageTargets_of_ne {m k : Nat} (h : k ≠ m) (s : State) :
    (s.stageTargets m).manifold k = s.manifold k :=
  (State.manifold_modifyManifold ..).trans (if_neg fun ⟨heq, _⟩ => h heq.symm)

/-- A manifold changed outside what it is configured to and what the nozzles report to it. -/
theorem State.pumpsMove_modifyManifold (m : Nat) {f : Manifold → Manifold} (hcfg : ∀ x, (f x).cfg = x.cfg)
    (hdemand : ∀ x, (f x).demand = x.demand) (hforecast : ∀ x, (f x).forecast = x.forecast) (s : State) :
    s.PumpsMove (s.modifyManifold m f) :=
  { State.PumpsMove.refl s with frame := s.updateFrame_modifyManifold m hcfg hdemand hforecast }

theorem State.pumpsMove_stageTargets (m : Nat) (s : State) : s.PumpsMove (s.stageTargets m) :=
  s.pumpsMove_modifyManifold m
    (f := fun x => { x with needed := (s.manifold m).neededFlow, targets := s.newTargets m })
    (fun _ => rfl) (fun _ => rfl) fun _ => rfl

theorem State.SamePart.stageTargets {m : Nat} {s t : State} (h : s.SamePart m t) (hs : m < s.pumps.manifolds.length)
    (ht : m < t.pumps.manifolds.length) : (s.stageTargets m).SamePart m (t.stageTargets m) where
  cfg := h.cfg
  manifold := by
    rw [State.manifold_stageTargets hs, State.manifold_stageTargets ht, State.newTargets, State.newTargets, h.targetSet,
      h.manifold]
  suspended := h.suspended
  pump := h.pump

/-! ### The queue (R115, R116) -/

/-- A pump after the pumps of the set have joined the queue (R115). -/
def Pump.joined (stopped : List Nat) (n : Nat) (p : Pump) : Pump :=
  if p.state = .idle ∧ n ∉ stopped then p.enter .queued else p

/-- The pumps of a target set that join the queue, in the order in which they join it (R115). -/
def State.joiners (s : State) (stopped targets : List Nat) : List Nat :=
  targets.filter fun n => decide ((s.pump n).state = .idle ∧ n ∉ stopped)

theorem State.pump_joinQueue (stopped : List Nat) (n : Nat) (s : State) (k : Nat) :
    (s.joinQueue stopped n).pump k = if k = n then (s.pump k).joined stopped n else s.pump k := by
  unfold State.joinQueue Pump.joined
  by_cases h : (s.pump n).state = .idle ∧ n ∉ stopped
  · rw [if_pos h]
    refine (State.pump_changePump (s := { s with pumps := { s.pumps with queue := s.pumps.queue ++ [n] } })
      (fun hl : (s.pump n).state = .lockedOut => by rw [hl] at h; cases h.1) _ k).trans ?_
    split
    next hk =>
      subst hk
      rw [if_pos h]
      rfl
    next => rfl
  · rw [if_neg h]
    split
    next hk =>
      subst hk
      rw [if_neg h]
    next => rfl

theorem State.queue_joinQueue (stopped : List Nat) (n : Nat) (s : State) : (s.joinQueue stopped n).pumps.queue =
    s.pumps.queue ++ if (s.pump n).state = .idle ∧ n ∉ stopped then [n] else [] := by
  unfold State.joinQueue
  split
  · rfl
  · exact (List.append_nil _).symm

theorem State.queue_forEach_joinQueue (stopped : List Nat) {l : List Nat} (hl : l.Nodup) (s : State) :
    (forEach l (State.joinQueue stopped) s).pumps.queue = s.pumps.queue ++ s.joiners stopped l := by
  induction l generalizing s with
  | nil => exact (List.append_nil _).symm
  | cons a l ih =>
    obtain ⟨ha, hl⟩ := List.nodup_cons.1 hl
    have hrest : (s.joinQueue stopped a).joiners stopped l = s.joiners stopped l := by
      refine List.filter_congr fun n hn => ?_
      rw [State.pump_joinQueue, if_neg (ne_of_mem_of_not_mem hn ha)]
    rw [forEach_cons, ih hl, State.queue_joinQueue, hrest, List.append_assoc, State.joiners, State.joiners, List.filter_cons]
    by_cases h : (s.pump a).state = .idle ∧ a ∉ stopped
    · rw [if_pos h, if_pos (decide_eq_true h)]
      rfl
    · rw [if_neg h, if_neg (by simpa using h)]
      rfl

theorem State.pump_forEach_joinQueue (stopped : List Nat) {l : List Nat} (hl : l.Nodup) (s : State) (k : Nat) :
    (forEach l (State.joinQueue stopped) s).pump k = if k ∈ l then (s.pump k).joined stopped k else s.pump k :=
  State.pump_forEach (g := fun n => Pump.joined stopped n) (State.pump_joinQueue stopped) hl s k

theorem Pump.joined_state_queued {stopped : List Nat} {n : Nat} {p : Pump} :
    (p.joined stopped n).state = .queued ↔ p.state = .queued ∨ (p.state = .idle ∧ n ∉ stopped) := by
  unfold Pump.joined
  split
  next h => simp [h.1, h.2]
  next h => simp [h]

/-- After the join the queue holds the QUEUED pumps again. -/
theorem State.QueueOk.forEach_joinQueue {s : State} (hs : s.QueueOk) (stopped : List Nat) {l : List Nat} (hl : l.Nodup) :
    (forEach l (State.joinQueue stopped) s).QueueOk where
  nodup := by
    rw [State.queue_forEach_joinQueue stopped hl]
    refine List.nodup_append'.2 ⟨hs.nodup, hl.filter _, fun n hq hj => ?_⟩
    have hidle := of_decide_eq_true (List.mem_filter.1 hj).2
    rw [(hs.mem n).1 hq] at hidle
    cases hidle.1
  mem n := by
    rw [State.queue_forEach_joinQueue stopped hl, State.pump_forEach_joinQueue stopped hl, List.mem_append, hs.mem,
      State.joiners, List.mem_filter, decide_eq_true_iff]
    split
    next h => simp [Pump.joined_state_queued, h]
    next h => simp [h]

theorem State.updateFrame_joinQueue (stopped : List Nat) (n : Nat) (s : State) : s.UpdateFrame (s.joinQueue stopped n) := by
  unfold State.joinQueue
  split
  · refine State.UpdateFrame.trans ?_ (State.updateFrame_enter n .queued _)
    exact { State.UpdateFrame.refl s with outside := rfl }
  · exact .refl s

theorem State.updateFrame_forEach {f : Nat → State → State} (hf : ∀ n s, State.UpdateFrame s (f n s)) (l : List Nat)
    (s : State) : s.UpdateFrame (forEach l f s) :=
  forEach_keeps s.UpdateFrame l f (fun n _ _ h => h.trans (hf n _)) s (.refl s)

/-- What a cancellation does with a pump (R116). -/
def Pump.cancelling (targets : List Nat) (n : Nat) (p : Pump) : PumpAction :=
  if p.state = .queued ∧ n ∉ targets then .dequeues else .stays

theorem Pump.cancelling_fits (targets : List Nat) (n : Nat) (p : Pump) : (p.cancelling targets n).Fits p := by
  unfold Pump.cancelling
  split
  next h => exact h.1
  next => trivial

theorem State.cancelOutside_eq (targets : List Nat) (n : Nat) (s : State) :
    s.cancelOutside targets n = ((s.pump n).cancelling targets n).act n s := by
  unfold State.cancelOutside Pump.cancelling
  split <;> rfl

theorem State.pumpsMove_cancelOutside (targets : List Nat) (n : Nat) (s : State) :
    s.PumpsMove (s.cancelOutside targets n) := by
  rw [State.cancelOutside_eq]
  exact State.pumpsMove_act (Pump.cancelling_fits ..)

theorem State.pump_cancelOutside (targets : List Nat) (n : Nat) (s : State) (k : Nat) : (s.cancelOutside targets n).pump k =
    if k = n then ((s.pump k).cancelling targets n).change (s.pump k) else s.pump k := by
  rw [State.cancelOutside_eq, State.pump_act (Pump.cancelling_fits ..)]
  split
  next h => rw [h]
  next => rfl

/-- A pump of a manifold once its queue has been staged (R115, R116). -/
def Pump.requeued (mayJoin inSet : Bool) (p : Pump) : Pump :=
  match p.state with
  | .idle => if mayJoin && inSet then p.enter .queued else p
  | .queued => if inSet then p else p.enter .idle
  | _ => p

/-- Staging the queue starts and stops no pump. -/
theorem Pump.requeued_state {mayJoin inSet : Bool} {p : Pump} (hq : p.state ≠ .queued) (hi : p.state ≠ .idle) :
    p.requeued mayJoin inSet = p := by
  unfold Pump.requeued
  cases h : p.state <;> simp_all

/-- Which pumps are QUEUED once the queue has been staged: of the set, those that were, and those that may join. -/
theorem Pump.requeued_state_queued {mayJoin inSet : Bool} {p : Pump} : (p.requeued mayJoin inSet).state = .queued ↔
    inSet = true ∧ (p.state = .queued ∨ (p.state = .idle ∧ mayJoin = true)) := by
  unfold Pump.requeued
  cases h : p.state <;> cases inSet <;> cases mayJoin <;> simp [h]

/-- The join of the target set's pumps, which suspension bars (R115, R112). -/
def State.joinStage (stopped targets : List Nat) (s : State) : State :=
  if s.pumps.suspended then s else forEach targets (State.joinQueue stopped) s

theorem State.stageQueue_eq (stopped : List Nat) (m : Nat) (s : State) : s.stageQueue stopped m =
    forEach ((s.joinStage stopped (s.manifold m).targets).pumpsOf m) (State.cancelOutside (s.manifold m).targets)
      (s.joinStage stopped (s.manifold m).targets) := rfl

theorem State.updateFrame_joinStage (stopped targets : List Nat) (s : State) :
    s.UpdateFrame (s.joinStage stopped targets) := by
  unfold State.joinStage
  split
  · exact .refl s
  · exact State.updateFrame_forEach (State.updateFrame_joinQueue stopped) targets s

theorem State.plant_joinStage (stopped targets : List Nat) (s : State) : (s.joinStage stopped targets).plant = s.plant := by
  unfold State.joinStage
  split
  · rfl
  · exact forEach_same State.plant targets _ (fun n _ s => by unfold State.joinQueue; split <;> rfl) s

theorem State.lastGrant_joinStage (stopped targets : List Nat) (s : State) :
    (s.joinStage stopped targets).pumps.lastGrant = s.pumps.lastGrant := by
  unfold State.joinStage
  split
  · rfl
  · exact forEach_same (fun s => s.pumps.lastGrant) targets _ (fun n _ s => by unfold State.joinQueue; split <;> rfl) s

/-- The pumps that join the queue at the staging of a manifold: in suspension none (R115, R112). -/
def State.newJoiners (s : State) (stopped targets : List Nat) : List Nat :=
  if s.pumps.suspended then [] else s.joiners stopped targets

/-- Whether a pump of the target set may join the queue now (R114, R115, R112). -/
def State.mayJoin (s : State) (stopped : List Nat) (n : Nat) : Bool := !s.pumps.suspended && decide (n ∉ stopped)

theorem State.queue_joinStage (stopped : List Nat) {targets : List Nat} (ht : targets.Nodup) (s : State) :
    (s.joinStage stopped targets).pumps.queue = s.pumps.queue ++ s.newJoiners stopped targets := by
  unfold State.joinStage State.newJoiners
  split
  · exact (List.append_nil _).symm
  · exact State.queue_forEach_joinQueue stopped ht s

theorem State.QueueOk.joinStage {s : State} (hs : s.QueueOk) (stopped : List Nat) {targets : List Nat}
    (ht : targets.Nodup) : (s.joinStage stopped targets).QueueOk := by
  unfold State.joinStage
  split
  · exact hs
  · exact hs.forEach_joinQueue stopped ht

theorem State.pump_joinStage (stopped : List Nat) {targets : List Nat} (ht : targets.Nodup) (s : State) (n : Nat) :
    (s.joinStage stopped targets).pump n =
      if n ∈ targets ∧ (s.pump n).state = .idle ∧ s.mayJoin stopped n = true then (s.pump n).enter .queued else s.pump n := by
  unfold State.joinStage State.mayJoin
  cases s.pumps.suspended with
  | true => simp
  | false =>
    simp only [Bool.false_eq_true, if_false, State.pump_forEach_joinQueue stopped ht, Pump.joined]
    by_cases hn : n ∈ targets <;> simp [hn]

/-- Where the pumps of a manifold stand once its queue has been staged. -/
theorem State.pump_stageQueue {stopped : List Nat} {m : Nat} {s : State} {targets : List Nat}
    (ht : (s.manifold m).targets = targets) (hsub : targets.Sublist (s.pumpsOf m)) (n : Nat) :
    (s.stageQueue stopped m).pump n =
      if n ∈ s.pumpsOf m then (s.pump n).requeued (s.mayJoin stopped n) (decide (n ∈ targets)) else s.pump n := by
  have hnodup := hsub.nodup (s.pumpsOf_nodup m)
  have hpumpsOf := State.pumpsOf_congr (s.updateFrame_joinStage stopped targets).pumpCfg m
  have hcancel := State.pump_forEach (g := fun n p => (p.cancelling targets n).change p)
    (State.pump_cancelOutside targets) (s.pumpsOf_nodup m) (s.joinStage stopped targets) n
  rw [State.stageQueue_eq, ht, hpumpsOf, hcancel, State.pump_joinStage stopped hnodup]
  by_cases hn : n ∈ s.pumpsOf m
  · rw [if_pos hn, if_pos hn]
    by_cases hset : n ∈ targets <;> cases hst : (s.pump n).state <;> cases s.mayJoin stopped n <;>
      simp [hset, hst, Pump.requeued, Pump.cancelling, PumpAction.change]
  · rw [if_neg hn, if_neg hn, if_neg fun h => hn (hsub.subset h.1)]

theorem State.updateFrame_stageQueue (stopped : List Nat) (m : Nat) (s : State) : s.UpdateFrame (s.stageQueue stopped m) := by
  rw [State.stageQueue_eq]
  exact (s.updateFrame_joinStage ..).trans (State.pumpsMove_forEach (State.pumpsMove_cancelOutside _) _ _).frame

theorem State.plant_stageQueue (stopped : List Nat) (m : Nat) (s : State) : (s.stageQueue stopped m).plant = s.plant := by
  rw [State.stageQueue_eq]
  refine (forEach_same State.plant _ _ (fun n _ s => ?_) _).trans (s.plant_joinStage ..)
  rw [State.cancelOutside_eq, State.plant_act]

/-- The staging of a manifold's queue starts and stops no pump. -/
theorem State.runsAlike_stageQueue {stopped : List Nat} {m : Nat} {s : State}
    (hsub : (s.manifold m).targets.Sublist (s.pumpsOf m)) : s.RunsAlike m (s.stageQueue stopped m) := by
  obtain ⟨hmanifolds, hsuspended⟩ := Prod.mk.inj (s.plant_stageQueue stopped m)
  have hstate (st : PumpState) (hq : st ≠ .queued) (hi : st ≠ .idle) (n : Nat) (hn : n ∈ s.pumpsOf m) :
      ((s.stageQueue stopped m).pump n).state = st ↔ (s.pump n).state = st := by
    rw [State.pump_stageQueue rfl hsub, if_pos hn]
    unfold Pump.requeued
    cases h : (s.pump n).state <;> dsimp only
    case idle => split <;> simp [h, hq.symm, hi.symm]
    case queued => split <;> simp [h, hq.symm, hi.symm]
    all_goals rw [h]
  exact ⟨(s.updateFrame_stageQueue ..).pumpCfg, by rw [State.manifold, hmanifolds, State.manifold], hsuspended,
    hstate .starting (by decide) (by decide), hstate .running (by decide) (by decide)⟩

/-- The queue once a manifold's pumps have joined it and left it: the others in their order, then the new ones. -/
theorem State.queue_stageQueue {stopped : List Nat} {m : Nat} {s : State} {targets : List Nat} (hs : s.QueueOk)
    (ht : (s.manifold m).targets = targets) (hsub : targets.Sublist (s.pumpsOf m)) :
    (s.stageQueue stopped m).QueueOk ∧ (s.stageQueue stopped m).pumps.queue =
      (s.stageQueue stopped m).stillQueued s.pumps.queue ++ s.newJoiners stopped targets := by
  have hnodup := hsub.nodup (s.pumpsOf_nodup m)
  have hjoined := hs.joinStage stopped hnodup
  have hmove := State.pumpsMove_forEach (State.pumpsMove_cancelOutside targets)
    ((s.joinStage stopped targets).pumpsOf m) (s.joinStage stopped targets)
  have heq : forEach ((s.joinStage stopped targets).pumpsOf m) (State.cancelOutside targets) (s.joinStage stopped targets) =
      s.stageQueue stopped m := by rw [State.stageQueue_eq, ht]
  rw [heq] at hmove
  refine ⟨hjoined.of_move hmove, ?_⟩
  rw [hmove.queue hjoined, State.queue_joinStage stopped hnodup, State.stillQueued, List.filter_append]
  refine congrArg _ (List.filter_eq_self.2 fun n hn => decide_eq_true ?_)
  unfold State.newJoiners at hn
  cases hsuspended : s.pumps.suspended with
  | true => simp [hsuspended] at hn
  | false =>
    simp only [hsuspended, Bool.false_eq_true, if_false, State.joiners, List.mem_filter, decide_eq_true_iff] at hn
    obtain ⟨hset, hidle, hstop⟩ := hn
    rw [State.pump_stageQueue ht hsub, if_pos (hsub.subset hset), Pump.requeued_state_queued]
    exact ⟨decide_eq_true hset, .inr ⟨hidle, by simp [State.mayJoin, hsuspended, hstop]⟩⟩

/-! ### The destage (R117) -/

/-- The destage of a manifold, which suspension bars (R117, R112). -/
def State.destageStage (m : Nat) (s : State) : State := if s.pumps.suspended then s else s.stageDestage m

/-- The pump a manifold destages runs outside its target set. -/
theorem State.destageVictim_spec {s : State} {m n : Nat} (h : s.destageVictim m = some n) :
    n ∈ s.outside m ∧ (s.pump n).state = .running := by
  have hmem := List.mem_of_getLast? h
  rw [List.mem_filter, decide_eq_true_iff] at hmem
  exact hmem

theorem State.destageNext_spec {s : State} {m n : Nat} (h : s.destageNext m = some n) :
    n ∈ s.outside m ∧ (s.pump n).state = .running := by
  obtain ⟨_, -, -, -, hvictim⟩ := State.destageNext_eq_some.1 h
  exact State.destageVictim_spec hvictim

theorem State.destageNext_of_suspended {s : State} {m : Nat} (h : s.pumps.suspended = true) : s.destageNext m = none := by
  cases hnext : s.destageNext m with
  | none => rfl
  | some p =>
    obtain ⟨_, -, hno, -⟩ := State.destageNext_eq_some.1 hnext
    rw [h] at hno
    cases hno

/-- All that the destage of a manifold can do: stop one pump and restart the timer, or set the timer alone. -/
theorem State.destageStage_eq (m : Nat) (s : State) :
    (∃ p, s.destageNext m = some p ∧ s.destageStage m = s.destagePump m p)
    ∨ (s.destageNext m = none ∧ s.destageStage m = s.setDestage m (s.destageAfter m))
    ∨ (s.destageNext m = none ∧ s.destageAfter m = (s.manifold m).destage ∧ s.destageStage m = s) := by
  unfold State.destageStage State.destageAfter
  cases hsuspended : s.pumps.suspended with
  | true => exact .inr (.inr ⟨State.destageNext_of_suspended hsuspended, rfl, rfl⟩)
  | false =>
    unfold State.stageDestage
    by_cases hout : s.outside m = []
    · have hnone : s.destageNext m = none := by
        cases hnext : s.destageNext m with
        | none => rfl
        | some p =>
          obtain ⟨hp, -⟩ := State.destageNext_spec hnext
          rw [hout] at hp
          cases hp
      exact .inr (.inl ⟨hnone, by simp [hout]⟩)
    · cases htimer : (s.manifold m).destage with
      | none =>
        have hnone : s.destageNext m = none := by simp [State.destageNext, htimer]
        exact .inr (.inl ⟨hnone, by simp [hout, hnone]⟩)
      | some c =>
        cases hnext : s.destageNext m with
        | none => exact .inr (.inr ⟨rfl, by simp [hout], by simp [hout]⟩)
        | some p => exact .inl ⟨p, rfl, by simp [hout]⟩

theorem State.pump_destageStage (m : Nat) (s : State) (n : Nat) : (s.destageStage m).pump n =
    if s.destageNext m = some n then (s.pump n).enter .stopping else s.pump n := by
  rcases s.destageStage_eq m with ⟨p, hp, h⟩ | ⟨hnone, h⟩ | ⟨hnone, -, h⟩ <;> rw [h]
  · obtain ⟨-, hrunning⟩ := State.destageNext_spec hp
    refine (State.pump_changePump (by simp [hrunning]) _ n).trans ?_
    simp only [hp, Option.some.injEq, eq_comm]
  · rw [hnone]
    rfl
  · rw [hnone, if_neg (by simp)]

theorem State.manifold_setDestage {m : Nat} {s : State} (hm : m < s.pumps.manifolds.length) (t : Option Nat) :
    (s.setDestage m t).manifold m = { s.manifold m with destage := t } :=
  (State.manifold_modifyManifold ..).trans (if_pos ⟨rfl, hm⟩)

theorem State.manifold_setDestage_of_ne {m k : Nat} (h : k ≠ m) (t : Option Nat) (s : State) :
    (s.setDestage m t).manifold k = s.manifold k :=
  (State.manifold_modifyManifold ..).trans (if_neg fun ⟨heq, _⟩ => h heq.symm)

theorem State.manifold_destageStage {m : Nat} {s : State} (hm : m < s.pumps.manifolds.length) :
    (s.destageStage m).manifold m = { s.manifold m with destage := s.destageAfter m } := by
  rcases s.destageStage_eq m with ⟨p, hp, h⟩ | ⟨-, h⟩ | ⟨-, hsame, h⟩ <;> rw [h]
  · obtain ⟨hout, -⟩ := State.destageNext_spec hp
    obtain ⟨_, -, hno, -⟩ := State.destageNext_eq_some.1 hp
    have hafter : s.destageAfter m = some 0 := by simp [State.destageAfter, hno, List.ne_nil_of_mem hout, hp]
    rw [hafter]
    exact State.manifold_setDestage (s := s.changePump p (Pump.enter .stopping)) hm _
  · exact State.manifold_setDestage hm _
  · rw [hsame]

theorem State.manifold_destageStage_of_ne {m k : Nat} (hk : k ≠ m) (s : State) :
    (s.destageStage m).manifold k = s.manifold k := by
  rcases s.destageStage_eq m with ⟨p, -, h⟩ | ⟨-, h⟩ | ⟨-, -, h⟩ <;> rw [h]
  · exact State.manifold_setDestage_of_ne hk _ _
  · exact State.manifold_setDestage_of_ne hk _ _

theorem State.pumpsMove_setDestage (m : Nat) (t : Option Nat) (s : State) : s.PumpsMove (s.setDestage m t) :=
  s.pumpsMove_modifyManifold m (f := fun x => { x with destage := t }) (fun _ => rfl) (fun _ => rfl) fun _ => rfl

theorem State.pumpsMove_destageStage (m : Nat) (s : State) : s.PumpsMove (s.destageStage m) := by
  rcases s.destageStage_eq m with ⟨p, hp, h⟩ | ⟨-, h⟩ | ⟨-, -, h⟩ <;> rw [h]
  · obtain ⟨-, hrunning⟩ := State.destageNext_spec hp
    exact (State.pumpsMove_changePump (Pump.enter_cfg .stopping) (by simp [hrunning]) (by simp [hrunning]) (by simp)).trans
      (State.pumpsMove_setDestage ..)
  · exact s.pumpsMove_setDestage ..
  · exact .refl s

theorem State.suspended_destageStage (m : Nat) (s : State) : (s.destageStage m).pumps.suspended = s.pumps.suspended := by
  rcases s.destageStage_eq m with ⟨p, -, h⟩ | ⟨-, h⟩ | ⟨-, -, h⟩ <;> rw [h] <;> rfl

/-- A destage raises PUMP_STATE (R111). -/
theorem State.summary_destageStage {m p : Nat} {s : State} (h : s.destageNext m = some p) :
    (s.destageStage m).link.summary.getLsbD 8 = true := by
  rcases s.destageStage_eq m with ⟨q, -, heq⟩ | ⟨hnone, -⟩ | ⟨hnone, -⟩
  · rw [heq, State.destagePump_link]
    simp [Event.mask, Event.bit]
  · rw [h] at hnone
    cases hnone
  · rw [h] at hnone
    cases hnone

/-! ### The speeds (R118) -/

/-- A pass of changes over pumps of the table. -/
theorem State.pump_forEach_modifyPump (f : Pump → Pump) {l : List Nat} (hl : l.Nodup) {s : State}
    (hin : ∀ n ∈ l, n < s.pumps.table.length) (k : Nat) :
    (forEach l (fun n u => u.modifyPump n f) s).pump k = if k ∈ l then f (s.pump k) else s.pump k := by
  induction l generalizing s with
  | nil => simp
  | cons a l ih =>
    obtain ⟨ha, hl⟩ := List.nodup_cons.1 hl
    have hread (k : Nat) : (s.modifyPump a f).pump k = if k = a then f (s.pump k) else s.pump k := by
      rw [State.pump_modifyPump]
      by_cases hk : k = a
      · rw [if_pos ⟨hk.symm, hk ▸ hin a List.mem_cons_self⟩, if_pos hk]
      · rw [if_neg fun ⟨heq, _⟩ => hk heq.symm, if_neg hk]
    rw [forEach_cons, ih hl fun n hn => by simpa using hin n (List.mem_cons_of_mem a hn), hread]
    by_cases hk : k = a
    · subst hk
      simp [ha]
    · simp [hk]

theorem State.runningOf_nodup (s : State) (m : Nat) : (s.runningOf m).Nodup := List.nodup_range.filter _

theorem State.pump_stageSpeeds (m : Nat) (s : State) (n : Nat) : (s.stageSpeeds m).pump n =
    if n ∈ s.runningOf m then (s.pump n).ramp (s.commonSpeed m) else s.pump n :=
  State.pump_forEach_modifyPump _ (s.runningOf_nodup m)
    (fun k hk => State.lt_of_pump_state (by simp [(State.mem_runningOf.1 hk).2])) n

/-- What no change of a pump touches, the speeds do not touch. -/
theorem State.stageSpeeds_same {β : Type} (g : State → β) (h : ∀ n f (u : State), g (u.modifyPump n f) = g u) (m : Nat)
    (s : State) : g (s.stageSpeeds m) = g s := forEach_same g _ _ (fun n _ u => h n _ u) s

theorem State.state_stageSpeeds (m : Nat) (s : State) (n : Nat) : ((s.stageSpeeds m).pump n).state = (s.pump n).state := by
  rw [State.pump_stageSpeeds]
  split <;> rfl

theorem State.updateFrame_stageSpeeds (m : Nat) (s : State) : s.UpdateFrame (s.stageSpeeds m) :=
  State.updateFrame_forEach (f := fun n u => u.modifyPump n (Pump.ramp (s.commonSpeed m)))
    (fun n u => u.updateFrame_modifyPump n (f := Pump.ramp (s.commonSpeed m)) fun _ => rfl) _ s

/-- The speeds change no state, so no place in the queue. -/
theorem State.pumpsMove_stageSpeeds (m : Nat) (s : State) : s.PumpsMove (s.stageSpeeds m) where
  frame := s.updateFrame_stageSpeeds m
  lastGrant := State.stageSpeeds_same (fun s => s.pumps.lastGrant) (fun _ _ _ => rfl) m s
  unjoined n h := by rwa [State.state_stageSpeeds] at h
  queue hs := by
    rw [State.stageSpeeds_same (fun s => s.pumps.queue) (fun _ _ _ => rfl) m s, State.stillQueued]
    exact (List.filter_eq_self.2 fun n hn => decide_eq_true ((s.state_stageSpeeds m n).trans ((hs.mem n).1 hn))).symm

/-- The speeds start and stop no pump. -/
theorem State.runsAlike_stageSpeeds (m : Nat) (s : State) : s.RunsAlike m (s.stageSpeeds m) where
  cfg := (s.updateFrame_stageSpeeds m).pumpCfg
  manifold := State.stageSpeeds_same (fun s => s.manifold m) (fun _ _ _ => rfl) m s
  suspended := State.stageSpeeds_same (fun s => s.pumps.suspended) (fun _ _ _ => rfl) m s
  starting n _ := by rw [State.state_stageSpeeds]
  running n _ := by rw [State.state_stageSpeeds]

/-! ### The staging of a manifold as a whole -/

/-- A pump once its manifold has been staged: in the queue or out of it, destaged, or sped (R113 to R118). -/
def Pump.staged (mayJoin inSet destaged : Bool) (sigma : Nat) (p : Pump) : Pump :=
  if p.state = .running then if destaged then p.enter .stopping else p.ramp sigma else p.requeued mayJoin inSet

theorem State.stage_eq (stopped : List Nat) (m : Nat) (s : State) :
    s.stage stopped m = (((s.stageTargets m).stageQueue stopped m).destageStage m).stageSpeeds m := rfl

/-- What the staging of manifold `m` makes of `s`. -/
structure State.Stages (stopped : List Nat) (m : Nat) (s t : State) : Prop where
  frame : s.UpdateFrame t
  suspended : t.pumps.suspended = s.pumps.suspended
  lastGrant : t.pumps.lastGrant = s.pumps.lastGrant
  manifold : t.manifold m = { s.manifold m with
    needed := (s.manifold m).neededFlow, targets := s.newTargets m, destage := (s.stageTargets m).destageAfter m }
  others : ∀ k ≠ m, t.manifold k = s.manifold k
  pump : ∀ n, t.pump n = if n ∈ s.pumpsOf m then
    (s.pump n).staged (s.mayJoin stopped n) (decide (n ∈ s.newTargets m)) (decide ((s.stageTargets m).destageNext m = some n))
      (t.commonSpeed m) else s.pump n
  queue : s.QueueOk → t.QueueOk ∧
    t.pumps.queue = t.stillQueued s.pumps.queue ++ s.newJoiners stopped (s.newTargets m)
  summary : ∀ n, (s.stageTargets m).destageNext m = some n → t.link.summary.getLsbD 8 = true

/-- In which pumps are QUEUED, the destage and the speeds change nothing (R117, R118). -/
theorem State.state_queued_destaged (m : Nat) (s : State) (n : Nat) :
    (((s.destageStage m).stageSpeeds m).pump n).state = .queued ↔ (s.pump n).state = .queued := by
  rw [State.state_stageSpeeds, State.pump_destageStage]
  split
  next h =>
    obtain ⟨-, hrunning⟩ := State.destageNext_spec h
    simp [hrunning]
  next => rfl

/-- Which pumps are sped once a manifold has been destaged. -/
theorem State.mem_runningOf_destageStage {m n : Nat} {s : State} : n ∈ (s.destageStage m).runningOf m ↔
    n ∈ s.pumpsOf m ∧ (s.pump n).state = .running ∧ s.destageNext m ≠ some n := by
  rw [State.mem_runningOf, State.pumpsOf_congr (s.pumpsMove_destageStage m).frame.pumpCfg, State.pump_destageStage]
  split
  next h => simp [h]
  next h => simp [h]

/-- A pump of the manifold is destaged or sped when it is RUNNING, and else stays as the queue's staging left it. -/
theorem State.pump_destaged (m : Nat) (s : State) {n : Nat} (hn : n ∈ s.pumpsOf m) :
    ((s.destageStage m).stageSpeeds m).pump n = if (s.pump n).state = .running then
      if s.destageNext m = some n then (s.pump n).enter .stopping
      else (s.pump n).ramp (((s.destageStage m).stageSpeeds m).commonSpeed m)
    else s.pump n := by
  rw [((s.destageStage m).runsAlike_stageSpeeds m).commonSpeed, State.pump_stageSpeeds, State.pump_destageStage]
  simp only [State.mem_runningOf_destageStage]
  by_cases hrunning : (s.pump n).state = .running
  · by_cases hnext : s.destageNext m = some n <;> simp [hnext, hrunning, hn]
  · have hnext : s.destageNext m ≠ some n := fun h => hrunning (State.destageNext_spec h).2
    simp [hnext, hrunning]

/-- A pump of another manifold is left alone. -/
theorem State.pump_destaged_of_not_mem (m : Nat) (s : State) {n : Nat} (hn : n ∉ s.pumpsOf m) :
    ((s.destageStage m).stageSpeeds m).pump n = s.pump n := by
  have hnext : s.destageNext m ≠ some n := fun h => hn (List.mem_filter.1 (State.destageNext_spec h).1).1
  rw [State.pump_stageSpeeds, if_neg fun h => hn (State.mem_runningOf_destageStage.1 h).1, State.pump_destageStage,
    if_neg hnext]

theorem State.lastGrant_stageQueue (stopped : List Nat) (m : Nat) (s : State) :
    (s.stageQueue stopped m).pumps.lastGrant = s.pumps.lastGrant := by
  rw [State.stageQueue_eq]
  exact (State.pumpsMove_forEach (State.pumpsMove_cancelOutside _) _ _).lastGrant.trans (s.lastGrant_joinStage ..)

/-- The staging of one manifold is as `State.Stages` says (R113 to R118). -/
theorem State.stages {m : Nat} {s : State} (hm : m < s.pumps.manifolds.length) (stopped : List Nat) :
    s.Stages stopped m (s.stage stopped m) := by
  have hformed := State.manifold_stageTargets hm
  have hothers (k : Nat) (hk : k ≠ m) : (s.stageTargets m).manifold k = s.manifold k := State.manifold_stageTargets_of_ne hk s
  have hform := s.pumpsMove_stageTargets m
  have htargets : ((s.stageTargets m).manifold m).targets = s.newTargets m := by rw [hformed]
  have hsub : (s.newTargets m).Sublist ((s.stageTargets m).pumpsOf m) := s.targetSet_sublist ..
  have hpump (n : Nat) : (s.stageTargets m).pump n = s.pump n := rfl
  have hpumpsOf : (s.stageTargets m).pumpsOf m = s.pumpsOf m := rfl
  have hmayJoin : (s.stageTargets m).mayJoin stopped = s.mayJoin stopped := rfl
  have hjoiners : (s.stageTargets m).newJoiners stopped = s.newJoiners stopped := rfl
  have hqueueOk : s.QueueOk → (s.stageTargets m).QueueOk := fun hs => hs.of_move hform
  have hqueue : (s.stageTargets m).pumps.queue = s.pumps.queue := rfl
  have hsuspended : (s.stageTargets m).pumps.suspended = s.pumps.suspended := rfl
  rw [State.stage_eq]
  generalize hf : s.stageTargets m = f at *
  have halike : f.RunsAlike m (f.stageQueue stopped m) := State.runsAlike_stageQueue (htargets ▸ hsub)
  have hqframe := f.updateFrame_stageQueue stopped m
  have hqplant := f.plant_stageQueue stopped m
  have hqpump := State.pump_stageQueue (stopped := stopped) htargets hsub
  have hqpumpsOf := State.pumpsOf_congr hqframe.pumpCfg m
  have hqm : m < (f.stageQueue stopped m).pumps.manifolds.length := by rwa [hqframe.manifolds, hform.frame.manifolds]
  have hmove := (State.pumpsMove_destageStage m (f.stageQueue stopped m)).trans (State.pumpsMove_stageSpeeds m _)
  refine ⟨hform.frame.trans (hqframe.trans hmove.frame), ?suspended,
    hmove.lastGrant.trans ((f.lastGrant_stageQueue ..).trans hform.lastGrant), ?manifold, ?others, ?pump, ?queue, ?summary⟩
  case suspended =>
    rw [State.stageSpeeds_same (fun s => s.pumps.suspended) fun _ _ _ => rfl, State.suspended_destageStage, halike.suspended,
      hsuspended]
  case manifold =>
    rw [State.stageSpeeds_same (fun s => s.manifold m) fun _ _ _ => rfl, State.manifold_destageStage hqm, halike.manifold,
      halike.destageAfter, hformed, hf]
  case others =>
    intro k hk
    rw [State.stageSpeeds_same (fun s => s.manifold k) fun _ _ _ => rfl, State.manifold_destageStage_of_ne hk, State.manifold,
      (Prod.mk.inj hqplant).1, ← hothers k hk, State.manifold]
  case pump =>
    intro n
    by_cases hn : n ∈ s.pumpsOf m
    · rw [if_pos hn, State.pump_destaged m _ (by rwa [hqpumpsOf, hpumpsOf]), hqpump, hpumpsOf, if_pos hn, hpump, hmayJoin,
        halike.destageNext, hf, Pump.staged]
      simp only [decide_eq_true_eq]
      by_cases hrunning : (s.pump n).state = .running
      · rw [if_pos hrunning, Pump.requeued_state (by simp [hrunning]) (by simp [hrunning]), if_pos hrunning]
      · rw [if_neg hrunning, if_neg]
        have hruns := halike.running n (by rwa [hpumpsOf])
        rw [hqpump, hpumpsOf, if_pos hn, hpump, hmayJoin] at hruns
        exact mt hruns.1 hrunning
    · rw [if_neg hn, State.pump_destaged_of_not_mem m _ (by rwa [hqpumpsOf, hpumpsOf]), hqpump, hpumpsOf, if_neg hn, hpump]
  case queue =>
    intro hs
    obtain ⟨hqok, hq⟩ := State.queue_stageQueue (stopped := stopped) (hqueueOk hs) htargets hsub
    have hsame (l : List Nat) : (((f.stageQueue stopped m).destageStage m).stageSpeeds m).stillQueued l =
        (f.stageQueue stopped m).stillQueued l :=
      List.filter_congr fun n _ => decide_eq_decide.2 (State.state_queued_destaged m _ n)
    refine ⟨hqok.of_move hmove, ?_⟩
    rw [hmove.queue hqok, hsame, hsame, ← (State.PumpsMove.refl (f.stageQueue stopped m)).queue hqok, hq, hqueue, hjoiners]
  case summary =>
    intro n hn
    rw [hf] at hn
    exact (State.pumpsMove_stageSpeeds m _).frame.summary 8 (State.summary_destageStage (halike.destageNext.trans hn))

end Sys2Proof.Machine
end

section
/-! PROOF. A pump update as a whole: the manifolds staged one after another, the grant and the publication (R106, R113 to
R120). -/
namespace Sys2Proof.Machine

/-! ### One manifold after another -/

/-- The queue joiners of manifold `m`, as the staging of the manifolds finds them (R115). -/
def State.joinersOf (s : State) (stopped : List Nat) (m : Nat) : List Nat := s.newJoiners stopped (s.newTargets m)

/-- Manifold `m` and its pumps in `u`, once the staging that found them as in `v` has passed them (R113 to R118). -/
structure State.StagedAt (stopped : List Nat) (m : Nat) (v u : State) : Prop where
  manifold : u.manifold m = { v.manifold m with
    needed := (v.manifold m).neededFlow, targets := v.newTargets m, destage := (v.stageTargets m).destageAfter m }
  pump : ∀ n ∈ v.pumpsOf m, u.pump n =
    (v.pump n).staged (v.mayJoin stopped n) (decide (n ∈ v.newTargets m)) (decide ((v.stageTargets m).destageNext m = some n))
      (u.commonSpeed m)
  summary : ∀ n, (v.stageTargets m).destageNext m = some n → u.link.summary.getLsbD 8 = true

/-- A pump of one manifold is of no other. -/
theorem State.not_mem_pumpsOf {s : State} {m k n : Nat} (hn : n ∈ s.pumpsOf m) (h : m ≠ k) : n ∉ s.pumpsOf k := by
  rw [State.mem_pumpsOf] at hn ⊢
  rintro ⟨-, -, hk⟩
  exact h (hn.2.2.symm.trans hk)

/-- The staging of one manifold leaves every other. -/
theorem State.Stages.samePart {stopped : List Nat} {m k : Nat} {s t : State} (h : s.Stages stopped m t) (hk : k ≠ m) :
    s.SamePart k t where
  cfg := h.frame.pumpCfg
  manifold := h.others k hk
  suspended := h.suspended
  pump n hn := by rw [h.pump n, if_neg (State.not_mem_pumpsOf hn hk)]

theorem State.SamePart.newTargets {m : Nat} {s t : State} (h : s.SamePart m t) : t.newTargets m = s.newTargets m := by
  rw [State.newTargets, State.newTargets, h.manifold, h.targetSet]

theorem State.SamePart.mayJoin {m : Nat} {s t : State} (h : s.SamePart m t) (stopped : List Nat) (n : Nat) :
    t.mayJoin stopped n = s.mayJoin stopped n := by rw [State.mayJoin, State.mayJoin, h.suspended]

theorem State.SamePart.joinersOf {m : Nat} {s t : State} (h : s.SamePart m t) (stopped : List Nat) :
    t.joinersOf stopped m = s.joinersOf stopped m := by
  unfold State.joinersOf State.newJoiners
  rw [h.suspended, h.newTargets]
  refine congrArg _ (List.filter_congr fun n hn => ?_)
  rw [h.pump n (State.mem_pumpsOf_of_mem_targetSet hn)]

/-- The staging of a manifold that is still as in `v`. -/
theorem State.Stages.stagedAt {stopped : List Nat} {m : Nat} {v s t : State} (h : s.Stages stopped m t)
    (hv : v.SamePart m s) (hvm : m < v.pumps.manifolds.length) (hsm : m < s.pumps.manifolds.length) :
    v.StagedAt stopped m t := by
  have hformed := (hv.stageTargets hvm hsm).runsAlike
  refine ⟨?_, fun n hn => ?_, fun n hn => h.summary n (by rwa [hformed.destageNext])⟩
  · rw [h.manifold, hv.manifold, hv.newTargets, hformed.destageAfter]
  · rw [h.pump n, State.pumpsOf_congr hv.cfg, if_pos hn, hv.pump n hn, hv.newTargets, hformed.destageNext, hv.mayJoin]

/-- What has been staged stays so while other manifolds are. -/
theorem State.StagedAt.trans {stopped : List Nat} {m : Nat} {v u t : State} (h : v.StagedAt stopped m u)
    (hcfg : ∀ n, (u.pump n).cfg = (v.pump n).cfg) (hsame : u.SamePart m t)
    (hsummary : u.link.summary.getLsbD 8 = true → t.link.summary.getLsbD 8 = true) : v.StagedAt stopped m t where
  manifold := hsame.manifold.trans h.manifold
  pump n hn := by
    rw [hsame.pump n (by rwa [State.pumpsOf_congr hcfg]), h.pump n hn, hsame.runsAlike.commonSpeed]
  summary n hn := hsummary (h.summary n hn)

/-- From `v` to `u` the first `k` manifolds have been staged. -/
structure State.StagedTo (stopped : List Nat) (k : Nat) (v u : State) : Prop where
  frame : v.UpdateFrame u
  suspended : u.pumps.suspended = v.pumps.suspended
  lastGrant : u.pumps.lastGrant = v.pumps.lastGrant
  ahead : ∀ m, k ≤ m → v.SamePart m u
  behind : ∀ m < k, v.StagedAt stopped m u
  outside : ∀ n, (∀ m < k, n ∉ v.pumpsOf m) → u.pump n = v.pump n
  queue : v.QueueOk → u.QueueOk ∧
    u.pumps.queue = u.stillQueued v.pumps.queue ++ (List.range k).flatMap (v.joinersOf stopped)

/-- Pumps that join at the staging of a manifold are pumps of it. -/
theorem State.mem_pumpsOf_of_mem_joinersOf {s : State} {stopped : List Nat} {m n : Nat} (h : n ∈ s.joinersOf stopped m) :
    n ∈ s.pumpsOf m := by
  unfold State.joinersOf State.newJoiners at h
  split at h
  · cases h
  · exact State.mem_pumpsOf_of_mem_targetSet (List.mem_filter.1 h).1

/-- The queue after one more manifold. -/
theorem State.StagedTo.queue_succ {stopped : List Nat} {k : Nat} {v u t : State} (h : v.StagedTo stopped k u)
    (ht : u.Stages stopped k t) (hv : v.QueueOk) : t.QueueOk ∧
      t.pumps.queue = t.stillQueued v.pumps.queue ++ (List.range (k + 1)).flatMap (v.joinersOf stopped) := by
  obtain ⟨huok, huqueue⟩ := h.queue hv
  obtain ⟨htok, htqueue⟩ := ht.queue huok
  have hpumpsOf := State.pumpsOf_congr h.frame.pumpCfg k
  have hsame (n : Nat) (hn : n ∉ v.pumpsOf k) : t.pump n = u.pump n := by rw [ht.pump n, hpumpsOf, if_neg hn]
  have hleft : t.stillQueued (u.stillQueued v.pumps.queue) = t.stillQueued v.pumps.queue := by
    rw [State.stillQueued, State.stillQueued, List.filter_filter, State.stillQueued]
    refine List.filter_congr fun n hn => ?_
    by_cases hk : n ∈ v.pumpsOf k
    · rw [(h.ahead k le_rfl).pump n hk, decide_eq_true ((hv.mem n).1 hn), Bool.and_true]
    · rw [hsame n hk, Bool.and_self]
  have hjoined : t.stillQueued ((List.range k).flatMap (v.joinersOf stopped)) =
      (List.range k).flatMap (v.joinersOf stopped) := by
    refine List.filter_eq_self.2 fun n hn => decide_eq_true ?_
    obtain ⟨m, hm, hnm⟩ := List.mem_flatMap.1 hn
    rw [hsame n (State.not_mem_pumpsOf (State.mem_pumpsOf_of_mem_joinersOf hnm) (List.mem_range.1 hm).ne),
      ← huok.mem, huqueue]
    exact List.mem_append_right _ hn
  refine ⟨htok, ?_⟩
  rw [htqueue, huqueue, State.stillQueued, List.filter_append]
  change t.stillQueued (u.stillQueued v.pumps.queue) ++ t.stillQueued _ ++ u.joinersOf stopped k = _
  rw [hleft, hjoined, (h.ahead k le_rfl).joinersOf, List.range_succ, List.flatMap_append, List.append_assoc]
  simp

/-- One more manifold staged. -/
theorem State.StagedTo.succ {stopped : List Nat} {k : Nat} {v u : State} (h : v.StagedTo stopped k u)
    (hk : k < v.pumps.manifolds.length) : v.StagedTo stopped (k + 1) (u.stage stopped k) := by
  have hku : k < u.pumps.manifolds.length := by rwa [h.frame.manifolds]
  have hstage := State.stages hku stopped
  refine ⟨h.frame.trans hstage.frame, hstage.suspended.trans h.suspended, hstage.lastGrant.trans h.lastGrant,
    fun m hm => (h.ahead m (by omega)).trans (hstage.samePart (by omega)), fun m hm => ?_, fun n hn => ?_,
    fun hv => h.queue_succ hstage hv⟩
  · rcases Nat.lt_succ_iff_lt_or_eq.1 hm with hlt | rfl
    · exact (h.behind m hlt).trans h.frame.pumpCfg (hstage.samePart hlt.ne) (hstage.frame.summary 8)
    · exact hstage.stagedAt (h.ahead m le_rfl) hk hku
  · rw [hstage.pump n, State.pumpsOf_congr h.frame.pumpCfg, if_neg (hn k k.lt_succ_self),
      h.outside n fun m hm => hn m (hm.trans k.lt_succ_self)]

theorem State.stagedTo (stopped : List Nat) (v : State) {k : Nat} (hk : k ≤ v.pumps.manifolds.length) :
    v.StagedTo stopped k (forEach (List.range k) (State.stage stopped) v) := by
  induction k with
  | zero =>
    exact ⟨.refl v, rfl, rfl, fun m _ => .refl m v, fun m hm => absurd hm m.not_lt_zero, fun _ _ => rfl,
      fun hv => ⟨hv, ((List.append_nil _).trans ((State.PumpsMove.refl v).queue hv).symm).symm⟩⟩
  | succ k ih =>
    have hsplit : forEach (List.range (k + 1)) (State.stage stopped) v =
        (forEach (List.range k) (State.stage stopped) v).stage stopped k := by
      rw [List.range_succ, forEach, List.foldl_append]
      rfl
    rw [hsplit]
    exact (ih (by omega)).succ (by omega)

/-! ### Staged -/

/-- The staging stage of an update that began in `s` (Table 5-5). -/
theorem State.updateStaged_stagedTo {s : State} (hs : s.sized) :
    s.updateInputs.StagedTo s.stoppingPumps 8 s.updateStaged := by
  obtain ⟨-, -, -, -, hmanifolds, -⟩ := hs
  exact State.stagedTo s.stoppingPumps s.updateInputs (by rw [s.pumpsMove_updateInputs.frame.manifolds, hmanifolds])

theorem State.pumpsOk_queueOk {s : State} (hs : s.pumpsOk) : s.QueueOk := by
  obtain ⟨⟨-, -, -, -, -, htable, -⟩, hnodup, hin, hmem, -⟩ := hs
  refine ⟨hnodup, fun n => ?_⟩
  rcases Nat.lt_or_ge n 16 with hn | hn
  · exact hmem n hn
  · refine ⟨fun hq => absurd (hin n hq) (by omega), fun hq => absurd (State.lt_of_pump_state (s := s) (n := n) ?_) (by omega)⟩
    simp [hq]

/-- Where a present pump of a manifold stands once staging is done. -/
theorem State.pump_updateStaged {s : State} (hs : s.pumpsOk) {n m : Nat} (hn : n < 16)
    (hpresent : (s.pump n).cfg.present = true) (hm : (s.pump n).cfg.manifold = m) (hm8 : m < 8) :
    s.updateStaged.pump n = (s.settledPump n).staged (!s.suspensionHolds && decide (n ∉ s.stoppingPumps))
      (decide (n ∈ (s.updateStaged.manifold m).targets))
      (decide ((s.updateInputs.stageTargets m).destageNext m = some n)) (s.updateStaged.commonSpeed m) := by
  have hstaged := (State.updateStaged_stagedTo hs.1).behind m hm8
  have hmem : n ∈ s.updateInputs.pumpsOf m := by
    rw [State.pumpsOf_congr s.pumpsMove_updateInputs.frame.pumpCfg]
    exact State.mem_pumpsOf.2 ⟨hn, hpresent, hm⟩
  rw [hstaged.pump n hmem, hstaged.manifold, State.pump_updateInputs hs hn, State.mayJoin, s.updateInputs_suspended]

/-- A pump that no manifold stages. -/
theorem State.pump_updateStaged_of_unstaged {s : State} (hs : s.pumpsOk) {n : Nat} (hn : n < 16)
    (h : (s.pump n).cfg.present = false ∨ 8 ≤ (s.pump n).cfg.manifold) : s.updateStaged.pump n = s.settledPump n := by
  rw [(State.updateStaged_stagedTo hs.1).outside n fun m hm hmem => ?_, State.pump_updateInputs hs hn]
  rw [State.pumpsOf_congr s.pumpsMove_updateInputs.frame.pumpCfg, State.mem_pumpsOf] at hmem
  obtain ⟨-, hpresent, hmanifold⟩ := hmem
  rcases h with h | h
  · rw [hpresent] at h
    cases h
  · omega

theorem State.updateFrame_updateStaged {s : State} (hs : s.sized) : s.UpdateFrame s.updateStaged :=
  s.pumpsMove_updateInputs.frame.trans (State.updateStaged_stagedTo hs).frame

theorem State.updateStaged_suspended {s : State} (hs : s.sized) : s.updateStaged.pumps.suspended = s.suspensionHolds := by
  rw [(State.updateStaged_stagedTo hs).suspended, s.updateInputs_suspended]

theorem State.updateStaged_lastGrant {s : State} (hs : s.sized) : s.updateStaged.pumps.lastGrant = s.pumps.lastGrant := by
  rw [(State.updateStaged_stagedTo hs).lastGrant, s.pumpsMove_updateInputs.lastGrant]

theorem State.mem_stoppingPumps {s : State} {n : Nat} :
    n ∈ s.stoppingPumps ↔ n < 16 ∧ (s.pump n).state = .stopping := by
  simp [State.stoppingPumps]

/-- A pump that may join the queue was IDLE when the update began (R114, log entry 33). -/
theorem State.idle_of_joins {s : State} {n : Nat} (hn : n < 16) (hholds : s.suspensionHolds = false)
    (hstop : n ∉ s.stoppingPumps) (h : (s.settledPump n).state = .idle) : (s.pump n).state = .idle := by
  rw [State.settledPump, hholds, if_neg Bool.false_ne_true] at h
  exact (Pump.idle_of_examined h).resolve_right fun hst => hstop (State.mem_stoppingPumps.2 ⟨hn, hst⟩)

/-- A pump that is QUEUED once its manifold is staged: in the set, and QUEUED before or let join. -/
theorem Pump.staged_state_queued {mayJoin inSet destaged : Bool} {sigma : Nat} {p : Pump} :
    (p.staged mayJoin inSet destaged sigma).state = .queued ↔
      inSet = true ∧ (p.state = .queued ∨ (p.state = .idle ∧ mayJoin = true)) := by
  unfold Pump.staged
  split
  next h =>
    split <;> simp [h, Pump.ramp]
  next => exact Pump.requeued_state_queued

/-- A pump that starts or runs once its manifold is staged did so before. -/
theorem Pump.staged_state {mayJoin inSet destaged : Bool} {sigma : Nat} {p : Pump} :
    ((p.staged mayJoin inSet destaged sigma).state = .starting ↔ p.state = .starting)
      ∧ ((p.staged mayJoin inSet destaged sigma).state = .running ↔ p.state = .running ∧ destaged = false) := by
  unfold Pump.staged Pump.requeued
  cases h : p.state <;> cases inSet <;> cases mayJoin <;> cases destaged <;> simp [h, Pump.ramp]

/-- Where a pump of the table stands once staging is done: staged by its manifold, or left as the inputs left it. -/
theorem State.pump_updateStaged_cases {s : State} (hs : s.pumpsOk) {n : Nat} (hn : n < 16) :
    ((s.pump n).cfg.present = true ∧ ∃ inSet destaged sigma, s.updateStaged.pump n =
        (s.settledPump n).staged (!s.suspensionHolds && decide (n ∉ s.stoppingPumps)) inSet destaged sigma)
      ∨ s.updateStaged.pump n = s.settledPump n := by
  by_cases h : (s.pump n).cfg.present = false ∨ 8 ≤ (s.pump n).cfg.manifold
  · exact .inr (State.pump_updateStaged_of_unstaged hs hn h)
  · obtain ⟨hpresent, hm⟩ := not_or.1 h
    rw [Bool.not_eq_false] at hpresent
    exact .inl ⟨hpresent, _, _, _, State.pump_updateStaged hs hn hpresent rfl (by omega)⟩

/-- A pump QUEUED once staging is done was QUEUED once the inputs were examined, or was IDLE when the update began. -/
theorem State.queued_of_updateStaged {s : State} (hs : s.pumpsOk) {n : Nat} (hn : n < 16)
    (h : (s.updateStaged.pump n).state = .queued) :
    (s.settledPump n).state = .queued ∨ (s.suspensionHolds = false ∧ (s.pump n).state = .idle) := by
  rcases State.pump_updateStaged_cases hs hn with ⟨-, _, _, _, heq⟩ | heq
  · rw [heq, Pump.staged_state_queued] at h
    obtain ⟨-, hq | ⟨hidle, hjoin⟩⟩ := h
    · exact .inl hq
    · rw [Bool.and_eq_true, Bool.not_eq_true', decide_eq_true_iff] at hjoin
      exact .inr ⟨hjoin.1, State.idle_of_joins hn hjoin.1 hjoin.2 hidle⟩
  · exact .inl (heq ▸ h)

/-- The inputs and the suspension take no pump out of the queue that is QUEUED once staging is done. -/
theorem State.stillQueued_updateStaged {s : State} (hs : s.pumpsOk) :
    s.updateStaged.stillQueued (s.updateInputs.stillQueued s.pumps.queue) = s.updateStaged.stillQueued s.pumps.queue := by
  have hok := State.pumpsOk_queueOk hs
  rw [State.stillQueued, State.stillQueued, List.filter_filter, State.stillQueued]
  refine List.filter_congr fun n hn => ?_
  have ⟨_, _, hin, _⟩ := hs
  by_cases hw : (s.updateStaged.pump n).state = .queued
  · have hsettled := (State.queued_of_updateStaged hs (hin n hn) hw).resolve_right fun ⟨_, hidle⟩ => by
      rw [(hok.mem n).1 hn] at hidle
      cases hidle
    rw [State.pump_updateInputs hs (hin n hn), decide_eq_true hsettled, Bool.and_true]
  · simp [hw]

/-- The queue once staging is done: the pumps that are still QUEUED, in their order, then the new ones by manifold. -/
theorem State.updateStaged_queue {s : State} (hs : s.pumpsOk) : s.updateStaged.QueueOk ∧ s.updateStaged.pumps.queue =
    s.updateStaged.stillQueued s.pumps.queue ++ (List.range 8).flatMap (s.updateInputs.joinersOf s.stoppingPumps) := by
  have hok := State.pumpsOk_queueOk hs
  have hmove := s.pumpsMove_updateInputs
  obtain ⟨hwok, hqueue⟩ := (State.updateStaged_stagedTo hs.1).queue (hok.of_move hmove)
  rw [hmove.queue hok, State.stillQueued_updateStaged hs] at hqueue
  exact ⟨hwok, hqueue⟩

/-! ### The grant (R119) -/

/-- The pump granted is the first of the queue, and QUEUED. -/
theorem State.grantNext_spec {w : State} (hw : w.QueueOk) {n : Nat} (h : w.grantNext = some n) :
    (w.pump n).state = .queued ∧ w.pumps.queue = n :: w.pumps.queue.tail := by
  obtain ⟨-, -, -, hhead⟩ := State.grantNext_eq_some.1 h
  exact ⟨(hw.mem n).1 (List.mem_of_head? hhead), (List.cons_head?_tail hhead).symm⟩

theorem State.grant_of_none {w : State} (h : w.grantNext = none) : w.grant = w := by
  rw [State.grant, h]

theorem State.grant_of_some {w : State} {n : Nat} (h : w.grantNext = some n) : w.grant = w.grantPump n := by
  rw [State.grant, h]

theorem State.pump_grant {w : State} (hw : w.QueueOk) (n : Nat) : w.grant.pump n =
    if w.grantNext = some n then (w.pump n).enter .starting else w.pump n := by
  cases hnext : w.grantNext with
  | none =>
    rw [State.grant_of_none hnext, if_neg (by simp)]
  | some k =>
    obtain ⟨hq, -⟩ := State.grantNext_spec hw hnext
    rw [State.grant_of_some hnext]
    refine (State.pump_changePump (s := { w with pumps := { w.pumps with
      queue := w.pumps.queue.tail, lastGrant := some w.timer.device } }) (n := k)
      (fun hl : (w.pump k).state = .lockedOut => by rw [hl] at hq; cases hq) _ n).trans ?_
    simp only [Option.some.injEq, eq_comm]
    rfl

theorem State.queue_grant (w : State) : w.grant.pumps.queue =
    if w.grantNext.isSome then w.pumps.queue.tail else w.pumps.queue := by
  cases hnext : w.grantNext with
  | none => rw [State.grant_of_none hnext]; rfl
  | some k => rw [State.grant_of_some hnext]; rfl

theorem State.lastGrant_grant (w : State) : w.grant.pumps.lastGrant =
    if w.grantNext.isSome then some w.timer.device else w.pumps.lastGrant := by
  cases hnext : w.grantNext with
  | none => rw [State.grant_of_none hnext]; rfl
  | some k => rw [State.grant_of_some hnext]; rfl

theorem State.plant_grant (w : State) : w.grant.plant = w.plant := by
  cases hnext : w.grantNext with
  | none => rw [State.grant_of_none hnext]
  | some k => rw [State.grant_of_some hnext]; rfl

theorem State.updateFrame_grant (w : State) : w.UpdateFrame w.grant := by
  cases hnext : w.grantNext with
  | none => rw [State.grant_of_none hnext]; exact .refl w
  | some k =>
    rw [State.grant_of_some hnext]
    refine State.UpdateFrame.trans ?_ (State.updateFrame_enter k .starting _)
    exact { State.UpdateFrame.refl w with outside := rfl }

/-- A grant raises PUMP_STATE (R111). -/
theorem State.summary_grant {w : State} {n : Nat} (h : w.grantNext = some n) : w.grant.link.summary.getLsbD 8 = true := by
  rw [State.grant_of_some h, State.grantPump_link]
  simp [Event.mask, Event.bit]

/-- The queue holds the QUEUED pumps after a grant too. -/
theorem State.QueueOk.grant {w : State} (hw : w.QueueOk) : w.grant.QueueOk := by
  cases hnext : w.grantNext with
  | none => rwa [State.grant_of_none hnext]
  | some k =>
    obtain ⟨hq, hqueue⟩ := State.grantNext_spec hw hnext
    have hnodup := hw.nodup
    rw [hqueue, List.nodup_cons] at hnodup
    refine ⟨?_, fun n => ?_⟩
    · rw [State.queue_grant, hnext]
      exact hnodup.2
    · rw [State.queue_grant, State.pump_grant hw, hnext]
      simp only [Option.isSome_some, if_true, Option.some.injEq]
      have hmem := hw.mem n
      rw [hqueue, List.mem_cons] at hmem
      by_cases hk : k = n
      · subst hk
        simp [hnodup.1]
      · rw [if_neg hk, ← hmem]
        simp [Ne.symm hk]

/-! ### The update as a whole -/

/-- The state after an update that was outstanding. -/
def State.updated (s : State) : State := s.pumpUpdate.modifyDue fun d => { d with pump := false }

theorem exec_pumpUpdate_due {s : State} (h : s.due.pump = true) : exec .pumpUpdate s = .next s.updated :=
  congrArg Host.Outcome.next (State.takePumps_due h)

theorem exec_pumpUpdate_idle {s : State} (h : s.due.pump = false) : exec .pumpUpdate s = .next s :=
  congrArg Host.Outcome.next (State.takePumps_idle h)

/-- Publication touches the supplies alone (R120). -/
theorem State.pump_publish (u : State) (n : Nat) : u.publish.pump n = u.pump n := rfl

theorem State.supplyOf_publish (u : State) (m : Nat) : u.publish.supplyOf m = u.supplyOf m := rfl

theorem State.manifold_publish {u : State} {m : Nat} (hm : m < u.pumps.manifolds.length) :
    u.publish.manifold m = { u.manifold m with supply := u.supplyOf m } := by
  simp only [State.manifold, State.publish, List.getD_eq_getElem?_getD, List.getElem?_map, List.getElem?_zipIdx,
    List.getElem?_eq_getElem hm, Option.map_some, Option.getD_some, Nat.zero_add]

/-- What the publication and the taking of the update leave to the manifolds. -/
theorem State.updateFrame_publish (u : State) : u.UpdateFrame u.publish := by
  have hmanifold (m : Nat) : ∃ supply, u.publish.manifold m = { u.manifold m with supply := supply } := by
    rcases Nat.lt_or_ge m u.pumps.manifolds.length with h | h
    · exact ⟨_, State.manifold_publish h⟩
    · refine ⟨(u.manifold m).supply, ?_⟩
      simp [State.manifold, State.publish, List.getD_eq_getElem?_getD, List.getElem?_eq_none h]
  refine { State.UpdateFrame.refl u with outside := rfl, manifolds := ?_, manifoldCfg := ?_, demand := ?_, forecast := ?_ }
  · simp [State.publish]
  all_goals
    intro m
    obtain ⟨_, h⟩ := hmanifold m
    rw [h]

theorem State.pump_modifyDue (f : Due → Due) (u : State) (n : Nat) : (u.modifyDue f).pump n = u.pump n := rfl

theorem State.manifold_modifyDue (f : Due → Due) (u : State) (m : Nat) : (u.modifyDue f).manifold m = u.manifold m := rfl

theorem State.supplyOf_modifyDue (f : Due → Due) (u : State) (m : Nat) : (u.modifyDue f).supplyOf m = u.supplyOf m := rfl

theorem State.pumpUpdate_eq (s : State) : s.pumpUpdate = s.updateStaged.grant.publish := rfl

theorem State.pump_updated {s : State} (hs : s.pumpsOk) (n : Nat) : s.updated.pump n =
    if s.updateStaged.grantNext = some n then (s.updateStaged.pump n).enter .starting else s.updateStaged.pump n := by
  rw [State.updated, State.pump_modifyDue, s.pumpUpdate_eq, State.pump_publish,
    State.pump_grant (State.updateStaged_queue hs).1]

theorem State.publish_queue (u : State) : u.publish.pumps.queue = u.pumps.queue := rfl

theorem State.publish_lastGrant (u : State) : u.publish.pumps.lastGrant = u.pumps.lastGrant := rfl

theorem State.publish_suspended (u : State) : u.publish.pumps.suspended = u.pumps.suspended := rfl

theorem State.updated_queue (s : State) : s.updated.pumps.queue =
    if s.updateStaged.grantNext.isSome then s.updateStaged.pumps.queue.tail else s.updateStaged.pumps.queue := by
  rw [State.updated, State.modifyDue_pumps, s.pumpUpdate_eq, State.publish_queue, State.queue_grant]

theorem State.updated_suspended {s : State} (hs : s.sized) : s.updated.pumps.suspended = s.suspensionHolds := by
  rw [State.updated, State.modifyDue_pumps, s.pumpUpdate_eq, State.publish_suspended,
    (Prod.mk.inj s.updateStaged.plant_grant).2, State.updateStaged_suspended hs]

theorem State.updateFrame_pumpUpdate {s : State} (hs : s.sized) : s.UpdateFrame s.pumpUpdate := by
  rw [s.pumpUpdate_eq]
  exact (State.updateFrame_updateStaged hs).trans (s.updateStaged.updateFrame_grant.trans (State.updateFrame_publish _))

theorem State.updated_lastGrant {s : State} (hs : s.sized) : s.updated.pumps.lastGrant =
    if s.updateStaged.grantNext.isSome then some s.timer.device else s.pumps.lastGrant := by
  rw [State.updated, State.modifyDue_pumps, s.pumpUpdate_eq, State.publish_lastGrant, State.lastGrant_grant,
    State.updateStaged_lastGrant hs, (State.updateFrame_updateStaged hs).outside]

/-- The manifolds after an update: as staged, with the supply of their RUNNING pumps published (R120). -/
theorem State.manifold_updated {s : State} (hs : s.sized) {m : Nat} (hm : m < 8) :
    s.updated.manifold m = { s.updateStaged.manifold m with supply := s.updated.supplyOf m } := by
  have hlen : m < s.updateStaged.grant.pumps.manifolds.length := by
    rw [s.updateStaged.updateFrame_grant.manifolds, (State.updateFrame_updateStaged hs).manifolds]
    obtain ⟨-, -, -, -, hmanifolds, -⟩ := hs
    omega
  rw [State.updated, State.manifold_modifyDue, State.supplyOf_modifyDue, s.pumpUpdate_eq, State.manifold_publish hlen,
    State.supplyOf_publish, State.manifold, (Prod.mk.inj s.updateStaged.plant_grant).1, State.manifold]

end Sys2Proof.Machine
end

section
/-! PROOF. A pump update keeps the promises of the Pump Controller (R101, R112, R119, R120). -/
namespace Sys2Proof.Machine

/-! ### From the beginning of an update to its staging -/

/-- Before and after staging the same pumps start. -/
theorem State.updateStaged_starting {s : State} (hs : s.pumpsOk) {n : Nat} (hn : n < 16) :
    (s.updateStaged.pump n).state = .starting ↔ (s.settledPump n).state = .starting := by
  rcases State.pump_updateStaged_cases hs hn with ⟨-, _, _, _, h⟩ | h <;> rw [h]
  exact Pump.staged_state.1

/-- No pump starts in the first three stages of an update. -/
theorem State.starting_of_settled {s : State} {n : Nat} (h : (s.settledPump n).state = .starting) :
    s.suspensionHolds = false ∧ (s.pump n).state = .starting := by
  unfold State.settledPump at h
  split at h
  · obtain ⟨-, hno, -⟩ := (s.sampled n).examined.halted_state
    exact absurd h hno
  · next hholds =>
    obtain ⟨-, hst, -⟩ := (s.sampled n).examined_state
    exact ⟨Bool.not_eq_true _ ▸ hholds, hst h⟩

theorem State.starting_of_updateStaged {s : State} (hs : s.pumpsOk) {n : Nat} (hn : n < 16)
    (h : (s.updateStaged.pump n).state = .starting) : (s.pump n).state = .starting :=
  (State.starting_of_settled ((State.updateStaged_starting hs hn).1 h)).2

/-- An absent pump stays as it is (R101). -/
theorem State.updateStaged_absent {s : State} (hs : s.pumpsOk) {n : Nat} (hn : n < 16)
    (h : (s.pump n).cfg.present = false) : (s.updateStaged.pump n).state = .lockedOut := by
  have ⟨_, _, _, _, _, habsent, _⟩ := hs
  have hlocked : (s.sampled n).state = .lockedOut := habsent n hn h
  have hexamined : (s.sampled n).examined = s.sampled n := Pump.examined_of_absent h
  have hsettled : s.settledPump n = s.sampled n := by
    rw [State.settledPump, hexamined, Pump.halted_of_still (by simp [hlocked]) (by simp [hlocked])
      (by simp [hlocked]), ite_self]
  rw [State.pump_updateStaged_of_unstaged hs hn (.inl h), hsettled, hlocked]

/-- In suspension staging lets no pump wait, start or run (R112). -/
theorem State.updateStaged_suspends {s : State} (hs : s.pumpsOk) {n : Nat} (hn : n < 16) (hholds : s.suspensionHolds = true) :
    (s.updateStaged.pump n).state ≠ .queued ∧ (s.updateStaged.pump n).state ≠ .starting
      ∧ (s.updateStaged.pump n).state ≠ .running := by
  have hsettled : s.settledPump n = (s.sampled n).examined.halted := by rw [State.settledPump, if_pos hholds]
  obtain ⟨hq, hst, hr⟩ := (s.sampled n).examined.halted_state
  rw [← hsettled] at hq hst hr
  rcases State.pump_updateStaged_cases hs hn with ⟨-, _, _, _, h⟩ | h <;> rw [h]
  · rw [hholds, Bool.not_true, Bool.false_and]
    exact ⟨fun h => (Pump.staged_state_queued.1 h).2.elim hq fun h => Bool.false_ne_true h.2, mt Pump.staged_state.1.1 hst,
      fun h => hr (Pump.staged_state.2.1 h).1⟩
  · exact ⟨hq, hst, hr⟩

/-! ### The grant -/

/-- With a pump that starts or in suspension there is no grant (R119). -/
theorem State.grantNext_of_starting {w : State} {n : Nat} (hn : n < 16) (h : (w.pump n).state = .starting) :
    w.grantNext = none := by
  cases hnext : w.grantNext with
  | none => rfl
  | some k =>
    obtain ⟨-, hnone, -⟩ := State.grantNext_eq_some.1 hnext
    rw [State.startingPump, List.find?_eq_none] at hnone
    exact absurd (decide_eq_true h) (hnone n (List.mem_range.2 hn))

theorem State.grantNext_of_suspended {w : State} (h : w.pumps.suspended = true) : w.grantNext = none := by
  cases hnext : w.grantNext with
  | none => rfl
  | some k =>
    obtain ⟨hno, -⟩ := State.grantNext_eq_some.1 hnext
    rw [h] at hno
    cases hno

/-- The pump granted, of an update from a good state. -/
theorem State.granted_spec {s : State} (hs : s.pumpsOk) {n : Nat} (h : s.updateStaged.grantNext = some n) :
    n < 16 ∧ (s.updateStaged.pump n).state = .queued ∧ s.updateStaged.pumps.queue = n :: s.updateStaged.pumps.queue.tail := by
  obtain ⟨hq, hqueue⟩ := State.grantNext_spec (State.updateStaged_queue hs).1 h
  have ⟨⟨_, _, _, _, _, htable, _⟩, _⟩ := hs
  have hlt := State.lt_of_pump_state (s := s.updateStaged) (n := n) (by simp [hq])
  rw [(State.updateFrame_updateStaged hs.1).pumps, htable] at hlt
  exact ⟨hlt, hq, hqueue⟩

/-- A pump that starts after an update did so before it, or is granted by it. -/
theorem State.starting_of_updated {s : State} (hs : s.pumpsOk) {n : Nat} (hn : n < 16)
    (h : (s.updated.pump n).state = .starting) : s.updateStaged.grantNext = some n
      ∨ (s.updateStaged.grantNext = none ∧ (s.updateStaged.pump n).state = .starting) := by
  rw [State.pump_updated hs] at h
  split at h
  next hgrant => exact .inl hgrant
  next => exact .inr ⟨State.grantNext_of_starting hn h, h⟩

/-! ### The promises -/

/-- Publication and the taking of the update leave the queue. -/
theorem State.QueueOk.published {u : State} (h : u.QueueOk) (f : Due → Due) : (u.publish.modifyDue f).QueueOk :=
  ⟨h.nodup, h.mem⟩

theorem State.updated_queueOk {s : State} (hs : s.pumpsOk) : s.updated.QueueOk := by
  rw [State.updated, s.pumpUpdate_eq]
  exact (State.updateStaged_queue hs).1.grant.published _

theorem State.updated_cfg {s : State} (hs : s.sized) (n : Nat) : (s.updated.pump n).cfg = (s.pump n).cfg := by
  rw [State.updated, State.pump_modifyDue, (State.updateFrame_pumpUpdate hs).pumpCfg]

theorem State.updated_sized {s : State} (hdue : s.due.pump = true) (hs : s.sized) : s.updated.sized := by
  rw [State.updated, ← State.takePumps_due hdue]
  exact s.keepsShow_takePumps.sized hs

/-- A pump update keeps the promises of the Pump Controller. -/
theorem State.updated_pumpsOk {s : State} (hdue : s.due.pump = true) (hs : s.pumpsOk) : s.updated.pumpsOk := by
  have hsized := State.updated_sized hdue hs.1
  obtain ⟨hnodup, hmem⟩ := State.updated_queueOk hs
  have hcfg := State.updated_cfg hs.1
  have ⟨_, _, _, _, hone, _⟩ := hs
  refine ⟨hsized, hnodup, fun n hn => ?_, fun n _ => hmem n, fun a ha b hb hsa hsb => ?_, fun n hn habsent => ?_,
    fun hsuspended n hn => ?_⟩
  · have hlt := State.lt_of_pump_state (s := s.updated) (n := n) (by simp [(hmem n).1 hn])
    obtain ⟨-, -, -, -, -, htable, -⟩ := hsized
    omega
  · rcases State.starting_of_updated hs ha hsa with hga | ⟨hga, hwa⟩ <;>
      rcases State.starting_of_updated hs hb hsb with hgb | ⟨hgb, hwb⟩
    · exact Option.some.inj (hga.symm.trans hgb)
    · rw [hga] at hgb; cases hgb
    · rw [hgb] at hga; cases hga
    · exact hone a ha b hb (State.starting_of_updateStaged hs ha hwa) (State.starting_of_updateStaged hs hb hwb)
  · have hlocked := State.updateStaged_absent hs hn (hcfg n ▸ habsent)
    rw [State.pump_updated hs, if_neg fun h => ?_, hlocked]
    obtain ⟨-, hq, -⟩ := State.granted_spec hs h
    rw [hlocked] at hq
    cases hq
  · rw [State.updated_suspended hs.1] at hsuspended
    have hnone := State.grantNext_of_suspended ((State.updateStaged_suspended hs.1).trans hsuspended)
    rw [State.pump_updated hs, hnone, if_neg (by simp)]
    exact State.updateStaged_suspends hs hn hsuspended

/-- A pump update publishes the supplies (R120). -/
theorem State.updated_supplyOk {s : State} (hdue : s.due.pump = true) (hs : s.sized) : s.updated.supplyOk := by
  refine ⟨State.updated_sized hdue hs, fun m hm => ?_⟩
  rw [State.manifold_updated hs hm]

end Sys2Proof.Machine
end

section
/-! PROOF. Who touches the pumps: outside chapter 5 only the jet frame, the sample period and a full reset do. -/
namespace Sys2Proof.Machine

/-! ### Shared operations -/

theorem State.raiseIf_pumps (b : Bool) (e : Event) (s : State) : (s.raiseIf b e).pumps = s.pumps := by cases b <;> rfl

/-- What every pass of a loop leaves of the pumps, the loop leaves. -/
theorem pumps_forEach {α : Type} {f : α → State → State} (h : ∀ a s, (f a s).pumps = State.pumps s) (l : List α)
    (s : State) : (forEach l f s).pumps = s.pumps :=
  forEach_same State.pumps l f (fun a _ => h a) s

theorem pumps_ite {c : Prop} [Decidable c] {s t u : State} (ht : t.pumps = s.pumps) (hu : u.pumps = s.pumps) :
    (if c then t else u).pumps = s.pumps := by
  split
  · exact ht
  · exact hu

theorem pumps_checked {l : List (Bool × ResultCode)} {go : Handler} {s : State} (h : (go s).1.pumps = s.pumps) :
    (checked l go s).1.pumps = s.pumps := by
  cases hl : firstFailure l with
  | none => rwa [checked_of_none go s hl]
  | some c => rw [checked_of_some go s hl]

/-! ### The effect table and the show state (chapters 1 to 3) -/

theorem State.RecordChange.pumps {i : Nat} {k : EffectRecord → Option EffectRecord} {s t : State}
    (h : s.RecordChange i k t) : t.pumps = s.pumps := by
  obtain ⟨_, rfl⟩ := h.outside
  rfl

theorem State.takeEffects_pumps (s : State) : s.takeEffects.pumps = s.pumps := by
  obtain ⟨_, _, h⟩ := s.takeEffects_outside
  rw [h]

theorem State.takeEffectsIf_pumps (makes : ShowTime → State → Bool) (s : State) :
    (s.takeEffectsIf makes).pumps = s.pumps := pumps_ite s.takeEffects_pumps rfl

theorem State.takeEnvelope_pumps (s : State) : s.takeEnvelope.pumps = s.pumps := by
  obtain ⟨_, h⟩ := s.takeEnvelope_outside
  rw [h]

theorem handleEffectAdd_pumps (p : EffectAddParams) (s : State) : (handleEffectAdd p s).1.pumps = s.pumps := by
  unfold handleEffectAdd
  split
  · rfl
  refine pumps_checked ?_
  split
  · rfl
  split
  · exact (s.freeRecord_change _).pumps
  · rfl

theorem State.editAtOnce_pumps (i : Nat) (r : EffectRecord) (f : EditFields) (s : State) :
    (s.editAtOnce i r f).pumps = s.pumps := by
  unfold State.editAtOnce
  cases f.group <;> rfl

theorem State.dropRef?_pumps (g : Option Nat) (s : State) : (s.dropRef? g).pumps = s.pumps := by cases g <;> rfl

theorem State.stageEdit_pumps (i : Nat) (r : EffectRecord) (f : EditFields) (boundary : ShowTime) (s : State) :
    (s.stageEdit i r f boundary).pumps = s.pumps := by
  unfold State.stageEdit
  cases r.edit with
  | none => cases f.group <;> rfl
  | some e =>
    cases f.group with
    | none => rfl
    | some g => exact State.dropRef?_pumps _ (s.addRef g)

theorem handleEffectEdit_pumps (h : Half) (timing : Byte) (t : Quad) (set : Half) (v : EditValues) (s : State) :
    (handleEffectEdit h timing t set v s).1.pumps = s.pumps := by
  unfold handleEffectEdit
  split
  · split
    · rfl
    refine pumps_checked ?_
    unfold editAccepted
    dsimp only
    split
    · exact State.editAtOnce_pumps ..
    split
    · exact State.stageEdit_pumps ..
    · rfl
  · rfl

theorem handleEffectRetire_pumps (h : Half) (mode : Byte) (s : State) : (handleEffectRetire h mode s).1.pumps = s.pumps := by
  unfold handleEffectRetire
  split
  · rfl
  split
  · rfl
  split
  · exact (s.freeRecord_change _).pumps
  split
  · exact (State.imposeFade_change ..).pumps
  · rfl

theorem handleEffectQuery_pumps (h : Half) (s : State) : (handleEffectQuery h s).1.pumps = s.pumps := by
  unfold handleEffectQuery
  split <;> rfl

theorem handleGroupDefine_pumps (g kind : Byte) (members : List Half) (s : State) :
    (handleGroupDefine g kind members s).1.pumps = s.pumps := by
  unfold handleGroupDefine
  split
  · rfl
  · exact pumps_checked rfl

theorem State.releaseHeld_pumps (d : Nat) (s : State) : (s.releaseHeld d).pumps = s.pumps := by
  obtain ⟨_, _, h, -⟩ := s.releaseHeld_eq d
  rw [h]

theorem State.emptyDeck_pumps (d : Nat) (s : State) : (s.emptyDeck d).pumps = s.pumps := s.releaseHeld_pumps d

theorem State.clearEffects_pumps (s : State) : s.clearEffects.pumps = s.pumps := by
  have hpass := pumps_forEach (fun i s => (s.freeRecord_change i).pumps) (List.range 256) s
  unfold State.clearEffects
  generalize forEach (List.range 256) State.freeRecord s = u at hpass ⊢
  exact hpass

theorem State.enterStopped_pumps (s : State) : s.enterStopped.pumps = s.pumps := by
  by_cases h : s.timer.showState = .stopped
  · rw [State.enterStopped_of_stopped h]
  · have hdecks := (pumps_forEach (f := State.stopDeck) (fun d s => pumps_ite (s.emptyDeck_pumps d) rfl) [0, 1]
      s.clearEffects).trans s.clearEffects_pumps
    generalize hu : forEach [0, 1] State.stopDeck s.clearEffects = u at hdecks
    rw [State.enterStopped_eq h hu]
    exact hdecks

theorem State.enterEnding_pumps (fade : Nat) (s : State) : (s.enterEnding fade).pumps = s.pumps := by
  have hpass := pumps_forEach (fun i u => (u.endRecord_change s.timer.clock fade i).pumps) (List.range 256) s
  generalize hu : forEach (List.range 256) (State.endRecord s.timer.clock fade) s = u at hpass
  rw [State.enterEnding_eq hu]
  exact hpass

theorem State.endShow_pumps (ms : Nat) (s : State) : (s.endShow ms).pumps = s.pumps :=
  pumps_ite s.enterStopped_pumps (s.enterEnding_pumps _)

theorem State.takeEndTime_pumps (s : State) : s.takeEndTime.pumps = s.pumps := pumps_ite s.enterStopped_pumps rfl

theorem State.takeSilence_pumps (s : State) : s.takeSilence.pumps = s.pumps := pumps_ite (s.endShow_pumps _) rfl

theorem State.assertStop_pumps (s : State) : s.assertStop.pumps = s.pumps := State.enterStopped_pumps _

theorem State.takeStop_pumps (s : State) : s.takeStop.pumps = s.pumps := pumps_ite s.assertStop_pumps rfl

theorem State.takeShowEnds_pumps (s : State) : s.takeShowEnds.pumps = s.pumps :=
  (State.takeEndTime_pumps _).trans ((State.takeSilence_pumps _).trans s.takeStop_pumps)

/-! ### Nozzles, lights and lines (chapters 4, 7 and 8) -/

theorem State.writeSlots_pumps (n : Nat) (values : SlotValues) (s : State) : (s.writeSlots n values).pumps = s.pumps :=
  pumps_ite rfl rfl

theorem State.moveClaims_pumps (old new : Option (Nat × Claims)) (s : State) : (s.moveClaims old new).pumps = s.pumps := by
  cases old <;> cases new <;> rfl

theorem State.lightCompute_pumps (s : State) : s.lightCompute.pumps = s.pumps :=
  pumps_forEach (fun l s => State.writeSlots_pumps l _ s) (List.range 4) _

theorem State.takeLight_pumps (s : State) : s.takeLight.pumps = s.pumps :=
  pumps_ite ((State.lightCompute_pumps _).trans ((State.takeEffects_pumps _).trans s.takeEnvelope_pumps)) rfl

theorem State.setFixture_pumps (n : Nat) (c : FixtureConfig) (s : State) : (s.setFixture n c).pumps = s.pumps :=
  (State.writeSlots_pumps ..).trans (s.moveClaims_pumps ..)

theorem State.setNozzle_pumps (n : Nat) (c : NozzleConfig) (s : State) : (s.setNozzle n c).pumps = s.pumps :=
  s.moveClaims_pumps ..

/-! ### The site (chapter 6) -/

theorem State.stopZones_pumps (k : Nat) (s : State) : (s.stopZones k).pumps = s.pumps :=
  (State.raiseIf_pumps ..).trans (pumps_forEach (f := fun z u => u.modifyZone z _) (fun _ _ => rfl) _ s)

theorem State.takePresence_pumps (k : Nat) (s : State) : (s.takePresence k).pumps = s.pumps :=
  pumps_ite rfl (pumps_ite (State.stopZones_pumps k _) rfl)

theorem State.setZone_pumps (p : ZoneSetParams) (s : State) : (s.setZone p).pumps = s.pumps := by
  have hzone (b : Bool) (c : ZoneConfig) :
      ((s.modifyZone p.zone.toNat (Zone.configure c)).raiseIf b .windState).pumps = s.pumps := State.raiseIf_pumps ..
  unfold State.setZone
  dsimp only
  split
  · exact pumps_ite ((State.stopZones_pumps ..).trans (hzone _ _)) (hzone _ _)
  · exact hzone _ _

theorem State.takeWind_pumps (s : State) : s.takeWind.pumps = s.pumps := pumps_ite (State.raiseIf_pumps ..) rfl

theorem State.takeLevelLow_pumps (s : State) : s.takeLevelLow.pumps = s.pumps := pumps_ite rfl rfl

theorem State.takeLevelRestored_pumps (s : State) : s.takeLevelRestored.pumps = s.pumps := pumps_ite rfl rfl

/-! ### Clips and decks (chapter 9) -/

theorem State.DeckChange.pumps {d : Nat} {s t : State} (h : s.DeckChange d t) : t.pumps = s.pumps := by
  obtain ⟨_, _, _, _, rfl⟩ := h.outside
  rfl

theorem State.takeDeckPeriod_pumps (s : State) : s.takeDeckPeriod.pumps = s.pumps := by
  have hdecks := pumps_forEach (fun d s => (s.deckChange_processDeck d).pumps) [0, 1] s.takeShowEnds
  rcases s.takeDeckPeriod_eq with ⟨-, h⟩ | ⟨-, -, h⟩ | ⟨-, -, h⟩ <;> rw [h]
  · exact s.takeShowEnds_pumps
  · rw [State.modifyDue_pumps, hdecks, s.takeShowEnds_pumps]

theorem State.takeDeckStop_pumps (d : Nat) (s : State) : (s.takeDeckStop d).pumps = s.pumps :=
  (s.deckChange_takeDeckStop d).pumps

theorem State.stopDeckBy_pumps (d ramp : Nat) (s : State) : (s.stopDeckBy d ramp).pumps = s.pumps := by
  have hends : (s.endDeckNow d).pumps = s.pumps := (s.deckChange_endDeckNow d).pumps
  unfold State.stopDeckBy
  dsimp only
  split
  · rfl
  · exact s.emptyDeck_pumps d
  · exact s.emptyDeck_pumps d
  · exact pumps_ite hends rfl
  · exact pumps_ite hends rfl

theorem handleClipRetire_pumps (h : Half) (s : State) : (handleClipRetire h s).1.pumps = s.pumps := by
  unfold handleClipRetire
  split
  · rfl
  · split <;> rfl

theorem handleClipQuery_pumps (h : Half) (s : State) : (handleClipQuery h s).1.pumps = s.pumps := by
  unfold handleClipQuery
  split
  · rfl
  · split <;> rfl

theorem State.judgeBlock_pumps (transfer : List Byte) (s : State) : (s.judgeBlock transfer).pumps = s.pumps := by
  have haccept (i : Nat) (c : Clip) (page : Nat) (data : List Byte) : (s.acceptBlock i c page data).pumps = s.pumps :=
    State.raiseIf_pumps ..
  unfold State.judgeBlock
  split
  · rfl
  split
  · rfl
  split
  · rfl
  · exact pumps_ite rfl (pumps_ite rfl (pumps_ite rfl (haccept ..)))

theorem State.clipPacket_pumps (packet : List Byte) (s : State) : (s.clipPacket packet).pumps = s.pumps :=
  pumps_ite (pumps_ite (State.judgeBlock_pumps ..) rfl) rfl

/-! ### The link and the store (chapters 10 and 11) -/

theorem State.pollReply_pumps (accepted : Bool) (s : State) : (s.pollReply accepted).pumps = s.pumps := by
  unfold State.pollReply
  split
  · split <;> rfl
  · rfl

theorem State.pollNotice_pumps (accepted : Bool) (s : State) : (s.pollNotice accepted).pumps = s.pumps := by
  unfold State.pollNotice
  refine pumps_ite ?_ rfl
  split
  · rfl
  · exact pumps_ite rfl rfl

theorem State.takeSave_pumps (s : State) : s.takeSave.pumps = s.pumps := pumps_ite rfl rfl

/-! ### Every handler and event -/

/-- The commands that configure or move a pump, or configure a manifold or the start interval (chapter 5). -/
def isPumpCommand : Instr → Bool
  | .manifoldSet _ | .pumpSet _ | .startSet _ | .pumpLockout _ | .pumpRelease _ | .pumpClear _ => true
  | _ => false

/-- Every other command leaves the pumps. -/
theorem handlerOf_pumps {c : Instr} {h : Handler} (hc : handlerOf c = some h) (hpump : isPumpCommand c = false) (s : State) :
    (h s).1.pumps = s.pumps := by
  cases c <;> cases hc
  case manifoldSet | pumpSet | startSet | pumpLockout | pumpRelease | pumpClear => cases hpump
  case showEnd => exact pumps_checked (s.endShow_pumps _)
  case showStop => exact s.enterStopped_pumps
  case effectAdd => exact handleEffectAdd_pumps _ s
  case effectEdit => exact handleEffectEdit_pumps _ _ _ _ _ s
  case effectRetire => exact handleEffectRetire_pumps _ _ s
  case effectQuery => exact handleEffectQuery_pumps _ s
  case groupDefine => exact handleGroupDefine_pumps _ _ _ s
  case nozzleSet => exact pumps_checked (s.setNozzle_pumps ..)
  case zoneSet => exact pumps_checked (s.setZone_pumps _)
  case zoneRelease => exact pumps_checked (pumps_forEach (f := fun z u => u.modifyZone z _) (fun _ _ => rfl) _ s)
  case fixtureSet => exact pumps_checked (s.setFixture_pumps ..)
  case clipRetire => exact handleClipRetire_pumps _ s
  case clipQuery => exact handleClipQuery_pumps _ s
  case deckCue => exact pumps_checked (s.releaseHeld_pumps _)
  case deckStop => exact pumps_checked (s.stopDeckBy_pumps ..)
  case deckQuery => exact pumps_checked s.takeEnvelope_pumps
  case audioSet => exact s.takeEnvelope_pumps
  case showQuery | linkQuery | storeQuery | lightMaster => rfl
  all_goals exact pumps_checked rfl

end Sys2Proof.Machine
end

section
/-! PROOF. The promises of the Pump Controller are kept by its commands, by the jet frame, the sample period and a full
reset, and so by every step (R101, R112, R119, R120). -/
namespace Sys2Proof.Machine

/-! ### What keeping means -/

/-- From `s` to `t` the promises of the Pump Controller are kept. -/
structure State.KeepsPumps (s t : State) : Prop where
  pumpsOk : s.pumpsOk → t.pumpsOk
  supplyOk : s.pumpsOk → s.supplyOk → t.supplyOk

theorem State.KeepsPumps.refl (s : State) : s.KeepsPumps s := ⟨id, fun _ => id⟩

theorem State.KeepsPumps.trans {s t u : State} (h : s.KeepsPumps t) (k : t.KeepsPumps u) : s.KeepsPumps u :=
  ⟨k.pumpsOk ∘ h.pumpsOk, fun hs hv => k.supplyOk (h.pumpsOk hs) (h.supplyOk hs hv)⟩

/-- The states and commands of the pumps, the queue, the suspension and the supplies are the same in `s` and `t`. -/
structure State.PumpsSteady (s t : State) : Prop where
  queue : t.pumps.queue = s.pumps.queue
  suspended : t.pumps.suspended = s.pumps.suspended
  cfg : ∀ n, (t.pump n).cfg = (s.pump n).cfg
  state : ∀ n, (t.pump n).state = (s.pump n).state
  command : ∀ n, (t.pump n).command = (s.pump n).command
  supply : ∀ m, (t.manifold m).supply = (s.manifold m).supply

theorem State.PumpsSteady.of_pumps {s t : State} (h : t.pumps = s.pumps) : s.PumpsSteady t := by
  have hpump (n : Nat) : t.pump n = s.pump n := by rw [State.pump, h, State.pump]
  have hmanifold (m : Nat) : t.manifold m = s.manifold m := by rw [State.manifold, h, State.manifold]
  exact ⟨by rw [h], by rw [h], fun n => by rw [hpump], fun n => by rw [hpump], fun n => by rw [hpump],
    fun m => by rw [hmanifold]⟩

theorem State.PumpsSteady.runningOf {s t : State} (h : s.PumpsSteady t) (m : Nat) : t.runningOf m = s.runningOf m := by
  simp only [State.runningOf, h.cfg, h.state]

theorem State.PumpsSteady.supplyOf {s t : State} (h : s.PumpsSteady t) (m : Nat) : t.supplyOf m = s.supplyOf m := by
  simp only [State.supplyOf, h.runningOf, h.cfg, h.command]

theorem State.PumpsSteady.keepsPumps {s t : State} (h : s.PumpsSteady t) (hshow : s.KeepsShow t) : s.KeepsPumps t where
  pumpsOk := by
    rintro ⟨hsized, hrest⟩
    refine ⟨hshow.sized hsized, ?_⟩
    rw [h.queue, h.suspended]
    simpa only [h.cfg, h.state] using hrest
  supplyOk := by
    rintro - ⟨hsized, hsupply⟩
    exact ⟨hshow.sized hsized, fun m hm => by rw [h.supply, h.supplyOf, hsupply m hm]⟩

/-- What leaves the pumps keeps their promises. -/
theorem State.keepsPumps_of_pumps {s t : State} (hshow : s.KeepsShow t) (h : t.pumps = s.pumps) : s.KeepsPumps t :=
  (State.PumpsSteady.of_pumps h).keepsPumps hshow

theorem State.KeepsPumps.ite {c : Prop} [Decidable c] {s t u : State} (ht : s.KeepsPumps t) (hu : s.KeepsPumps u) :
    s.KeepsPumps (if c then t else u) := by
  split
  · exact ht
  · exact hu

/-! ### One pump at rest -/

/-- From `s` to `t` pump `n`, which neither started nor ran, becomes `q`, which stands still outside the queue. -/
structure State.RestsPump (n : Nat) (q : Pump) (s t : State) : Prop where
  manifolds : t.pumps.manifolds = s.pumps.manifolds
  suspended : t.pumps.suspended = s.pumps.suspended
  pump : s.OnePump t n q
  queue : t.pumps.queue = s.pumps.queue.filter (· ≠ n)
  before : (s.pump n).state ≠ .starting ∧ (s.pump n).state ≠ .running
  after : q.state = .idle ∨ q.state = .lockedOut
  absent : q.cfg.present = false → q.state = .lockedOut

/-- Pump `n` ran in neither state, so the supply of no manifold changes. -/
theorem State.RestsPump.supplyOf {n : Nat} {q : Pump} {s t : State} (h : s.RestsPump n q t) (m : Nat) :
    t.supplyOf m = s.supplyOf m := by
  have hq : q.state ≠ .running := by rcases h.after with h | h <;> simp [h]
  have hrunning : t.runningOf m = s.runningOf m := by
    refine List.filter_congr fun k _ => ?_
    rw [h.pump k]
    split
    next hk =>
      subst hk
      simp [hq, h.before.2]
    next => rfl
  unfold State.supplyOf
  rw [hrunning]
  refine congrArg List.sum (List.map_congr_left fun k hk => ?_)
  have hk : k ≠ n := by
    rintro rfl
    exact h.before.2 (State.mem_runningOf.1 hk).2
  rw [h.pump k, if_neg hk]

theorem State.RestsPump.keepsPumps {n : Nat} {q : Pump} {s t : State} (h : s.RestsPump n q t) (hshow : s.KeepsShow t) :
    s.KeepsPumps t where
  pumpsOk := by
    rintro ⟨hsized, hnodup, hin, hmem, hone, habsent, hsuspended⟩
    have hstill : q.state ≠ .queued ∧ q.state ≠ .starting ∧ q.state ≠ .running := by
      rcases h.after with h | h <;> simp [h]
    have hother {k : Nat} {st : PumpState} (hk : (t.pump k).state = st) (hst : q.state ≠ st) : (s.pump k).state = st := by
      rw [h.pump k] at hk
      split at hk
      · exact absurd hk hst
      · exact hk
    refine ⟨hshow.sized hsized, ?_, ?_, fun k hk => ?_, fun a ha b hb hsa hsb => ?_, fun k hk hno => ?_, fun hs k hk => ?_⟩
    · rw [h.queue]
      exact hnodup.filter _
    · rw [h.queue]
      exact fun k hk => hin k (List.mem_filter.1 hk).1
    · rw [h.queue, List.mem_filter, h.pump k, decide_eq_true_iff]
      by_cases hkn : k = n
      · simp [hkn, hstill.1]
      · simp [hkn, hmem k hk]
    · exact hone a ha b hb (hother hsa hstill.2.1) (hother hsb hstill.2.1)
    · rw [h.pump k] at hno ⊢
      split at hno
      next hkn => rw [if_pos hkn, h.absent hno]
      next hkn => rw [if_neg hkn, habsent k hk hno]
    · rw [h.suspended] at hs
      rw [h.pump k]
      split
      · exact hstill
      · exact hsuspended hs k hk
  supplyOk := by
    rintro - ⟨hsized, hsupply⟩
    refine ⟨hshow.sized hsized, fun m hm => ?_⟩
    rw [h.supplyOf, ← hsupply m hm, State.manifold, h.manifolds, State.manifold]

/-- A pump that is not QUEUED has no place in the queue to leave. -/
theorem State.filter_queue_of_not_queued {s : State} (hs : s.pumpsOk) {n : Nat} (h : (s.pump n).state ≠ .queued) :
    s.pumps.queue.filter (· ≠ n) = s.pumps.queue := by
  refine List.filter_eq_self.2 fun k hk => decide_eq_true ?_
  rintro rfl
  exact h (((State.pumpsOk_queueOk hs).mem k).1 hk)

theorem State.onePump_modifyPump {s : State} {n : Nat} (hn : n < s.pumps.table.length) (f : Pump → Pump) :
    s.OnePump (s.modifyPump n f) n (f (s.pump n)) := by
  intro k
  rw [State.pump_modifyPump]
  by_cases hk : k = n
  · subst hk
    rw [if_pos ⟨rfl, hn⟩, if_pos rfl]
  · rw [if_neg fun ⟨heq, _⟩ => hk heq.symm, if_neg hk]

/-- A promise may be used to show that it is kept. -/
theorem State.keepsPumps_of_ok {s t : State} (h : s.pumpsOk → s.KeepsPumps t) : s.KeepsPumps t :=
  ⟨fun hs => (h hs).pumpsOk hs, fun hs => (h hs).supplyOk hs⟩

theorem State.pump_table_of_ok {s : State} (hs : s.pumpsOk) {n : Nat} (hn : n ≤ 15) : n < s.pumps.table.length := by
  obtain ⟨⟨-, -, -, -, -, htable, -⟩, -⟩ := hs
  omega

/-- A pump outside the queue that neither starts nor runs comes to stand still elsewhere. -/
theorem State.keepsPumps_restPump {n : Nat} {st : PumpState} {c : FaultCause} {s : State} (hn : n ≤ 15)
    (hbefore : (s.pump n).state = .idle ∨ (s.pump n).state = .fault ∨ (s.pump n).state = .lockedOut)
    (hafter : st = .idle ∨ st = .lockedOut) (habsent : s.pumpsOk → (s.pump n).cfg.present = false → st = .lockedOut) :
    s.KeepsPumps (s.restPump n st c) := by
  refine State.keepsPumps_of_ok fun hs => State.RestsPump.keepsPumps (n := n)
    (q := { s.pump n with state := st, command := 0, target := 0, timer := 0, cause := c })
    ⟨rfl, rfl, ?_, ?_, ?_, hafter, habsent hs⟩ ((s.keepsShow_modifyPump n _).trans (State.keepsShow_raise ..))
  · exact State.onePump_modifyPump (State.pump_table_of_ok hs hn) _
  · rw [State.filter_queue_of_not_queued hs (by rcases hbefore with h | h | h <;> simp [h])]
    rfl
  · rcases hbefore with h | h | h <;> simp [h]

/-! ### The commands of chapter 5 -/

theorem State.keepsPumps_configurePump (p : PumpSetParams) {s : State} (hn : p.pump.toNat ≤ 15)
    (hlocked : (s.pump p.pump.toNat).state = .lockedOut) : s.KeepsPumps (s.configurePump p) := by
  refine State.keepsPumps_of_ok fun hs => State.RestsPump.keepsPumps (n := p.pump.toNat)
    (q := { s.pump p.pump.toNat with cfg := pumpConfigOf p (s.pump p.pump.toNat).cfg, cause := .none })
    ⟨rfl, rfl, ?_, ?_, by simp [hlocked], .inr hlocked, fun _ => hlocked⟩ (s.keepsShow_modifyPump ..)
  · exact State.onePump_modifyPump (State.pump_table_of_ok hs hn) _
  · rw [State.filter_queue_of_not_queued hs (by simp [hlocked])]
    rfl

theorem State.pumpsSteady_modifyManifold (m : Nat) {f : Manifold → Manifold} (hf : ∀ x, (f x).supply = x.supply) (s : State) :
    s.PumpsSteady (s.modifyManifold m f) :=
  { State.PumpsSteady.of_pumps (s := s) rfl with
    supply := fun k => getD_modify_same Manifold.supply hf s.pumps.manifolds m k Manifold.blank }

theorem State.keepsPumps_mark (n : Nat) (s : State) : s.KeepsPumps (s.modifyPump n fun x => { x with mark := true }) := by
  have hsame {β : Type} (g : Pump → β) (hg : ∀ x : Pump, g { x with mark := true } = g x) (k : Nat) :
      g ((s.modifyPump n fun x => { x with mark := true }).pump k) = g (s.pump k) :=
    getD_modify_same g hg s.pumps.table n k Pump.blank
  exact State.PumpsSteady.keepsPumps ⟨rfl, rfl, hsame Pump.cfg fun _ => rfl, hsame Pump.state fun _ => rfl,
    hsame Pump.command fun _ => rfl, fun _ => rfl⟩ (s.keepsShow_modifyPump ..)

/-- A lockout keeps the promises: it rests a pump that neither starts nor runs, or marks one that moves (R121). -/
theorem State.keepsPumps_lockOut {n : Nat} {s : State} (hn : n ≤ 15) : s.KeepsPumps (s.lockOut n) := by
  cases hstate : (s.pump n).state with
  | idle =>
    rw [State.lockOut_idle hstate]
    exact State.keepsPumps_restPump hn (.inl hstate) (.inr rfl) fun _ _ => rfl
  | queued =>
    rw [State.lockOut_queued hstate]
    refine State.keepsPumps_of_ok fun hs => State.RestsPump.keepsPumps (n := n)
      (q := { s.pump n with state := .lockedOut, command := 0, target := 0, timer := 0, cause := (s.pump n).cause })
      ⟨rfl, rfl, ?_, rfl, by simp [hstate], .inr rfl, fun _ => rfl⟩
      ((s.keepsShow_unqueue n).trans ((State.keepsShow_modifyPump ..).trans (State.keepsShow_raise ..)))
    exact State.onePump_modifyPump (s := s.unqueue n) (State.pump_table_of_ok hs hn) _
  | starting | running | stopping =>
    rw [State.lockOut_mark (by simp [hstate])]
    exact s.keepsPumps_mark n
  | fault =>
    rw [State.lockOut_fault hstate]
    exact State.keepsPumps_restPump hn (.inr (.inl hstate)) (.inr rfl) fun _ _ => rfl
  | lockedOut =>
    rw [State.lockOut_lockedOut hstate]
    exact .refl s

theorem keepsPumps_checked {l : List (Bool × ResultCode)} {go : Handler} {s : State}
    (h : firstFailure l = none → s.KeepsPumps (go s).1) : s.KeepsPumps (checked l go s).1 := by
  cases hl : firstFailure l with
  | none => rw [checked_of_none go s hl]; exact h hl
  | some c => rw [checked_of_some go s hl]; exact .refl s

/-- Every check of a list that passes. -/
theorem check_passes {l : List (Bool × ResultCode)} {b : Bool} (c : ResultCode) (h : firstFailure l = none)
    (hb : (b, c) ∈ l) : b = false := firstFailure_eq_none.1 h _ hb

theorem keepsPumps_handlePumpSet (p : PumpSetParams) (s : State) : s.KeepsPumps (handlePumpSet p s).1 := by
  refine keepsPumps_checked fun hpass => ?_
  have hrange := check_passes (l := configChecks s ++ pumpSetChecks p s)
    (b := decide (15 < p.pump.toNat) || (yesNoOf p.present).isNone) .badParam hpass (by simp [pumpSetChecks])
  have hlocked := check_passes (l := configChecks s ++ pumpSetChecks p s)
    (b := decide ((s.pump p.pump.toNat).state ≠ .lockedOut)) .wrongState hpass (by simp [pumpSetChecks])
  rw [Bool.or_eq_false_iff, decide_eq_false_iff_not, Nat.not_lt] at hrange
  exact State.keepsPumps_configurePump p hrange.1 (by simpa using hlocked)

theorem keepsPumps_handlePumpLockout (n : Byte) (s : State) : s.KeepsPumps (handlePumpLockout n s).1 := by
  refine keepsPumps_checked fun hpass => State.keepsPumps_lockOut ?_
  simpa using check_passes .badParam hpass List.mem_cons_self

theorem keepsPumps_handlePumpRelease (n : Byte) (s : State) : s.KeepsPumps (handlePumpRelease n s).1 := by
  refine keepsPumps_checked (l := releaseChecks n.toNat s) fun hpass => ?_
  obtain ⟨hn, hlocked, hpresent⟩ :
      n.toNat ≤ 15 ∧ (s.pump n.toNat).state = .lockedOut ∧ (s.pump n.toNat).cfg.present = true := by
    have h := firstFailure_eq_none.1 hpass
    simp only [releaseChecks, List.forall_mem_cons] at h
    simpa [and_assoc] using And.intro h.1 h.2.1
  show s.KeepsPumps (s.changePump n.toNat (Pump.enter .idle))
  rw [State.changePump_enter_eq_restPump (by decide) (by decide)]
  refine State.keepsPumps_restPump hn (.inr (.inr hlocked)) (.inl rfl) fun _ habsent => ?_
  rw [hpresent] at habsent
  cases habsent

theorem keepsPumps_handlePumpClear (n : Byte) (s : State) : s.KeepsPumps (handlePumpClear n s).1 := by
  refine keepsPumps_checked (l := clearChecks n.toNat s) fun hpass => ?_
  obtain ⟨hn, hfault⟩ : n.toNat ≤ 15 ∧ (s.pump n.toNat).state = .fault := by
    have h := firstFailure_eq_none.1 hpass
    simp only [clearChecks, List.forall_mem_cons] at h
    simpa using And.intro h.1 h.2.1
  show s.KeepsPumps (s.changePump n.toNat fun p => { p.enter .idle with cause := .none })
  rw [State.changePump_clear_eq_restPump (by decide) (by decide)]
  refine State.keepsPumps_restPump hn (.inr (.inl hfault)) (.inl rfl) fun hs habsent => ?_
  have ⟨_, _, _, _, _, hlocked, _⟩ := hs
  rw [hlocked n.toNat (by omega) habsent] at hfault
  cases hfault

theorem keepsPumps_handlerOf {c : Instr} {h : Handler} (hc : handlerOf c = some h) (s : State) : s.KeepsPumps (h s).1 := by
  cases hpump : isPumpCommand c with
  | false => exact State.keepsPumps_of_pumps (keepsShow_handlerOf hc s) (handlerOf_pumps hc hpump s)
  | true =>
    cases c with
    | manifoldSet p =>
      cases hc
      exact keepsPumps_checked fun _ => (s.pumpsSteady_modifyManifold p.manifold.toNat
        (f := fun m => { m with cfg := ⟨p.lead.toNat, p.headroom.toNat, p.destage.toNat⟩ }) fun _ => rfl).keepsPumps
        (s.keepsShow_modifyManifold ..)
    | pumpSet p => cases hc; exact keepsPumps_handlePumpSet p s
    | startSet i =>
      cases hc
      exact keepsPumps_checked fun _ => State.PumpsSteady.keepsPumps
        ⟨rfl, rfl, fun _ => rfl, fun _ => rfl, fun _ => rfl, fun _ => rfl⟩ (State.keepsShow_of_frame id rfl rfl rfl)
    | pumpLockout n => cases hc; exact keepsPumps_handlePumpLockout n s
    | pumpRelease n => cases hc; exact keepsPumps_handlePumpRelease n s
    | pumpClear n => cases hc; exact keepsPumps_handlePumpClear n s
    | _ => cases hpump

theorem keepsPumps_refuse (c : ResultCode) (s : State) : s.KeepsPumps (refuse c s).1 := .refl s

theorem keepsPumps_dispatch {h : Handler} (hh : ∀ s, State.KeepsPumps s (h s).1) (s : State) : s.KeepsPumps (dispatch h s) :=
  (State.keepsPumps_of_pumps s.keepsShow_transferTaken rfl).trans
    ((hh _).trans (State.keepsPumps_of_pumps (State.keepsShow_pushReply ..) rfl))

theorem keepsPumps_takeCommand {h : Handler} (hh : ∀ s, State.KeepsPumps s (h s).1) (s : State) :
    s.KeepsPumps (takeCommand h s) := by
  unfold takeCommand
  split
  · exact keepsPumps_dispatch hh s
  · exact .refl s

theorem keepsPumps_handlerOfTransfer (transfer : List Byte) (s : State) :
    s.KeepsPumps (handlerOfTransfer transfer s).1 := by
  unfold handlerOfTransfer
  cases frameTransfer transfer with
  | command c =>
    cases hc : handlerOf c with
    | none => simpa [hc] using keepsPumps_refuse .unknownCommand s
    | some h => simpa [hc] using keepsPumps_handlerOf hc s
  | unknownCommand => exact .refl s
  | badLength => exact .refl s

/-! ### The jet frame, the pump update and the sample period -/

/-- The report of a frame leaves the supplies (R91). -/
theorem State.manifold_supply_jetFrame (s : State) (m : Nat) : (s.jetFrame.manifold m).supply = (s.manifold m).supply := by
  rw [s.jetFrame_eq]
  simp only [State.manifold, report, List.getD_eq_getElem?_getD, List.getElem?_map, List.getElem?_zipIdx]
  cases s.pumps.manifolds[m]? <;> rfl

theorem State.pump_jetFrame (s : State) (n : Nat) : s.jetFrame.pump n = s.pump n := by
  rw [s.jetFrame_eq]
  rfl

theorem State.pumpsSteady_jetFrame (s : State) : s.PumpsSteady s.jetFrame where
  queue := by rw [s.jetFrame_eq]
  suspended := by rw [s.jetFrame_eq]
  cfg n := by rw [s.pump_jetFrame]
  state n := by rw [s.pump_jetFrame]
  command n := by rw [s.pump_jetFrame]
  supply := s.manifold_supply_jetFrame

theorem State.keepsPumps_takeJet (s : State) : s.KeepsPumps s.takeJet :=
  .ite ((State.keepsPumps_of_pumps s.keepsShow_takeEnvelope s.takeEnvelope_pumps).trans
    ((State.keepsPumps_of_pumps (State.keepsShow_takeEffects _) (State.takeEffects_pumps _)).trans
      (((State.pumpsSteady_jetFrame _).keepsPumps (State.keepsShow_jetFrame _)).trans
        (State.keepsPumps_of_pumps (State.keepsShow_modifyDue ..) rfl)))) (.refl s)

theorem State.keepsPumps_takePumps (s : State) : s.KeepsPumps s.takePumps := by
  cases hdue : s.due.pump with
  | false =>
    rw [State.takePumps_idle hdue]
    exact .refl s
  | true =>
    rw [State.takePumps_due hdue, ← State.updated]
    exact ⟨State.updated_pumpsOk hdue, fun hs _ => State.updated_supplyOk hdue hs.1⟩

theorem State.keepsPumps_takePumpsIf (makes : Bool) (s : State) : s.KeepsPumps (s.takePumpsIf makes) :=
  .ite s.keepsPumps_takePumps (.refl s)

theorem State.pumpsSteady_countPeriod (s : State) : s.PumpsSteady s.countPeriod := by
  have hpump (n : Nat) : s.countPeriod.pump n = (s.pump n).count :=
    List.getD_map (n := n) s.pumps.table Pump.blank Pump.count
  have hmanifold (m : Nat) : s.countPeriod.manifold m = (s.manifold m).count :=
    List.getD_map (n := m) s.pumps.manifolds Manifold.blank Manifold.count
  have hcount (n : Nat) : ∃ timer, (s.pump n).count = { s.pump n with timer := timer } := by
    unfold Pump.count
    split
    · exact ⟨_, rfl⟩
    · exact ⟨(s.pump n).timer, rfl⟩
  refine ⟨rfl, rfl, fun n => ?_, fun n => ?_, fun n => ?_, fun m => by rw [hmanifold]; rfl⟩
  all_goals
    obtain ⟨_, h⟩ := hcount n
    rw [hpump, h]

theorem State.keepsPumps_settle (s : State) : s.KeepsPumps s.settle :=
  (State.keepsPumps_of_pumps (State.keepsShow_forEach _ _ State.keepsShow_takeGapEnd s)
    (pumps_forEach State.takeGapEnd_pumps _ s)).trans <|
  (State.keepsPumps_of_pumps (State.keepsShow_takeEnvelope _) (State.takeEnvelope_pumps _)).trans <|
  (State.keepsPumps_of_pumps (State.keepsShow_forEach _ _ State.keepsShow_takePresence _)
    (pumps_forEach State.takePresence_pumps _ _)).trans <|
  (State.keepsPumps_of_pumps (State.keepsShow_takeStop _) (State.takeStop_pumps _)).trans <|
  (State.keepsPumps_of_pumps (State.keepsShow_takeLevelLow _) (State.takeLevelLow_pumps _)).trans <|
  (State.keepsPumps_of_pumps (State.keepsShow_takeLevelRestored _) (State.takeLevelRestored_pumps _)).trans <|
  (State.keepsPumps_of_pumps (State.keepsShow_takeSilence _) (State.takeSilence_pumps _)).trans <|
  (State.keepsPumps_of_pumps (State.keepsShow_takeEndTime _) (State.takeEndTime_pumps _)).trans <|
  (State.keepsPumps_of_pumps (State.keepsShow_takeEffects _) (State.takeEffects_pumps _)).trans <|
  (State.keepsPumps_of_pumps (State.keepsShow_takeWind _) (State.takeWind_pumps _)).trans <|
  (State.keepsPumps_takePumps _).trans <| (State.keepsPumps_takeJet _).trans <|
  (State.keepsPumps_of_pumps (State.keepsShow_takeLight _) (State.takeLight_pumps _)).trans <|
  State.keepsPumps_of_pumps (State.keepsShow_takeSave _) (State.takeSave_pumps _)

theorem State.keepsPumps_samplePeriod (i : Inputs) (s : State) : s.KeepsPumps (s.samplePeriod i) :=
  s.keepsPumps_settle.trans <|
  (State.keepsPumps_of_pumps (State.keepsShow_takeDeckPeriod _) (State.takeDeckPeriod_pumps _)).trans <|
  (State.keepsPumps_of_pumps (State.keepsShow_mix _) rfl).trans <|
  (State.keepsPumps_of_pumps (State.keepsShow_forEach _ _ State.keepsShow_takeDeckStop _)
    (pumps_forEach State.takeDeckStop_pumps _ _)).trans <|
  (State.keepsPumps_of_pumps (State.keepsShow_sampleInputs i _) rfl).trans <|
  (State.pumpsSteady_countPeriod _).keepsPumps (State.keepsShow_countPeriod _)

/-! ### Full reset (R101, R201) -/

/-- After start-up every pump is LOCKED_OUT and every supply 0. -/
theorem startUp_pump_state (store : ConfigStore) (n : Nat) : ((startUp store).pump n).state = .lockedOut := by
  simp only [State.pump, startUp, List.getD_eq_getElem?_getD, List.getElem?_map]
  cases store.loaded.pumps[n]? <;> rfl

theorem startUp_supply (store : ConfigStore) (m : Nat) : ((startUp store).manifold m).supply = 0 := by
  simp only [State.manifold, startUp, List.getD_eq_getElem?_getD, List.getElem?_map]
  cases store.loaded.manifolds[m]? <;> rfl

theorem startUp_supplyOf (store : ConfigStore) (m : Nat) : (startUp store).supplyOf m = 0 := by
  have hnone : (startUp store).runningOf m = [] := by
    refine List.filter_eq_nil_iff.2 fun n _ => ?_
    rw [startUp_pump_state]
    simp
  rw [State.supplyOf, hnone]
  rfl

theorem State.keepsPumps_fullReset (s : State) : s.KeepsPumps { startUp s.store with pending := s.pending } := by
  have hsized := s.keepsShow_fullReset.sized
  have hqueue : State.pumps { startUp s.store with pending := s.pending } = (startUp s.store).pumps := rfl
  have hstate (n : Nat) : (State.pump { startUp s.store with pending := s.pending } n).state = .lockedOut :=
    startUp_pump_state s.store n
  have hsupply (m : Nat) : (State.manifold { startUp s.store with pending := s.pending } m).supply =
      State.supplyOf { startUp s.store with pending := s.pending } m :=
    (startUp_supply ..).trans (startUp_supplyOf ..).symm
  generalize ({ startUp s.store with pending := s.pending } : State) = u at *
  refine ⟨fun ⟨hs, _⟩ => ⟨hsized hs, ?_, ?_, fun n _ => ?_, fun a _ b _ ha _ => ?_, fun n _ _ => hstate n, fun _ n _ => ?_⟩,
    fun _ ⟨hs, _⟩ => ⟨hsized hs, fun m _ => hsupply m⟩⟩
  · rw [hqueue]
    exact List.nodup_nil
  · rw [hqueue]
    exact fun n hn => (List.not_mem_nil hn).elim
  · rw [hqueue, hstate]
    exact iff_of_false List.not_mem_nil (by decide)
  · rw [hstate] at ha
    cases ha
  · simp [hstate]

/-! ### Every step -/

/-- Every event keeps the promises. -/
theorem exec_event_keepsPumps {c : Instr} (hc : handlerOf c = none) (s : State) :
    ∃ t, exec c s = .next t ∧ s.KeepsPumps t := by
  have hsame {t : State} (h : exec c s = .next t) (hp : t.pumps = s.pumps) : s.KeepsPumps t := by
    obtain ⟨u, hu, hshow⟩ := exec_keepsShow c s
    obtain rfl := Host.Outcome.next.inj (hu.symm.trans h)
    exact State.keepsPumps_of_pumps hshow hp
  cases c <;> cases hc
  case commandPacket packet =>
    rcases execCommandPacket_eq packet s with ⟨-, h⟩ | ⟨-, -, h⟩ | ⟨-, -, h⟩
    · exact ⟨_, h, .refl s⟩
    · exact ⟨_, h, hsame h rfl⟩
    · exact ⟨_, h, keepsPumps_dispatch (keepsPumps_handlerOfTransfer _) s⟩
  case malformedCommand transfer =>
    refine ⟨_, rfl, ?_⟩
    split
    · exact keepsPumps_takeCommand (keepsPumps_refuse _) s
    · exact .refl s
  case fullReset => exact ⟨_, rfl, s.keepsPumps_fullReset⟩
  case samplePeriod i => exact ⟨_, rfl, s.keepsPumps_samplePeriod i⟩
  case pumpUpdate => exact ⟨_, rfl, s.keepsPumps_takePumps⟩
  case pumpStartTimeout | pumpStopTimeout | destage | startGrant => exact ⟨_, rfl, s.keepsPumps_takePumpsIf _⟩
  case jetFrame => exact ⟨_, rfl, s.keepsPumps_takeJet⟩
  case clipBlock ps => exact ⟨_, rfl, hsame rfl (pumps_forEach State.clipPacket_pumps ps s)⟩
  case replyPoll a => exact ⟨_, rfl, hsame rfl (s.pollReply_pumps a)⟩
  case noticePoll a => exact ⟨_, rfl, hsame rfl (s.pollNotice_pumps a)⟩
  case endTimeReached => exact ⟨_, rfl, hsame rfl s.takeEndTime_pumps⟩
  case silenceTimerExpiry => exact ⟨_, rfl, hsame rfl s.takeSilence_pumps⟩
  case effectBoundary => exact ⟨_, rfl, hsame rfl s.takeEffects_pumps⟩
  case pendingEditApplied | effectStartReached | naturalEnd | fadeComplete =>
    exact ⟨_, rfl, hsame rfl (s.takeEffectsIf_pumps _)⟩
  case envelopeUpdate => exact ⟨_, rfl, hsame rfl s.takeEnvelope_pumps⟩
  case lightComputation => exact ⟨_, rfl, hsame rfl s.takeLight_pumps⟩
  case windGate => exact ⟨_, rfl, hsame rfl s.takeWind_pumps⟩
  case windHoldRelease => exact ⟨_, rfl, hsame rfl (pumps_ite s.takeWind_pumps rfl)⟩
  case presenceDebounced k => exact ⟨_, rfl, hsame rfl (s.takePresence_pumps k)⟩
  case emergencyStopAssertion => exact ⟨_, rfl, hsame rfl (pumps_ite s.assertStop_pumps rfl)⟩
  case levelLow => exact ⟨_, rfl, hsame rfl s.takeLevelLow_pumps⟩
  case levelRestored => exact ⟨_, rfl, hsame rfl s.takeLevelRestored_pumps⟩
  case deckPeriod => exact ⟨_, rfl, hsame rfl s.takeDeckPeriod_pumps⟩
  case deckBegin => exact ⟨_, rfl, hsame rfl (pumps_ite s.takeDeckPeriod_pumps rfl)⟩
  case deckStopComplete d => exact ⟨_, rfl, hsame rfl (s.takeDeckStop_pumps d)⟩
  case saveCompletion => exact ⟨_, rfl, hsame rfl s.takeSave_pumps⟩
  case linkAttach | linkReset | lineGapEnd => exact ⟨_, rfl, hsame rfl rfl⟩

theorem exec_keepsPumps (c : Instr) (s : State) : ∃ t, exec c s = .next t ∧ s.KeepsPumps t := by
  cases hc : handlerOf c with
  | some h => exact ⟨_, exec_of_handlerOf hc s, keepsPumps_takeCommand (keepsPumps_handlerOf hc) s⟩
  | none => exact exec_event_keepsPumps hc s

theorem step_keepsPumps {s t : State} (h : step s = .next t) : s.KeepsPumps t := by
  unfold step at h
  split at h
  · cases h
    exact .refl s
  · next c rest _ =>
    obtain ⟨u, hu, hkeeps⟩ := exec_keepsPumps c { s with pending := rest }
    obtain rfl : u = t := by simpa [hu] using h
    exact (State.keepsPumps_of_pumps (s := s) (t := { s with pending := rest })
      (State.keepsShow_of_frame id rfl rfl rfl) rfl).trans hkeeps

/-- Settles O56: command by command; a pump update by where it leaves every pump. -/
theorem pumpsKept : Obligations.PumpsKept := by
  unfold Obligations.PumpsKept
  exact ⟨fun _ _ hs h => (step_keepsPumps h).pumpsOk hs, fun _ _ hs hv h => (step_keepsPumps h).supplyOk hs hv⟩

end Sys2Proof.Machine
end

section
/-! PROOF. What a pump update leaves: target sets, speeds, inputs and supplies (R113, R114, R118, R120). -/
namespace Sys2Proof.Machine

/-! ### The leading part (R114) -/

/-- The rated flow of a list of pumps. -/
def State.flowOf (s : State) (l : List Nat) : Nat := (l.map fun n => (s.pump n).cfg.rated).sum

theorem State.leadingPart_zero (s : State) (l : List Nat) : s.leadingPart 0 l = [] := by cases l <;> rfl

/-- The leading part reaches the needed flow, or is the whole list. -/
theorem State.leadingPart_reaches (s : State) (need : Nat) (l : List Nat) :
    need ≤ s.flowOf (s.leadingPart need l) ∨ s.leadingPart need l = l := by
  induction l generalizing need with
  | nil => cases need <;> exact .inr rfl
  | cons n l ih =>
    cases need with
    | zero => exact .inl (Nat.zero_le _)
    | succ need =>
      rcases ih (need + 1 - (s.pump n).cfg.rated) with h | h
      · left
        simp only [State.leadingPart, State.flowOf, List.map_cons, List.sum_cons] at h ⊢
        omega
      · exact .inr (by rw [State.leadingPart, h])

/-- No shorter part reaches the needed flow. -/
theorem State.leadingPart_shortest (s : State) (need : Nat) (l : List Nat) {k : Nat}
    (hk : k < (s.leadingPart need l).length) : s.flowOf ((s.leadingPart need l).take k) < need := by
  induction l generalizing need k with
  | nil => cases need <;> cases hk
  | cons n l ih =>
    cases need with
    | zero => cases hk
    | succ need =>
      cases k with
      | zero => exact Nat.succ_pos need
      | succ k =>
        have hrest := ih (need + 1 - (s.pump n).cfg.rated) (Nat.lt_of_succ_lt_succ hk)
        simp only [State.leadingPart, State.flowOf, List.take_succ_cons, List.map_cons, List.sum_cons] at hrest ⊢
        omega

/-! ### What no stage touches of a pump -/

/-- A pump's inputs as last sampled (R104). -/
def Pump.inputs (p : Pump) : Bool × Bool := (p.feedback, p.fault)

theorem Pump.enter_inputs (st : PumpState) (p : Pump) : (p.enter st).inputs = p.inputs := by simp [Pump.inputs]

theorem PumpAction.change_inputs (a : PumpAction) (p : Pump) : (a.change p).inputs = p.inputs := by
  cases a <;> simp [PumpAction.change, Pump.inputs, Pump.rested, Pump.faulted]

theorem State.settledPump_inputs (s : State) (n : Nat) :
    (s.settledPump n).inputs = (s.pins.feedback.getLsbD n, s.pins.fault.getLsbD n) := by
  have hexamined : (s.sampled n).examined.inputs = (s.sampled n).inputs := PumpAction.change_inputs ..
  unfold State.settledPump
  split
  · exact (PumpAction.change_inputs ..).trans hexamined
  · exact hexamined

theorem Pump.staged_inputs (mayJoin inSet destaged : Bool) (sigma : Nat) (p : Pump) :
    (p.staged mayJoin inSet destaged sigma).inputs = p.inputs := by
  unfold Pump.staged Pump.requeued
  cases p.state <;> dsimp only <;> repeat' split
  all_goals rfl

theorem State.updated_inputs {s : State} (hs : s.pumpsOk) {n : Nat} (hn : n < 16) :
    (s.updated.pump n).inputs = (s.pins.feedback.getLsbD n, s.pins.fault.getLsbD n) := by
  have hstaged : (s.updateStaged.pump n).inputs = (s.settledPump n).inputs := by
    rcases State.pump_updateStaged_cases hs hn with ⟨-, _, _, _, h⟩ | h <;> rw [h]
    exact Pump.staged_inputs ..
  rw [State.pump_updated hs, ← s.settledPump_inputs n, ← hstaged]
  split
  · exact Pump.enter_inputs ..
  · rfl

/-! ### Where the update leaves a pump (R106) -/

/-- A pump that is not QUEUED once staging is done is not granted. -/
theorem State.pump_updated_of_not_queued {s : State} (hs : s.pumpsOk) {n : Nat}
    (h : (s.updateStaged.pump n).state ≠ .queued) : s.updated.pump n = s.updateStaged.pump n := by
  rw [State.pump_updated hs, if_neg fun hgrant => h (State.granted_spec hs hgrant).2.1]

/-- A pump that does not start after an update was not granted by it. -/
theorem State.pump_updated_of_not_starting {s : State} (hs : s.pumpsOk) {n : Nat}
    (h : (s.updated.pump n).state ≠ .starting) : s.updated.pump n = s.updateStaged.pump n := by
  rw [State.pump_updated hs] at h ⊢
  split
  next hgrant =>
    rw [if_pos hgrant, Pump.enter_state] at h
    exact absurd rfl h
  next => rfl

/-- A grant changes no state but QUEUED to STARTING. -/
theorem State.updated_state_iff {s : State} (hs : s.pumpsOk) {st : PumpState} (hq : st ≠ .queued) (hst : st ≠ .starting)
    (n : Nat) : (s.updated.pump n).state = st ↔ (s.updateStaged.pump n).state = st := by
  constructor <;> intro h
  · rwa [← State.pump_updated_of_not_starting hs (h ▸ hst)]
  · rwa [State.pump_updated_of_not_queued hs (h ▸ hq)]

/-- Staging takes no pump into FAULT or LOCKED_OUT, and none out of it. -/
theorem Pump.staged_state_resting {mayJoin inSet destaged : Bool} {sigma : Nat} {p : Pump} {st : PumpState}
    (h : st = .fault ∨ st = .lockedOut) : (p.staged mayJoin inSet destaged sigma).state = st ↔ p.state = st := by
  unfold Pump.staged Pump.requeued
  rcases h with rfl | rfl <;> cases h : p.state <;> cases inSet <;> cases mayJoin <;> cases destaged <;> simp [h, Pump.ramp]

theorem State.updated_state_resting {s : State} (hs : s.pumpsOk) {n : Nat} (hn : n < 16) {st : PumpState}
    (h : st = .fault ∨ st = .lockedOut) : (s.updated.pump n).state = st ↔ (s.settledPump n).state = st := by
  rw [State.updated_state_iff hs (by rcases h with rfl | rfl <;> decide) (by rcases h with rfl | rfl <;> decide)]
  rcases State.pump_updateStaged_cases hs hn with ⟨-, _, _, _, heq⟩ | heq <;> rw [heq]
  exact Pump.staged_state_resting h

/-! ### Target sets and needed flows (R113, R114) -/

/-- A manifold after an update, but for its supply. -/
theorem State.manifold_updated_staged {s : State} (hs : s.sized) {m : Nat} (hm : m < 8) :
    ∃ supply, s.updated.manifold m = { s.updateInputs.manifold m with
      needed := (s.manifold m).neededFlow, targets := s.updateInputs.newTargets m
      destage := (s.updateInputs.stageTargets m).destageAfter m, supply := supply } := by
  have hneeded : (s.updateInputs.manifold m).neededFlow = (s.manifold m).neededFlow := by
    rw [State.manifold_updateInputs]
    split <;> rfl
  refine ⟨s.updated.supplyOf m, ?_⟩
  rw [State.manifold_updated hs hm, ((State.updateStaged_stagedTo hs).behind m hm).manifold, hneeded]

theorem State.updated_needed {s : State} (hs : s.sized) {m : Nat} (hm : m < 8) :
    (s.updated.manifold m).needed = (s.manifold m).neededFlow := by
  obtain ⟨_, h⟩ := State.manifold_updated_staged hs hm
  rw [h]

/-- The available pumps of a manifold at a pump update, in ascending rank (R114). -/
def State.availableOf (s : State) (m : Nat) : List Nat :=
  (s.updateInputs.pumpsOf m).filter fun n => (s.updateInputs.pump n).available

theorem State.updateInputs_cfg (s : State) (n : Nat) : (s.updateInputs.pump n).cfg = (s.pump n).cfg :=
  s.pumpsMove_updateInputs.frame.pumpCfg n

theorem State.updated_targets {s : State} (hs : s.sized) {m : Nat} (hm : m < 8) :
    (s.updated.manifold m).targets = s.leadingPart (s.updated.manifold m).needed (s.availableOf m) := by
  obtain ⟨_, h⟩ := State.manifold_updated_staged hs hm
  have hneeded : (s.updateInputs.manifold m).neededFlow = (s.manifold m).neededFlow := by
    rw [State.manifold_updateInputs]
    split <;> rfl
  rw [State.updated_needed hs hm, h]
  show s.updateInputs.leadingPart (s.updateInputs.manifold m).neededFlow (s.availableOf m) = _
  rw [hneeded, State.leadingPart_congr s.updateInputs_cfg]

theorem State.mem_availableOf {s : State} (hs : s.pumpsOk) {m n : Nat} : n ∈ s.availableOf m ↔
    n < 16 ∧ (s.pump n).cfg.present = true ∧ (s.pump n).cfg.manifold = m
      ∧ (s.settledPump n).state ≠ .fault ∧ (s.settledPump n).state ≠ .lockedOut := by
  rw [State.availableOf, List.mem_filter, State.pumpsOf_congr s.updateInputs_cfg, State.mem_pumpsOf, and_assoc, and_assoc]
  refine and_congr_right fun hn => ?_
  rw [State.pump_updateInputs hs hn]
  simp [Pump.available]

theorem State.availableOf_nodup (s : State) (m : Nat) : (s.availableOf m).Nodup :=
  (s.updateInputs.pumpsOf_nodup m).filter _

theorem State.availableOf_sorted (s : State) (m : Nat) :
    (s.availableOf m).Pairwise fun a b => (s.pump a).cfg.rank ≤ (s.pump b).cfg.rank := by
  have hsorted := (s.updateInputs.pumpsOf_sorted m).filter fun n => (s.updateInputs.pump n).available
  unfold State.availableOf
  simpa only [s.updateInputs_cfg] using hsorted

/-! ### Speeds (R118) -/

/-- A pump that runs after its examination has kept its command, whether it ran or started (R107, R108). -/
theorem Pump.examined_of_running {p : Pump} (h : p.examined.state = .running) :
    p.examined = p ∨ p.examined = p.enter .running := by
  have hfits := p.finding_fits
  unfold Pump.examined at h ⊢
  cases hf : p.finding with
  | stays => exact .inl rfl
  | moves st =>
    rw [hf, PumpAction.change, Pump.enter_state] at h
    rw [h]
    exact .inr rfl
  | rests =>
    rw [hf] at h
    cases hm : p.mark <;> simp [PumpAction.change, Pump.rested, hm] at h
  | faults c => simp [hf, PumpAction.change, Pump.faulted] at h
  | dequeues => simp [hf, PumpAction.change] at h

theorem State.settledPump_of_running {s : State} {n : Nat} (h : (s.settledPump n).state = .running) :
    s.suspensionHolds = false ∧ s.settledPump n = (s.sampled n).examined := by
  unfold State.settledPump at h ⊢
  split at h
  · obtain ⟨-, -, hno⟩ := (s.sampled n).examined.halted_state
    exact absurd h hno
  next hholds =>
    rw [if_neg hholds]
    exact ⟨Bool.not_eq_true _ ▸ hholds, rfl⟩

theorem State.settledPump_command_of_running {s : State} {n : Nat} (h : (s.settledPump n).state = .running) :
    (s.settledPump n).command = (s.pump n).command := by
  obtain ⟨-, heq⟩ := State.settledPump_of_running h
  rw [heq] at h ⊢
  rcases Pump.examined_of_running h with heq | heq <;> rw [heq] <;> rfl

/-- The pumps that run after an update and the flow they share are those of its staging. -/
theorem State.updated_runningOf {s : State} (hs : s.pumpsOk) (m : Nat) :
    s.updated.runningOf m = s.updateStaged.runningOf m := by
  refine List.filter_congr fun n _ => ?_
  rw [State.updated_cfg hs.1, (State.updateFrame_updateStaged hs.1).pumpCfg,
    decide_eq_decide.2 (State.updated_state_iff hs (by decide) (by decide) n)]

theorem State.updated_commonSpeed {s : State} (hs : s.pumpsOk) {m : Nat} (hm : m < 8) :
    s.updated.commonSpeed m = s.updateStaged.commonSpeed m := by
  simp only [State.commonSpeed, State.updated_runningOf hs, State.updated_cfg hs.1,
    (State.updateFrame_updateStaged hs.1).pumpCfg, State.manifold_updated hs.1 hm]

/-- A pump that runs after an update ran once its inputs were examined, and is sped (R118). -/
theorem State.updated_of_running {s : State} (hs : s.pumpsOk) {n m : Nat} (hn : n < 16)
    (hpresent : (s.pump n).cfg.present = true) (hm : (s.pump n).cfg.manifold = m) (hm8 : m < 8)
    (h : (s.updated.pump n).state = .running) :
    (s.settledPump n).state = .running ∧ s.updated.pump n = (s.settledPump n).ramp (s.updated.commonSpeed m) := by
  have hsame := State.pump_updated_of_not_starting hs (n := n) (by simp [h])
  rw [hsame, State.pump_updateStaged hs hn hpresent hm hm8] at h
  obtain ⟨hrunning, hstays⟩ := Pump.staged_state.2.1 h
  rw [hsame, State.pump_updateStaged hs hn hpresent hm hm8, State.updated_commonSpeed hs hm8, Pump.staged, if_pos hrunning,
    hstays]
  exact ⟨hrunning, rfl⟩

theorem Pump.ramp_target (sigma : Nat) (p : Pump) : (p.ramp sigma).target = max sigma p.cfg.minSpeed := rfl

theorem Pump.ramp_command (sigma : Nat) (p : Pump) :
    (p.ramp sigma).command = moveSpeed p.command (max sigma p.cfg.minSpeed) ((p.cfg.ramp + 9) / 10) := rfl

/-! ### The publication and the rest -/

theorem State.suspensionHolds_iff {s : State} :
    s.suspensionHolds = true ↔ s.site.stopLatch = true ∨ s.site.level = .low := by
  simp [State.suspensionHolds]

/-- Outside the pumps, the queue, the manifolds and the event summary an update touches nothing. -/
theorem State.updated_outside {s : State} (hs : s.sized) : s.updated = { s with
    pumps := s.updated.pumps, due := { s.due with pump := false }
    link := { s.link with summary := s.updated.link.summary } } := by
  have hframe := (State.updateFrame_pumpUpdate hs).outside
  have hdue : s.pumpUpdate.due = s.due := by rw [hframe]
  rw [State.updated, State.modifyDue_pumps, State.modifyDue_link, State.modifyDue, hdue]
  exact congrArg (fun u : State => { u with due := { s.due with pump := false } }) hframe

theorem State.updated_interval {s : State} (hs : s.sized) : s.updated.pumps.startInterval = s.pumps.startInterval := by
  rw [State.updated, State.modifyDue_pumps, (State.updateFrame_pumpUpdate hs).interval]

theorem State.updated_phase {s : State} (hs : s.sized) : s.updated.pumps.phase = s.pumps.phase := by
  rw [State.updated, State.modifyDue_pumps, (State.updateFrame_pumpUpdate hs).phase]

/-- What an update leaves of a manifold: its configuration and what the nozzles reported to it. -/
theorem State.updated_manifoldCfg {s : State} (hs : s.sized) (m : Nat) :
    (s.updated.manifold m).cfg = (s.manifold m).cfg ∧ (s.updated.manifold m).demand = (s.manifold m).demand
      ∧ (s.updated.manifold m).forecast = (s.manifold m).forecast := by
  have hframe := State.updateFrame_pumpUpdate hs
  rw [State.updated, State.manifold_modifyDue]
  exact ⟨hframe.manifoldCfg m, hframe.demand m, hframe.forecast m⟩

/-- The supply of a manifold, written out (R120). -/
theorem State.supplyOf_eq (t : State) (m : Nat) : t.supplyOf m =
    (((List.range 16).filter fun n => (t.pump n).cfg.present && decide ((t.pump n).cfg.manifold = m)
      && decide ((t.pump n).state = .running)).map fun n => (t.pump n).cfg.rated * (t.pump n).command / 1000).sum := rfl

/-- The common target of a manifold, written out (R118). -/
theorem State.commonSpeed_eq (t : State) (m : Nat) : t.commonSpeed m =
    let rated := (((List.range 16).filter fun k => (t.pump k).cfg.present && decide ((t.pump k).cfg.manifold = m)
      && decide ((t.pump k).state = .running)).map fun k => (t.pump k).cfg.rated).sum
    if rated = 0 then 0 else min 1000 (((t.manifold m).needed * 1000 + rated - 1) / rated) := rfl

theorem Manifold.neededFlow_eq (x : Manifold) :
    x.neededFlow = (max x.demand x.forecast * (1000 + x.cfg.headroom) + 999) / 1000 := by
  unfold Manifold.neededFlow ceilDiv
  rw [Nat.add_sub_assoc (by decide)]

/-- Settles O28: figure by figure of `State.updated`. -/
theorem pumpUpdatePublishes : Obligations.PumpUpdatePublishes := by
  unfold Obligations.PumpUpdatePublishes
  intro s hs
  have ⟨hsized, _⟩ := hs
  have hcfg := State.updated_cfg hsized
  refine ⟨exec_pumpUpdate_idle, fun hdue => ⟨s.updated, exec_pumpUpdate_due hdue, State.updated_pumpsOk hdue hs,
    fun m hm => ?supply, fun m hm => ⟨?needed, State.updated_manifoldCfg hsized m⟩, fun m hm => ?targets,
    fun n hn hpresent hrunning hm => ?speeds, fun n hn => ?inputs, ?suspended, State.updated_interval hsized,
    State.updated_phase hsized, ?outside⟩⟩
  case supply => rw [← State.supplyOf_eq, State.manifold_updated hsized hm]
  case needed => rw [State.updated_needed hsized hm, Manifold.neededFlow_eq]
  case targets =>
    refine ⟨s.availableOf m, s.availableOf_nodup m, ?_, fun n => ?_, ?_⟩
    · simpa only [hcfg] using s.availableOf_sorted m
    · rw [State.mem_availableOf hs, hcfg]
      refine and_congr_right fun hn => ?_
      have hfault := State.updated_state_resting hs hn (st := .fault) (.inl rfl)
      have hlocked := State.updated_state_resting hs hn (st := .lockedOut) (.inr rfl)
      rw [ne_eq, ne_eq, ne_eq, ne_eq, hfault, hlocked]
    · simp only [hcfg, State.updated_targets hsized hm]
      exact ⟨s.leadingPart_prefix .., fun hzero => by rw [hzero, s.leadingPart_zero], s.leadingPart_reaches ..,
        fun k hk => s.leadingPart_shortest _ _ hk⟩
  case speeds =>
    obtain ⟨hsettled, hsped⟩ := State.updated_of_running hs hn (hcfg n ▸ hpresent) rfl (hcfg n ▸ hm) hrunning
    have htarget := (congrArg Pump.target hsped).trans (Pump.ramp_target ..)
    have hcommand := (congrArg Pump.command hsped).trans (Pump.ramp_command ..)
    rw [← htarget, State.settledPump_command_of_running hsettled, s.settledPump_cfg, ← hcfg n] at hcommand
    rw [s.settledPump_cfg, ← hcfg n] at htarget
    generalize s.updated = t at htarget hcommand ⊢
    rw [t.commonSpeed_eq] at htarget
    exact ⟨htarget, hcommand⟩
  case inputs =>
    obtain ⟨hfeedback, hfault⟩ := Prod.mk.inj (State.updated_inputs hs hn)
    exact ⟨hcfg n, hfeedback, hfault⟩
  case suspended => rw [State.updated_suspended hsized, State.suspensionHolds_iff]
  case outside =>
    have houtside := State.updated_outside hsized
    generalize s.updated = t at houtside ⊢
    rw [houtside]
    exact ⟨rfl, rfl, rfl, rfl, rfl, rfl, rfl, rfl, rfl, rfl, rfl, rfl, rfl⟩

end Sys2Proof.Machine
end

section
/-! PROOF. Where a pump update leaves each pump (R106 to R118). -/
namespace Sys2Proof.Machine

/-! ### A pump that the later stages leave -/

/-- Suspension leaves a pump that does not wait, start or run. -/
theorem State.settledPump_of_still {s : State} {n : Nat} (hq : (s.sampled n).examined.state ≠ .queued)
    (hst : (s.sampled n).examined.state ≠ .starting) (hr : (s.sampled n).examined.state ≠ .running) :
    s.settledPump n = (s.sampled n).examined := by
  rw [State.settledPump, Pump.halted_of_still hq hst hr, ite_self]

theorem State.settledPump_of_open {s : State} (h : s.suspensionHolds = false) (n : Nat) :
    s.settledPump n = (s.sampled n).examined := by
  rw [State.settledPump, h, if_neg Bool.false_ne_true]

theorem State.settledPump_of_suspended {s : State} (h : s.suspensionHolds = true) (n : Nat) :
    s.settledPump n = (s.sampled n).examined.halted := by
  rw [State.settledPump, if_pos h]

/-- Staging leaves a pump that does not wait or run and may not join the queue. -/
theorem Pump.staged_of_still {mayJoin inSet destaged : Bool} {sigma : Nat} {p : Pump} (hr : p.state ≠ .running)
    (hq : p.state ≠ .queued) (hi : p.state = .idle → mayJoin = false ∨ inSet = false) :
    p.staged mayJoin inSet destaged sigma = p := by
  rw [Pump.staged, if_neg hr]
  by_cases hidle : p.state = .idle
  · rcases hi hidle with h | h <;> simp [Pump.requeued, hidle, h]
  · exact Pump.requeued_state hq hidle

/-- Once the inputs are examined and staging is suspended or not, the rest of the update leaves a pump that STARTs, STOPs,
is in FAULT or LOCKED_OUT. -/
theorem State.updated_eq_settledPump {s : State} (hs : s.pumpsOk) {n : Nat} (hn : n < 16)
    (hr : (s.settledPump n).state ≠ .running) (hq : (s.settledPump n).state ≠ .queued)
    (hi : (s.settledPump n).state ≠ .idle) : s.updated.pump n = s.settledPump n := by
  have hstaged : s.updateStaged.pump n = s.settledPump n := by
    rcases State.pump_updateStaged_cases hs hn with ⟨-, _, _, _, h⟩ | h <;> rw [h]
    exact Pump.staged_of_still hr hq fun h => absurd h hi
  rw [State.pump_updated_of_not_queued hs (hstaged.symm ▸ hq), hstaged]

/-- A pump that is left by suspension too. -/
theorem State.updated_eq_examined {s : State} (hs : s.pumpsOk) {n : Nat} (hn : n < 16) {p : Pump}
    (hp : (s.sampled n).examined = p) (h : p.state = .stopping ∨ p.state = .fault ∨ p.state = .lockedOut) :
    s.updated.pump n = p := by
  have hsettled : s.settledPump n = p := by
    rw [← hp]
    exact State.settledPump_of_still (by rw [hp]; rcases h with h | h | h <;> simp [h])
      (by rw [hp]; rcases h with h | h | h <;> simp [h]) (by rw [hp]; rcases h with h | h | h <;> simp [h])
  rw [← hsettled] at h
  rw [State.updated_eq_settledPump hs hn (by rcases h with h | h | h <;> simp [h]) (by rcases h with h | h | h <;> simp [h])
    (by rcases h with h | h | h <;> simp [h]), hsettled]

/-! ### Faults (R107 to R111) -/

/-- A bit raised by the examination stays raised to the end of the update. -/
theorem State.updated_summary {s : State} (hs : s.sized) {i : Nat} (h : s.inspected.link.summary.getLsbD i = true) :
    s.updated.link.summary.getLsbD i = true := by
  have hsuspension := s.inspected.pumpsMove_suspension.frame.summary i h
  rw [← s.updateInputs_eq] at hsuspension
  have hstaged := (State.updateStaged_stagedTo hs).frame.summary i hsuspension
  have hpublished := (State.updateFrame_publish _).summary i (s.updateStaged.updateFrame_grant.summary i hstaged)
  rwa [State.updated, State.modifyDue_link, s.pumpUpdate_eq]

/-- A pump found faulty has both events raised once the inputs are examined. -/
theorem State.summary_inspected {s : State} {n : Nat} (hn : n < 16) (hin : n < s.pumps.table.length) {c : FaultCause}
    (h : (s.sampled n).finding = .faults c) :
    s.inspected.link.summary.getLsbD 8 = true ∧ s.inspected.link.summary.getLsbD 9 = true := by
  rw [State.inspected]
  exact State.summary_forEach_examine (List.mem_range.2 hn) (by rwa [State.pump_samplePumps_of_lt hin])

/-- A pump found faulty ends the update in FAULT with its cause, and both events are raised. -/
theorem State.updated_of_faults {s : State} (hs : s.pumpsOk) {n : Nat} (hn : n < 16) {c : FaultCause}
    (h : (s.sampled n).finding = .faults c) :
    (s.updated.pump n).state = .fault ∧ (s.updated.pump n).cause = c ∧ (s.updated.pump n).mark = false
      ∧ (s.updated.pump n).command = 0 ∧ (s.updated.pump n).target = 0
      ∧ s.updated.link.summary.getLsbD 8 = true ∧ s.updated.link.summary.getLsbD 9 = true := by
  have ⟨⟨_, _, _, _, _, htable, _⟩, _⟩ := hs
  have hexamined : (s.sampled n).examined = (s.sampled n).faulted c := by rw [Pump.examined, h, PumpAction.change]
  obtain ⟨h8, h9⟩ := State.summary_inspected hn (by omega) h
  have hpump := State.updated_eq_examined hs hn hexamined (.inr (.inl rfl))
  have h8 := State.updated_summary hs.1 h8
  have h9 := State.updated_summary hs.1 h9
  generalize s.updated = t at hpump h8 h9 ⊢
  rw [hpump]
  exact ⟨rfl, rfl, rfl, rfl, rfl, h8, h9⟩

/-- A pump that stays as its examination finds it. -/
theorem Pump.examined_of_stays {p : Pump} (h : p.finding = .stays) : p.examined = p := by
  rw [Pump.examined, h]
  rfl

theorem Pump.examined_of_moves {p : Pump} {st : PumpState} (h : p.finding = .moves st) : p.examined = p.enter st := by
  rw [Pump.examined, h]
  rfl

theorem Pump.examined_of_rests {p : Pump} (h : p.finding = .rests) : p.examined = p.rested := by
  rw [Pump.examined, h]
  rfl

/-! ### Pumps that run (R107 case 3, R108, R117, R118) -/

/-- A pump moves on with its feedback (R107 case 3, R108). -/
def Pump.runsOn (p : Pump) : Prop :=
  (p.state = .running ∨ p.state = .starting) ∧ p.mark = false ∧ p.fault = false ∧ p.feedback = true

/-- What the examination finds of a pump that moves on: nothing, or that it runs now. -/
theorem Pump.finding_of_runsOn {p : Pump} (hpresent : p.cfg.present = true) (h : p.runsOn) :
    p.finding = if p.state = .running then .stays else .moves .running := by
  obtain ⟨hst | hst, hmark, hfault, hfeedback⟩ := h <;> simp [Pump.finding, hpresent, hst, hmark, hfault, hfeedback]

/-- A present pump runs after its examination exactly when it moves on with its feedback. -/
theorem Pump.examined_running_iff {p : Pump} (hpresent : p.cfg.present = true) :
    p.examined.state = .running ↔ p.runsOn := by
  constructor
  · intro h
    have hold := p.examined_state.2.2 h
    unfold Pump.examined Pump.finding at h
    rw [hpresent, Bool.not_true, if_neg Bool.false_ne_true] at h
    rcases hold with hst | hst <;> simp only [hst] at h <;> repeat' split at h
    all_goals simp_all [Pump.runsOn, PumpAction.change, Pump.faulted]
  · intro h
    rw [Pump.examined, Pump.finding_of_runsOn hpresent h]
    split
    next hst => exact hst
    next => exact Pump.enter_state ..

/-- A pump runs once its inputs are examined, outside suspension, exactly when it moves on with its feedback. -/
theorem State.settledPump_running_iff {s : State} {n : Nat} (hpresent : (s.pump n).cfg.present = true) :
    (s.settledPump n).state = .running ↔ s.suspensionHolds = false ∧ (s.sampled n).runsOn := by
  rw [← Pump.examined_running_iff (p := s.sampled n) hpresent]
  constructor
  · intro h
    obtain ⟨hholds, heq⟩ := State.settledPump_of_running h
    exact ⟨hholds, heq ▸ h⟩
  · rintro ⟨hholds, h⟩
    rwa [State.settledPump_of_open hholds]

/-! ### The destage of a manifold (R117) -/

/-- The state in which an update destages a manifold, as far as the destage reads it. -/
theorem State.manifold_formed {s : State} (hs : s.sized) {m : Nat} (hm : m < 8) :
    (s.updateInputs.stageTargets m).manifold m = { s.updateInputs.manifold m with
      needed := (s.updateInputs.manifold m).neededFlow, targets := s.updateInputs.newTargets m } := by
  obtain ⟨-, -, -, -, hmanifolds, -⟩ := hs
  exact State.manifold_stageTargets (by rw [s.pumpsMove_updateInputs.frame.manifolds, hmanifolds]; exact hm)

theorem State.formed_targets {s : State} (hs : s.sized) {m : Nat} (hm : m < 8) :
    ((s.updateInputs.stageTargets m).manifold m).targets = (s.updated.manifold m).targets := by
  obtain ⟨_, h⟩ := State.manifold_updated_staged hs hm
  rw [State.manifold_formed hs hm, h]

theorem State.updateStaged_targets {s : State} (hs : s.sized) {m : Nat} (hm : m < 8) :
    (s.updateStaged.manifold m).targets = (s.updated.manifold m).targets := by rw [State.manifold_updated hs hm]

theorem State.pump_formed {s : State} (hs : s.pumpsOk) {n : Nat} (hn : n < 16) (m : Nat) :
    (s.updateInputs.stageTargets m).pump n = s.settledPump n := by
  rw [State.pump_stageTargets, State.pump_updateInputs hs hn]

/-- The pumps of a manifold that start or run outside its target set, as the destage finds them. -/
theorem State.mem_formed_outside {s : State} (hs : s.pumpsOk) {m n : Nat} (hm : m < 8) :
    n ∈ (s.updateInputs.stageTargets m).outside m ↔ n < 16 ∧ (s.pump n).cfg.present = true ∧ (s.pump n).cfg.manifold = m
      ∧ n ∉ (s.updated.manifold m).targets ∧ ((s.settledPump n).state = .starting ∨ (s.settledPump n).state = .running) := by
  have hcfg (k : Nat) : ((s.updateInputs.stageTargets m).pump k).cfg = (s.pump k).cfg := by
    rw [State.pump_stageTargets, State.updateInputs_cfg]
  rw [State.outside, List.mem_filter, State.pumpsOf_congr hcfg, State.mem_pumpsOf, State.formed_targets hs.1 hm, and_assoc,
    and_assoc]
  refine and_congr_right fun hn => ?_
  rw [State.pump_formed hs hn]
  simp

/-- The pump that an update destages: it ran outside the target set, it stops, and the timer restarts. -/
theorem State.updated_of_destageNext {s : State} (hs : s.pumpsOk) {m n : Nat} (hm : m < 8)
    (h : (s.updateInputs.stageTargets m).destageNext m = some n) :
    n < 16 ∧ (s.pump n).cfg.present = true ∧ (s.pump n).cfg.manifold = m ∧ n ∉ (s.updated.manifold m).targets
      ∧ (s.settledPump n).state = .running ∧ s.updated.pump n = (s.settledPump n).enter .stopping
      ∧ (s.updated.manifold m).destage = some 0 := by
  obtain ⟨hout, hrunning⟩ := State.destageNext_spec h
  obtain ⟨_, -, hno, -⟩ := State.destageNext_eq_some.1 h
  obtain ⟨hn, hpresent, hmanifold, houtside, -⟩ := (State.mem_formed_outside hs hm).1 hout
  rw [State.pump_formed hs hn] at hrunning
  have hpump : s.updateStaged.pump n = (s.settledPump n).enter .stopping := by
    rw [State.pump_updateStaged hs hn hpresent hmanifold hm, Pump.staged, if_pos hrunning, if_pos (decide_eq_true h)]
  have htimer : (s.updateInputs.stageTargets m).destageAfter m = some 0 := by
    rw [State.destageAfter, hno, if_neg Bool.false_ne_true, if_neg (List.ne_nil_of_mem hout), h, Option.isSome_some,
      if_pos rfl]
  obtain ⟨_, hupdated⟩ := State.manifold_updated_staged hs.1 hm
  refine ⟨hn, hpresent, hmanifold, houtside, hrunning, ?_, by rw [hupdated, htimer]⟩
  rw [State.pump_updated_of_not_queued hs (by simp [hpump]), hpump]

end Sys2Proof.Machine
end

section
/-! PROOF. Where the input transitions of a pump update leave each pump (R107 to R116). -/
namespace Sys2Proof.Machine

/-! ### Pumps that move on (R107 case 3, R108, R112, R118) -/

/-- A pump that moves on runs after its examination with its command kept; one that started has its timer at 0. -/
theorem Pump.examined_of_runsOn {p : Pump} (hpresent : p.cfg.present = true) (h : p.runsOn) :
    p.examined.state = .running ∧ p.examined.command = p.command ∧ (p.state = .starting → p.examined.timer = 0) := by
  rw [Pump.examined, Pump.finding_of_runsOn hpresent h]
  split
  next hst => exact ⟨hst, rfl, fun hno => by rw [hst] at hno; cases hno⟩
  next => exact ⟨Pump.enter_state .., rfl, fun _ => Pump.enter_timer ..⟩

/-- In suspension a pump that moves on stops (R112). -/
theorem State.updated_of_runsOn_suspended {s : State} (hs : s.pumpsOk) {n : Nat} (hn : n < 16)
    (hpresent : (s.pump n).cfg.present = true) (h : (s.sampled n).runsOn) (hholds : s.suspensionHolds = true) :
    (s.updated.pump n).state = .stopping ∧ (s.updated.pump n).timer = 0 := by
  obtain ⟨hrunning, -⟩ := Pump.examined_of_runsOn (p := s.sampled n) hpresent h
  have hsettled : s.settledPump n = (s.sampled n).examined.enter .stopping := by
    rw [State.settledPump_of_suspended hholds, Pump.halted, Pump.suspending, hrunning, PumpAction.change]
  have hstate : (s.settledPump n).state = .stopping := by rw [hsettled, Pump.enter_state]
  rw [State.updated_eq_settledPump hs hn (by simp [hstate]) (by simp [hstate]) (by simp [hstate]), hsettled]
  exact ⟨Pump.enter_state .., Pump.enter_timer ..⟩

/-- Outside suspension a pump that moves on is sped or destaged (R117, R118). -/
theorem State.updated_of_runsOn {s : State} (hs : s.pumpsOk) {n m : Nat} (hn : n < 16)
    (hpresent : (s.pump n).cfg.present = true) (hm : (s.pump n).cfg.manifold = m) (hm8 : m < 8)
    (h : (s.sampled n).runsOn) (hholds : s.suspensionHolds = false) :
    s.updated.pump n = ((s.sampled n).examined).ramp (s.updateStaged.commonSpeed m)
      ∨ (s.updateInputs.stageTargets m).destageNext m = some n := by
  obtain ⟨hrunning, -⟩ := Pump.examined_of_runsOn (p := s.sampled n) hpresent h
  by_cases hnext : (s.updateInputs.stageTargets m).destageNext m = some n
  · exact .inr hnext
  · have hstaged : s.updateStaged.pump n = ((s.sampled n).examined).ramp (s.updateStaged.commonSpeed m) := by
      rw [State.pump_updateStaged hs hn hpresent hm hm8, State.settledPump_of_open hholds, Pump.staged, if_pos hrunning,
        decide_eq_false hnext, if_neg Bool.false_ne_true]
    refine .inl ?_
    rw [State.pump_updated_of_not_queued hs (by rw [hstaged]; exact fun hq => by rw [Pump.ramp, hrunning] at hq; cases hq),
      hstaged]

/-! ### Pumps that wait (R115, R116) -/

/-- Staging moves a pump that is IDLE or QUEUED by the target set (R115, R116). -/
theorem Pump.staged_of_waiting {mayJoin inSet destaged : Bool} {sigma : Nat} {p : Pump}
    (h : p.state = .idle ∨ p.state = .queued) : (p.staged mayJoin inSet destaged sigma).state =
      if inSet = true ∧ (p.state = .queued ∨ mayJoin = true) then .queued else .idle := by
  unfold Pump.staged Pump.requeued
  rcases h with h | h <;> cases inSet <;> cases mayJoin <;> simp [h]

/-- An IDLE or QUEUED pump without a fault, once the inputs are examined and staging is suspended or not. -/
theorem State.settledPump_of_waiting {s : State} {n : Nat} (hwait : (s.pump n).state = .idle ∨ (s.pump n).state = .queued)
    (hfault : s.pins.fault.getLsbD n = false) : (s.settledPump n).state =
      if s.suspensionHolds then .idle else (s.pump n).state := by
  have hfinding : (s.sampled n).finding = .stays := by
    cases hpresent : (s.pump n).cfg.present <;>
      rcases hwait with h | h <;> simp [Pump.finding, State.sampled, hpresent, h, hfault]
  rw [State.settledPump, Pump.examined_of_stays hfinding]
  split
  · rcases hwait with h | h <;> simp [Pump.halted, Pump.suspending, State.sampled, h, PumpAction.change]
  · rfl

/-- An IDLE or QUEUED pump without a fault is QUEUED once staging is done exactly when it is in the target set and staging
is not suspended, and else IDLE (R112, R115, R116). -/
theorem State.updateStaged_of_waiting {s : State} (hs : s.pumpsOk) {n : Nat} (hn : n < 16)
    (hpresent : (s.pump n).cfg.present = true) (hm8 : (s.pump n).cfg.manifold < 8)
    (hwait : (s.pump n).state = .idle ∨ (s.pump n).state = .queued) (hfault : s.pins.fault.getLsbD n = false) :
    (s.updateStaged.pump n).state =
      if n ∈ (s.updated.manifold (s.pump n).cfg.manifold).targets ∧ s.suspensionHolds = false then .queued else .idle := by
  have hsettled := State.settledPump_of_waiting hwait hfault
  have hstop : n ∉ s.stoppingPumps := fun h => by
    rw [State.mem_stoppingPumps] at h
    rcases hwait with hw | hw <;> simp [hw] at h
  have hwaits : (s.settledPump n).state = .idle ∨ (s.settledPump n).state = .queued := by
    rw [hsettled]
    split
    · exact .inl rfl
    · exact hwait
  rw [State.pump_updateStaged hs hn hpresent rfl hm8, Pump.staged_of_waiting hwaits, State.updateStaged_targets hs.1 hm8,
    hsettled]
  cases s.suspensionHolds <;> simp [hstop]

/-- A pump IDLE or QUEUED without a fault after the update. -/
theorem State.updated_of_waiting {s : State} (hs : s.pumpsOk) {n : Nat} (hn : n < 16)
    (hpresent : (s.pump n).cfg.present = true) (hm8 : (s.pump n).cfg.manifold < 8)
    (hwait : (s.pump n).state = .idle ∨ (s.pump n).state = .queued) (hfault : s.pins.fault.getLsbD n = false) :
    (n ∈ (s.updated.manifold (s.pump n).cfg.manifold).targets ∧ s.suspensionHolds = false →
        (s.updated.pump n).state = .queued ∨ (s.updated.pump n).state = .starting)
      ∧ (n ∉ (s.updated.manifold (s.pump n).cfg.manifold).targets ∨ s.suspensionHolds = true →
        (s.updated.pump n).state = .idle) := by
  have hstaged := State.updateStaged_of_waiting hs hn hpresent hm8 hwait hfault
  constructor
  · intro h
    rw [if_pos h] at hstaged
    rw [State.pump_updated hs]
    split
    · exact .inr (Pump.enter_state ..)
    · exact .inl hstaged
  · intro h
    rw [if_neg fun ⟨hin, hopen⟩ => h.elim (· hin) fun hholds => by rw [hholds] at hopen; cases hopen] at hstaged
    exact (State.updated_state_iff hs (by decide) (by decide) n).2 hstaged

/-! ### Pumps that stop or come to rest (R109) -/

/-- A STOPPING pump that comes to rest without a mark is IDLE and not queued in the same update (R109, log entry 33). -/
theorem State.updated_of_rests {s : State} (hs : s.pumpsOk) {n : Nat} (hn : n < 16)
    (hstopping : (s.pump n).state = .stopping) (hmark : (s.pump n).mark = false)
    (h : (s.sampled n).finding = .rests) : s.updated.pump n = (s.sampled n).rested := by
  have hidle : (s.sampled n).rested.state = .idle := by
    have hm : (s.sampled n).mark = false := hmark
    simp [Pump.rested, hm]
  have hsettled : s.settledPump n = (s.sampled n).rested := by
    have hexamined := Pump.examined_of_rests h
    rw [← hexamined] at hidle ⊢
    exact State.settledPump_of_still (by simp [hidle]) (by simp [hidle]) (by simp [hidle])
  have hstop : n ∈ s.stoppingPumps := State.mem_stoppingPumps.2 ⟨hn, hstopping⟩
  have hstaged : s.updateStaged.pump n = (s.sampled n).rested := by
    by_cases hunstaged : (s.pump n).cfg.present = false ∨ 8 ≤ (s.pump n).cfg.manifold
    · rw [State.pump_updateStaged_of_unstaged hs hn hunstaged, hsettled]
    · obtain ⟨hpresent, hm⟩ := not_or.1 hunstaged
      rw [State.pump_updateStaged hs hn (Bool.not_eq_false _ ▸ hpresent) rfl (by omega), hsettled]
      exact Pump.staged_of_still (by simp [hidle]) (by simp [hidle]) fun _ => .inl (by simp [hstop])
  rw [State.pump_updated_of_not_queued hs (by simp [hstaged, hidle]), hstaged]

/-- A STARTING pump that waits for its feedback goes on starting (R107). -/
theorem State.updated_of_starting_stays {s : State} (hs : s.pumpsOk) {n : Nat} (hn : n < 16)
    (hstarting : (s.pump n).state = .starting) (h : (s.sampled n).finding = .stays) (hholds : s.suspensionHolds = false) :
    s.updated.pump n = s.sampled n := by
  have hsettled : s.settledPump n = s.sampled n := by
    rw [State.settledPump_of_open hholds, Pump.examined_of_stays h]
  have hstate : (s.settledPump n).state = .starting := by rw [hsettled]; exact hstarting
  rw [State.updated_eq_settledPump hs hn (by simp [hstate]) (by simp [hstate]) (by simp [hstate]), hsettled]

end Sys2Proof.Machine
end

section
/-! PROOF. The clauses about the input transitions of a pump update (R107 to R116), settled. -/
namespace Sys2Proof.Machine

theorem Pump.ramp_state (sigma : Nat) (p : Pump) : (p.ramp sigma).state = p.state := rfl

theorem Pump.ramp_timer (sigma : Nat) (p : Pump) : (p.ramp sigma).timer = p.timer := rfl

/-- With no fault, no mark and its feedback, a pump that starts or runs moves on. -/
theorem State.runsOn_sampled {s : State} {n : Nat} (hst : (s.pump n).state = .starting ∨ (s.pump n).state = .running)
    (hmark : (s.pump n).mark = false) (hfault : s.pins.fault.getLsbD n = false)
    (hfeedback : s.pins.feedback.getLsbD n = true) : (s.sampled n).runsOn := ⟨hst.symm, hmark, hfault, hfeedback⟩

/-- Where a pump that moves on stands outside suspension: RUNNING and sped within its ramp, or destaged (R117, R118). -/
theorem State.updated_sped_or_destaged {s : State} (hs : s.pumpsOk) {n : Nat} (hn : n < 16)
    (hpresent : (s.pump n).cfg.present = true) (hm8 : (s.pump n).cfg.manifold < 8) (h : (s.sampled n).runsOn)
    (hholds : s.suspensionHolds = false) :
    ((s.updated.pump n).state = .running ∧ ((s.pump n).state = .starting → (s.updated.pump n).timer = 0)
        ∧ (s.pump n).cfg.minSpeed ≤ (s.updated.pump n).target
        ∧ (s.updated.pump n).command ≤ (s.pump n).command + ((s.pump n).cfg.ramp + 9) / 10
        ∧ (s.pump n).command ≤ (s.updated.pump n).command + ((s.pump n).cfg.ramp + 9) / 10)
      ∨ ((s.updated.pump n).state = .stopping ∧ n ∉ (s.updated.manifold (s.pump n).cfg.manifold).targets
        ∧ (s.updated.manifold (s.pump n).cfg.manifold).destage = some 0) := by
  obtain ⟨hrunning, hcommand, htimer⟩ := Pump.examined_of_runsOn (p := s.sampled n) hpresent h
  have hcfg : (s.sampled n).examined.cfg = (s.pump n).cfg := Pump.examined_cfg _
  rcases State.updated_of_runsOn hs hn hpresent rfl hm8 h hholds with hsped | hnext
  · obtain ⟨-, -, hup, hdown⟩ := moveSpeed_bounds (s.sampled n).examined.command
      (max (s.updateStaged.commonSpeed (s.pump n).cfg.manifold) (s.pump n).cfg.minSpeed) (((s.pump n).cfg.ramp + 9) / 10)
    refine .inl ?_
    have hold : (s.sampled n).command = (s.pump n).command := rfl
    have hstate : (s.sampled n).state = (s.pump n).state := rfl
    rw [hcommand, hold] at hup hdown
    rw [hstate] at htimer
    rw [hsped, Pump.ramp_state, Pump.ramp_timer, Pump.ramp_target, Pump.ramp_command, hcfg, hcommand, hold]
    exact ⟨hrunning, htimer, le_max_right .., hup, hdown⟩
  · obtain ⟨-, -, -, houtside, -, hpump, hzero⟩ := State.updated_of_destageNext hs hm8 hnext
    exact .inr ⟨by rw [hpump, Pump.enter_state], houtside, hzero⟩

/-- Settles O29: clause by clause of what the examination finds (`Pump.finding`). -/
theorem pumpInputTransitions : Obligations.PumpInputTransitions := by
  unfold Obligations.PumpInputTransitions
  intro s t n hs hn hdue hexec hpresent
  obtain rfl : s.updated = t := Host.Outcome.next.inj ((exec_pumpUpdate_due hdue).symm.trans hexec)
  dsimp only
  rw [← State.suspensionHolds_iff]
  have hfaults {c : FaultCause} := State.updated_of_faults (c := c) hs hn
  refine ⟨fun hst hmark => ?marked, fun hst hmark hfault hfeedback => ⟨?suspended, ?sped⟩, fun hst hmark hfault => ?fault,
    fun hst hmark hfault hfeedback => ⟨fun htimer => ?timeout, fun htimer hholds => ?starts⟩,
    fun hst hmark hfault hfeedback => ?lost, fun hst hfault => ?stopFault, fun hst hfault hfeedback hmark => ?locked,
    fun hst hfault hfeedback hmark => ?idle, fun hst hfault hfeedback htimer => ?stopTimeout,
    fun hst hfault hfeedback htimer => ?stops, fun hwait hfault => ?waitFault, fun hwait hfault hm8 => ?waits,
    fun hrest => ?rest⟩
  case marked =>
    have hfinding : (s.sampled n).finding = .moves .stopping := by
      rcases hst with hst | hst <;> simp [Pump.finding, State.sampled, hpresent, hst, hmark]
    have hpump := State.updated_eq_examined hs hn (Pump.examined_of_moves hfinding) (.inl (Pump.enter_state ..))
    generalize s.updated = t at hpump ⊢
    rw [hpump]
    exact ⟨rfl, hmark, rfl, rfl⟩
  case suspended =>
    exact State.updated_of_runsOn_suspended hs hn hpresent (State.runsOn_sampled hst hmark hfault hfeedback)
  case sped =>
    intro hholds hm8
    exact State.updated_sped_or_destaged hs hn hpresent hm8 (State.runsOn_sampled hst hmark hfault hfeedback)
      (Bool.not_eq_true _ ▸ hholds)
  case fault =>
    refine hfaults ?_
    rcases hst with hst | hst <;> simp [Pump.finding, State.sampled, hpresent, hst, hmark, hfault]
  case timeout =>
    refine hfaults ?_
    simp [Pump.finding, State.sampled, hpresent, hst, hmark, hfault, hfeedback, Pump.timedOut, periodsOfMs, htimer]
  case starts =>
    have hfinding : (s.sampled n).finding = .stays := by
      simp [Pump.finding, State.sampled, hpresent, hst, hmark, hfault, hfeedback, Pump.timedOut, periodsOfMs, htimer]
    rw [State.updated_of_starting_stays hs hn hst hfinding (Bool.not_eq_true _ ▸ hholds)]
    exact ⟨hst, rfl⟩
  case lost =>
    refine hfaults ?_
    simp [Pump.finding, State.sampled, hpresent, hst, hmark, hfault, hfeedback]
  case stopFault =>
    refine hfaults ?_
    simp [Pump.finding, State.sampled, hpresent, hst, hfault]
  case locked =>
    have hfinding : (s.sampled n).finding = .rests := by
      simp [Pump.finding, State.sampled, hpresent, hst, hfault, hfeedback]
    have hlocked : (s.sampled n).rested.state = .lockedOut := by simp [Pump.rested, State.sampled, hmark]
    rw [State.updated_eq_examined hs hn (Pump.examined_of_rests hfinding) (.inr (.inr hlocked))]
    exact ⟨hlocked, rfl⟩
  case idle =>
    have hfinding : (s.sampled n).finding = .rests := by
      simp [Pump.finding, State.sampled, hpresent, hst, hfault, hfeedback]
    rw [State.updated_of_rests hs hn hst hmark hfinding]
    have hrested : (s.sampled n).rested = { (s.sampled n).enter .idle with mark := false } := by
      simp [Pump.rested, State.sampled, hmark]
    rw [hrested]
    exact ⟨rfl, rfl, rfl, rfl⟩
  case stopTimeout =>
    refine hfaults ?_
    simp [Pump.finding, State.sampled, hpresent, hst, hfault, hfeedback, Pump.timedOut, periodsOfMs, htimer]
  case stops =>
    have hfinding : (s.sampled n).finding = .stays := by
      simp [Pump.finding, State.sampled, hpresent, hst, hfault, hfeedback, Pump.timedOut, periodsOfMs, htimer]
    rw [State.updated_eq_examined hs hn (Pump.examined_of_stays hfinding) (.inl hst)]
    exact ⟨hst, rfl, rfl⟩
  case waitFault =>
    have hfinding : (s.sampled n).finding = .faults .faultInput := by
      rcases hwait with hst | hst <;> simp [Pump.finding, State.sampled, hpresent, hst, hfault]
    obtain ⟨hstate, hcause, -⟩ := hfaults hfinding
    exact ⟨hstate, hcause⟩
  case waits =>
    rw [Bool.not_eq_true]
    exact State.updated_of_waiting hs hn hpresent hm8 hwait hfault
  case rest =>
    have hfinding : (s.sampled n).finding = .stays := by
      rcases hrest with hst | hst <;> simp [Pump.finding, State.sampled, hst]
    rw [State.updated_eq_examined hs hn (Pump.examined_of_stays hfinding) (.inr hrest.symm)]
    exact ⟨rfl, rfl, rfl⟩

end Sys2Proof.Machine
end

section
/-! PROOF. The four rows that stand for one transition of a pump update (R106, R107, R109, R117, R119). -/
namespace Sys2Proof.Machine

/-! ### A row takes the update or does nothing (log entries 3 and 4) -/

theorem State.takePumpsIf_idle {s : State} (h : s.due.pump = false) (makes : Bool) : s.takePumpsIf makes = s := by
  rw [State.takePumpsIf, h, Bool.false_and, if_neg Bool.false_ne_true]

theorem State.takePumpsIf_false (s : State) : s.takePumpsIf false = s := by
  rw [State.takePumpsIf, Bool.and_false, if_neg Bool.false_ne_true]

theorem State.takePumpsIf_true {s : State} (h : s.due.pump = true) : s.takePumpsIf true = s.updated := by
  rw [State.takePumpsIf, h, Bool.and_self, if_pos rfl, State.takePumps_due h, State.updated]

theorem exec_pumpStartTimeout (n : Fin 16) (s : State) : exec (.pumpStartTimeout n) s =
    .next (s.takePumpsIf ((s.samplePumps.pump n).cfg.present && (s.samplePumps.pump n).startTimedOut)) := rfl

theorem exec_pumpStopTimeout (n : Fin 16) (s : State) : exec (.pumpStopTimeout n) s =
    .next (s.takePumpsIf ((s.samplePumps.pump n).cfg.present && (s.samplePumps.pump n).stopTimedOut)) := rfl

theorem exec_destage (m : Fin 8) (s : State) : exec (.destage m) s =
    .next (s.takePumpsIf ((s.updateInputs.stageTargets m).destageNext m).isSome) := rfl

theorem exec_startGrant (s : State) : exec .startGrant s = .next (s.takePumpsIf s.updateStaged.grantNext.isSome) := rfl

/-- A row whose transition the update makes takes the update; a row whose transition it does not make does nothing. -/
theorem exec_row_takes {s : State} {c : Instr} {makes : Bool} (hdue : s.due.pump = true)
    (hrow : exec c s = .next (s.takePumpsIf makes)) (h : makes = true) :
    exec c s = .next s.updated ∧ exec .pumpUpdate s = .next s.updated := by
  rw [hrow, h, State.takePumpsIf_true hdue]
  exact ⟨rfl, exec_pumpUpdate_due hdue⟩

theorem exec_row_rests {s : State} {c : Instr} {makes : Bool} (hrow : exec c s = .next (s.takePumpsIf makes))
    (h : makes = false) : exec c s = .next s := by
  rw [hrow, h, s.takePumpsIf_false]

/-! ### The timeouts (R107 case 4, R109 case 3) -/

/-- A timeout, in sample periods (R107, R109). -/
theorem Pump.timedOut_iff {ms : Nat} {p : Pump} : p.timedOut ms = true ↔ ms * 48 ≤ p.timer := decide_eq_true_iff

/-- A start timeout, condition by condition (R107 case 4). -/
theorem Pump.startTimedOut_iff {p : Pump} : (p.cfg.present && p.startTimedOut) = true ↔ p.cfg.present = true
    ∧ p.state = .starting ∧ p.mark = false ∧ p.fault = false ∧ p.feedback = false
    ∧ p.cfg.startTimeout * 48 ≤ p.timer := by
  simp [Pump.startTimedOut, Pump.timedOut_iff, and_assoc]

/-- A stop timeout, condition by condition (R109 case 3). -/
theorem Pump.stopTimedOut_iff {p : Pump} : (p.cfg.present && p.stopTimedOut) = true ↔ p.cfg.present = true
    ∧ p.state = .stopping ∧ p.fault = false ∧ p.feedback = true ∧ p.cfg.stopTimeout * 48 ≤ p.timer := by
  simp [Pump.stopTimedOut, Pump.timedOut_iff, and_assoc]

/-- The examination finds the start timeout. -/
theorem Pump.finding_of_startTimedOut {p : Pump} (h : (p.cfg.present && p.startTimedOut) = true) :
    p.finding = .faults .startTimeout := by
  obtain ⟨hpresent, hst, hmark, hfault, hfeedback, htimer⟩ := Pump.startTimedOut_iff.1 h
  simp [Pump.finding, hpresent, hst, hmark, hfault, hfeedback, Pump.timedOut_iff.2 htimer]

/-- The examination finds the stop timeout. -/
theorem Pump.finding_of_stopTimedOut {p : Pump} (h : (p.cfg.present && p.stopTimedOut) = true) :
    p.finding = .faults .stopTimeout := by
  obtain ⟨hpresent, hst, hfault, hfeedback, htimer⟩ := Pump.stopTimedOut_iff.1 h
  simp [Pump.finding, hpresent, hst, hfault, hfeedback, Pump.timedOut_iff.2 htimer]

/-! ### The destage (R117) -/

/-- A pump that runs once its inputs are examined has kept its mark. -/
theorem State.settledPump_mark_of_running {s : State} {n : Nat} (h : (s.settledPump n).state = .running) :
    (s.settledPump n).mark = (s.pump n).mark := by
  obtain ⟨-, heq⟩ := State.settledPump_of_running h
  rw [heq] at h ⊢
  rcases Pump.examined_of_running h with heq | heq <;> rw [heq]
  · rfl
  · rw [Pump.enter_mark]
    rfl

/-- A bit raised by staging stays raised to the end of the update. -/
theorem State.updated_summary_of_staged {s : State} {i : Nat} (h : s.updateStaged.link.summary.getLsbD i = true) :
    s.updated.link.summary.getLsbD i = true := by
  have hpublished := (State.updateFrame_publish _).summary i (s.updateStaged.updateFrame_grant.summary i h)
  rwa [State.updated, State.modifyDue_link, s.pumpUpdate_eq]

/-- A destage raises PUMP_STATE (R111). -/
theorem State.summary_of_destageNext {s : State} (hs : s.sized) {m k : Nat} (hm : m < 8)
    (h : (s.updateInputs.stageTargets m).destageNext m = some k) : s.updated.link.summary.getLsbD 8 = true :=
  State.updated_summary_of_staged (((State.updateStaged_stagedTo hs).behind m hm).summary k h)

/-- The destage delay of a manifold is the same when the update destages it. -/
theorem State.formed_cfg {s : State} (m : Nat) : ((s.updateInputs.stageTargets m).manifold m).cfg = (s.manifold m).cfg := by
  rw [(s.updateInputs.pumpsMove_stageTargets m).frame.manifoldCfg, s.pumpsMove_updateInputs.frame.manifoldCfg]

/-- What the update that destages manifold `m` makes of the pump it stops. -/
theorem State.updated_of_destaged {s : State} (hs : s.pumpsOk) {m k : Nat} (hm : m < 8)
    (h : (s.updateInputs.stageTargets m).destageNext m = some k) :
    (s.updated.pump k).state = .stopping ∧ (s.updated.pump k).command = 0 ∧ (s.updated.pump k).target = 0
      ∧ (s.updated.pump k).timer = 0 ∧ (s.updated.pump k).mark = (s.pump k).mark
      ∧ (s.updated.manifold m).destage = some 0 ∧ s.updated.link.summary.getLsbD 8 = true := by
  obtain ⟨-, -, -, -, hrunning, hpump, hzero⟩ := State.updated_of_destageNext hs hm h
  have hmark := State.settledPump_mark_of_running hrunning
  have hsummary := State.summary_of_destageNext hs.1 hm h
  generalize s.updated = t at hpump hzero hsummary ⊢
  rw [hpump]
  exact ⟨rfl, rfl, rfl, rfl, hmark, hzero, hsummary⟩

/-- When a manifold destages nothing (R117). -/
theorem State.destageNext_eq_none {v : State} {m : Nat} (h : v.pumps.suspended = true ∨ (v.manifold m).destage = none
      ∨ v.destageVictim m = none ∨ ∃ count, (v.manifold m).destage = some count
        ∧ count < (v.manifold m).cfg.destage * 48) : v.destageNext m = none := by
  cases hnext : v.destageNext m with
  | none => rfl
  | some k =>
    obtain ⟨count, hcount, hopen, hreached, hvictim⟩ := State.destageNext_eq_some.1 hnext
    rcases h with h | h | h | ⟨count', hcount', hlt⟩
    · rw [hopen] at h; cases h
    · rw [hcount] at h; cases h
    · rw [hvictim] at h; cases h
    · rw [hcount, Option.some.injEq] at hcount'
      rw [periodsOfMs] at hreached
      omega

/-! ### The grant (R119) -/

/-- Staging changes nothing of what tells whether the start interval has passed. -/
theorem State.updateStaged_intervalPassed {s : State} (hs : s.sized) :
    s.updateStaged.intervalPassed = s.intervalPassed := by
  have hframe := State.updateFrame_updateStaged hs
  have htimer : s.updateStaged.timer = s.timer := by rw [hframe.outside]
  rw [State.intervalPassed, State.updateStaged_lastGrant hs, hframe.interval, htimer, State.intervalPassed]

/-- When the arbiter grants nothing (R119). -/
theorem State.grantNext_eq_none {w : State} (h : w.pumps.queue = [] ∨ w.pumps.suspended = true ∨ w.startingPump ≠ none
      ∨ w.intervalPassed = false) : w.grantNext = none := by
  cases hnext : w.grantNext with
  | none => rfl
  | some k =>
    obtain ⟨hopen, hfree, hpassed, hhead⟩ := State.grantNext_eq_some.1 hnext
    rcases h with h | h | h | h
    · rw [h] at hhead; cases hhead
    · rw [hopen] at h; cases h
    · exact absurd hfree h
    · rw [hpassed] at h; cases h

/-- What the update that grants pump `k` makes of it, of the queue and of the time of the last grant. -/
theorem State.updated_of_granted {s : State} (hs : s.pumpsOk) {k : Nat} (h : s.updateStaged.grantNext = some k) :
    (s.updated.pump k).state = .starting ∧ (s.updated.pump k).command = (s.pump k).cfg.minSpeed
      ∧ (s.updated.pump k).timer = 0 ∧ s.updated.pumps.queue = s.updateStaged.pumps.queue.tail
      ∧ s.updated.pumps.lastGrant = some s.timer.device ∧ s.updated.link.summary.getLsbD 8 = true := by
  have hcfg := (State.updateFrame_updateStaged hs.1).pumpCfg k
  have hpump := State.pump_updated hs k
  have hqueue := s.updated_queue
  have hlast := State.updated_lastGrant hs.1
  have hsummary : s.updated.link.summary.getLsbD 8 = true := by
    have hpublished := (State.updateFrame_publish _).summary 8 (State.summary_grant h)
    rwa [State.updated, State.modifyDue_link, s.pumpUpdate_eq]
  rw [h] at hpump hqueue hlast
  rw [if_pos rfl] at hpump
  generalize s.updated = t at hpump hqueue hlast hsummary ⊢
  generalize s.updateStaged = w at hpump hqueue hcfg ⊢
  rw [hpump, ← hcfg]
  exact ⟨rfl, rfl, rfl, hqueue, hlast, hsummary⟩

/-- Settles O30: each row by the flag that tells whether the update makes its transition. -/
theorem pumpSteps : Obligations.PumpSteps := by
  unfold Obligations.PumpSteps
  intro n m s
  dsimp only
  refine ⟨fun hdue => ?idle, fun hdue hs => ?_⟩
  case idle =>
    rw [exec_pumpStartTimeout, exec_pumpStopTimeout, exec_destage, exec_startGrant]
    simp only [State.takePumpsIf_idle hdue, and_self]
  have ⟨⟨_, _, _, _, _, htable, _⟩, _⟩ := hs
  have hn : (n : Nat) < 16 := n.isLt
  have hsampled : s.samplePumps.pump n = s.sampled n := State.pump_samplePumps_of_lt (by omega)
  have hstart := exec_pumpStartTimeout n s
  have hstop := exec_pumpStopTimeout n s
  rw [hsampled] at hstart hstop
  have hstartOut := Pump.startTimedOut_iff (p := s.sampled n)
  have hstopOut := Pump.stopTimedOut_iff (p := s.sampled n)
  rw [← State.formed_cfg (s := s) m, ← State.updateStaged_intervalPassed hs.1]
  refine ⟨fun h => ⟨s.updated, exec_row_takes hdue hstart (hstartOut.2 h), ?start⟩,
    fun h => exec_row_rests hstart (Bool.eq_false_iff.2 (mt hstartOut.1 h)),
    fun h => ⟨s.updated, exec_row_takes hdue hstop (hstopOut.2 h), ?stop⟩,
    fun h => exec_row_rests hstop (Bool.eq_false_iff.2 (mt hstopOut.1 h)),
    fun count k hopen hcount hreached hvictim => ?destage, fun h => ?undestaged,
    fun k rest hqueue hopen hfree hpassed => ?grant, fun h => ?ungranted⟩
  case start => exact State.updated_of_faults hs hn (Pump.finding_of_startTimedOut (hstartOut.2 h))
  case stop => exact State.updated_of_faults hs hn (Pump.finding_of_stopTimedOut (hstopOut.2 h))
  case destage =>
    have hnext := State.destageNext_eq_some.2 ⟨count, hcount, hopen, hreached, hvictim⟩
    exact ⟨s.updated, exec_row_takes hdue (exec_destage m s) (by rw [hnext]; rfl),
      State.updated_of_destaged hs m.isLt hnext⟩
  case undestaged => exact exec_row_rests (exec_destage m s) (by rw [State.destageNext_eq_none h]; rfl)
  case grant =>
    have hnext : s.updateStaged.grantNext = some k :=
      State.grantNext_eq_some.2 ⟨hopen, hfree, hpassed, by rw [hqueue, List.head?_cons]⟩
    have hgranted := State.updated_of_granted hs hnext
    rw [hqueue, List.tail_cons] at hgranted
    exact ⟨s.updated, exec_row_takes hdue (exec_startGrant s) (by rw [hnext]; rfl), hgranted⟩
  case ungranted => exact exec_row_rests (exec_startGrant s) (by rw [State.grantNext_eq_none h]; rfl)

end Sys2Proof.Machine
end

section
/-! PROOF. Whom a pump update destages and when (R117). -/
namespace Sys2Proof.Machine

/-! ### Victim, STARTING pump and start interval, in every state -/

theorem State.mem_outside {s : State} {m n : Nat} : n ∈ s.outside m ↔
    n < 16 ∧ (s.pump n).cfg.present = true ∧ (s.pump n).cfg.manifold = m ∧ n ∉ (s.manifold m).targets
      ∧ ((s.pump n).state = .starting ∨ (s.pump n).state = .running) := by
  rw [State.outside, List.mem_filter, State.mem_pumpsOf, and_assoc, and_assoc]
  simp

/-- The last of a sorted list stands at its end. -/
theorem rel_getLast?_of_pairwise {α : Type} {R : α → α → Prop} (hrefl : ∀ a, R a a) {l : List α}
    (hl : l.Pairwise R) {a v : α} (hv : l.getLast? = some v) (ha : a ∈ l) : R a v := by
  obtain ⟨l, rfl⟩ := List.getLast?_eq_some_iff.1 hv
  obtain ⟨-, -, hlast⟩ := List.pairwise_append.1 hl
  rcases List.mem_append.1 ha with ha | ha
  · exact hlast a ha v (List.mem_singleton_self v)
  · rw [List.mem_singleton.1 ha]
    exact hrefl v

/-- The destage victim has the largest rank of the RUNNING pumps outside the target set (R117). -/
theorem State.rank_le_destageVictim {s : State} {m v n : Nat} (h : s.destageVictim m = some v) (hn : n ∈ s.outside m)
    (hrunning : (s.pump n).state = .running) : (s.pump n).cfg.rank ≤ (s.pump v).cfg.rank :=
  rel_getLast?_of_pairwise (R := fun a b => (s.pump a).cfg.rank ≤ (s.pump b).cfg.rank) (fun _ => le_rfl)
    (((s.pumpsOf_sorted m).filter _).filter _) h (List.mem_filter.2 ⟨hn, decide_eq_true hrunning⟩)

theorem State.destageVictim_eq_none {s : State} {m : Nat} :
    s.destageVictim m = none ↔ ∀ n ∈ s.outside m, (s.pump n).state ≠ .running := by
  rw [State.destageVictim, List.getLast?_eq_none_iff, List.filter_eq_nil_iff]
  simp only [decide_eq_true_eq, ne_eq]

theorem State.startingPump_eq_none {s : State} : s.startingPump = none ↔ ∀ n < 16, (s.pump n).state ≠ .starting := by
  rw [State.startingPump, List.find?_eq_none]
  simp only [List.mem_range, decide_eq_true_eq, ne_eq]

theorem State.intervalPassed_iff {s : State} : s.intervalPassed = true ↔
    ∀ g, s.pumps.lastGrant = some g → s.pumps.startInterval * 48 ≤ (s.timer.device - g).toNat := by
  unfold State.intervalPassed
  cases s.pumps.lastGrant with
  | none => simp
  | some g =>
    simp only [Option.some.injEq, forall_eq']
    exact decide_eq_true_iff

/-! ### The pumps that an update may destage -/

/-- A present pump of manifold `m` lies outside the target set that an update forms. -/
def State.LiesOutside (s : State) (m n : Nat) : Prop :=
  n < 16 ∧ (s.pump n).cfg.present = true ∧ (s.pump n).cfg.manifold = m ∧ n ∉ (s.updated.manifold m).targets

/-- The RUNNING pumps outside the set, as the destage finds them, are the pumps that move on and lie outside it. -/
theorem State.runsOn_outside_iff {s : State} (hs : s.pumpsOk) {m n : Nat} (hm : m < 8) (hholds : s.suspensionHolds = false) :
    s.LiesOutside m n ∧ (s.sampled n).runsOn ↔ n ∈ (s.updateInputs.stageTargets m).outside m
      ∧ ((s.updateInputs.stageTargets m).pump n).state = .running := by
  rw [State.mem_formed_outside hs hm]
  constructor
  · rintro ⟨⟨hn, hpresent, hmanifold, hout⟩, hruns⟩
    have hrunning := (State.settledPump_running_iff hpresent).2 ⟨hholds, hruns⟩
    exact ⟨⟨hn, hpresent, hmanifold, hout, .inr hrunning⟩, by rw [State.pump_formed hs hn, hrunning]⟩
  · rintro ⟨⟨hn, hpresent, hmanifold, hout, -⟩, hrunning⟩
    rw [State.pump_formed hs hn] at hrunning
    exact ⟨⟨hn, hpresent, hmanifold, hout⟩, ((State.settledPump_running_iff hpresent).1 hrunning).2⟩

/-- The pump that an update stops for lying outside the set is the one it destages. -/
theorem State.stopped_iff {s : State} (hs : s.pumpsOk) {m n : Nat} (hm : m < 8) (hholds : s.suspensionHolds = false) :
    s.LiesOutside m n ∧ (s.sampled n).runsOn ∧ (s.updated.pump n).state = .stopping ↔
      (s.updateInputs.stageTargets m).destageNext m = some n := by
  constructor
  · rintro ⟨⟨hn, hpresent, hmanifold, -⟩, hruns, hstopping⟩
    refine (State.updated_of_runsOn hs hn hpresent hmanifold hm hruns hholds).resolve_left fun hsped => ?_
    obtain ⟨hrunning, -⟩ := Pump.examined_of_runsOn (p := s.sampled n) hpresent hruns
    rw [hsped, Pump.ramp_state, hrunning] at hstopping
    cases hstopping
  · intro h
    obtain ⟨hout, hruns⟩ := (State.runsOn_outside_iff hs hm hholds).2 (State.destageNext_spec h)
    obtain ⟨-, -, -, -, -, hpump, -⟩ := State.updated_of_destageNext hs hm h
    exact ⟨hout, hruns, by rw [hpump, Pump.enter_state]⟩

/-- Outside suspension the destage reads the timer as it stood when the update began. -/
theorem State.formed_destage {s : State} (hs : s.sized) {m : Nat} (hm : m < 8) (hholds : s.suspensionHolds = false) :
    ((s.updateInputs.stageTargets m).manifold m).destage = (s.manifold m).destage := by
  rw [State.manifold_formed hs hm, State.manifold_updateInputs,
    if_neg fun ⟨h, _⟩ => Bool.false_ne_true (hholds.symm.trans h)]

theorem State.suspended_stageTargets (s : State) (m : Nat) : (s.stageTargets m).pumps.suspended = s.pumps.suspended := rfl

theorem State.formed_suspended (s : State) (m : Nat) :
    (s.updateInputs.stageTargets m).pumps.suspended = s.suspensionHolds := by
  rw [State.suspended_stageTargets, s.updateInputs_suspended]

/-- A manifold destages exactly when its timer has reached the delay and a pump that moves on lies outside the set. -/
theorem State.exists_destageNext_iff {s : State} (hs : s.pumpsOk) {m : Nat} (hm : m < 8)
    (hholds : s.suspensionHolds = false) : (∃ n, (s.updateInputs.stageTargets m).destageNext m = some n) ↔
      (∃ count, (s.manifold m).destage = some count ∧ (s.manifold m).cfg.destage * 48 ≤ count)
        ∧ ∃ n, s.LiesOutside m n ∧ (s.sampled n).runsOn := by
  simp only [State.runsOn_outside_iff hs hm hholds, State.destageNext_eq_some, State.formed_destage hs.1 hm hholds,
    State.formed_cfg, State.formed_suspended, hholds, periodsOfMs, true_and]
  constructor
  · rintro ⟨n, count, hcount, hreached, hvictim⟩
    exact ⟨⟨count, hcount, hreached⟩, n, State.destageVictim_spec hvictim⟩
  · rintro ⟨⟨count, hcount, hreached⟩, n, hout, hrunning⟩
    cases hvictim : (s.updateInputs.stageTargets m).destageVictim m with
    | none => exact absurd hrunning (State.destageVictim_eq_none.1 hvictim n hout)
    | some v => exact ⟨v, count, hcount, hreached, rfl⟩

/-- The pump destaged has the largest rank of those that move on outside the set. -/
theorem State.rank_le_destageNext {s : State} (hs : s.pumpsOk) {m a n : Nat} (hm : m < 8)
    (hholds : s.suspensionHolds = false) (h : (s.updateInputs.stageTargets m).destageNext m = some a)
    (hout : s.LiesOutside m n) (hruns : (s.sampled n).runsOn) : (s.pump n).cfg.rank ≤ (s.pump a).cfg.rank := by
  obtain ⟨hmem, hrunning⟩ := (State.runsOn_outside_iff hs hm hholds).1 ⟨hout, hruns⟩
  obtain ⟨_, -, -, -, hvictim⟩ := State.destageNext_eq_some.1 h
  have hrank := State.rank_le_destageVictim hvictim hmem hrunning
  rwa [State.pump_stageTargets, State.pump_stageTargets, State.updateInputs_cfg, State.updateInputs_cfg] at hrank

/-! ### The destage timer -/

/-- A pump that is QUEUED once staging is done is in the target set of its manifold (R116). -/
theorem State.mem_targets_of_queued {s : State} (hs : s.pumpsOk) {m n : Nat} (hm : m < 8) (hn : n < 16)
    (hpresent : (s.pump n).cfg.present = true) (hmanifold : (s.pump n).cfg.manifold = m)
    (h : (s.updateStaged.pump n).state = .queued) : n ∈ (s.updated.manifold m).targets := by
  rw [State.pump_updateStaged hs hn hpresent hmanifold hm, Pump.staged_state_queued, decide_eq_true_iff,
    State.updateStaged_targets hs.1 hm] at h
  exact h.1

/-- A pump outside the set that starts or runs after the update did so when the destage found it. -/
theorem State.settled_of_updated_outside {s : State} (hs : s.pumpsOk) {m n : Nat} (hm : m < 8) (hout : s.LiesOutside m n)
    (h : (s.updated.pump n).state = .starting ∨ (s.updated.pump n).state = .running) :
    (s.settledPump n).state = .starting ∨ (s.settledPump n).state = .running := by
  obtain ⟨hn, hpresent, hmanifold, hout⟩ := hout
  refine h.imp (fun hstarting => ?_) fun hrunning => (State.updated_of_running hs hn hpresent hmanifold hm hrunning).1
  rcases State.starting_of_updated hs hn hstarting with hgrant | ⟨-, hstaged⟩
  · obtain ⟨-, hqueued, -⟩ := State.granted_spec hs hgrant
    exact absurd (State.mem_targets_of_queued hs hm hn hpresent hmanifold hqueued) hout
  · exact (State.updateStaged_starting hs hn).1 hstaged

/-- A pump that starts or runs when the destage finds it does so after the update, unless it is the one destaged. -/
theorem State.updated_of_settled {s : State} (hs : s.pumpsOk) {m n : Nat} (hm : m < 8) (hn : n < 16)
    (hpresent : (s.pump n).cfg.present = true) (hmanifold : (s.pump n).cfg.manifold = m)
    (hnext : (s.updateInputs.stageTargets m).destageNext m = none)
    (h : (s.settledPump n).state = .starting ∨ (s.settledPump n).state = .running) :
    (s.updated.pump n).state = .starting ∨ (s.updated.pump n).state = .running := by
  refine h.imp (fun hstarting => ?_) fun hrunning => ?_
  · have hstaged := (State.updateStaged_starting hs hn).2 hstarting
    rwa [State.pump_updated_of_not_queued hs (by simp [hstaged])]
  · rw [State.updated_state_iff hs (by decide) (by decide), State.pump_updateStaged hs hn hpresent hmanifold hm,
      Pump.staged_state.2, hnext]
    exact ⟨hrunning, rfl⟩

/-- With nothing destaged, pumps wait to be destaged after the update exactly when it found some. -/
theorem State.waits_iff {s : State} (hs : s.pumpsOk) {m : Nat} (hm : m < 8)
    (hnext : (s.updateInputs.stageTargets m).destageNext m = none) :
    (∃ n, s.LiesOutside m n ∧ ((s.updated.pump n).state = .starting ∨ (s.updated.pump n).state = .running)) ↔
      (s.updateInputs.stageTargets m).outside m ≠ [] := by
  constructor
  · rintro ⟨n, hout, hstate⟩
    have hsettled := State.settled_of_updated_outside hs hm hout hstate
    obtain ⟨hn, hpresent, hmanifold, hout⟩ := hout
    exact List.ne_nil_of_mem ((State.mem_formed_outside hs hm).2 ⟨hn, hpresent, hmanifold, hout, hsettled⟩)
  · intro h
    obtain ⟨n, hmem⟩ := List.exists_mem_of_ne_nil _ h
    obtain ⟨hn, hpresent, hmanifold, hout, hsettled⟩ := (State.mem_formed_outside hs hm).1 hmem
    exact ⟨n, ⟨hn, hpresent, hmanifold, hout⟩, State.updated_of_settled hs hm hn hpresent hmanifold hnext hsettled⟩

/-- The destage timer after an update that destages nothing: it stops, or it starts or keeps its count (R117). -/
theorem State.updated_destage {s : State} (hs : s.sized) {m : Nat} (hm : m < 8) (hholds : s.suspensionHolds = false)
    (hnext : (s.updateInputs.stageTargets m).destageNext m = none) : (s.updated.manifold m).destage =
      if (s.updateInputs.stageTargets m).outside m = [] then none else some ((s.manifold m).destage.getD 0) := by
  obtain ⟨_, h⟩ := State.manifold_updated_staged hs hm
  rw [h, State.destageAfter, s.formed_suspended, hholds, if_neg Bool.false_ne_true, hnext, Option.isSome_none,
    if_neg Bool.false_ne_true, State.formed_destage hs hm hholds]

/-- A pump that moves on in the target set runs after the update (R107, R108, R117). -/
theorem State.updated_running_of_mem_targets {s : State} (hdue : s.due.pump = true) (hs : s.pumpsOk) {m n : Nat}
    (hn : n < 16) (hpresent : (s.pump n).cfg.present = true) (hmanifold : (s.pump n).cfg.manifold = m)
    (hruns : (s.sampled n).runsOn) (hholds : s.suspensionHolds = false) (hset : n ∈ (s.updated.manifold m).targets) :
    (s.updated.pump n).state = .running := by
  have hm : m < 8 := by
    by_contra hm
    obtain ⟨-, -, -, -, hmanifolds, -⟩ := State.updated_sized hdue hs.1
    have hblank : s.updated.manifold m = Manifold.blank := by
      rw [State.manifold, List.getD_eq_getElem?_getD, List.getElem?_eq_none (by omega), Option.getD_none]
    rw [hblank] at hset
    cases hset
  rcases State.updated_of_runsOn hs hn hpresent hmanifold hm hruns hholds with hsped | hnext
  · obtain ⟨hrunning, -⟩ := Pump.examined_of_runsOn (p := s.sampled n) hpresent hruns
    rw [hsped, Pump.ramp_state, hrunning]
  · obtain ⟨-, -, -, hout, -⟩ := State.updated_of_destageNext hs hm hnext
    exact absurd hset hout

end Sys2Proof.Machine
end

section
/-! PROOF. In what order pumps queue and whom the arbiter grants (R115, R116, R119), with what a pump update destages,
settled. -/
namespace Sys2Proof.Machine

/-! ### The pumps that join the queue (R115) -/

/-- The pumps that a pump update adds to the start queue, in the order in which it adds them. -/
def State.joinedNow (s : State) : List Nat := (List.range 8).flatMap (s.updateInputs.joinersOf s.stoppingPumps)

/-- A pump that joins at the staging of manifold `m` was IDLE when the update began and is a pump of `m`. -/
theorem State.idle_of_mem_joinersOf {s : State} (hs : s.pumpsOk) {m n : Nat}
    (h : n ∈ s.updateInputs.joinersOf s.stoppingPumps m) : (s.pump n).state = .idle ∧ (s.pump n).cfg.manifold = m := by
  obtain ⟨hn, -, hmanifold⟩ := State.mem_pumpsOf.1 (State.mem_pumpsOf_of_mem_joinersOf h)
  rw [State.updateInputs_cfg] at hmanifold
  refine ⟨?_, hmanifold⟩
  unfold State.joinersOf State.newJoiners at h
  rw [s.updateInputs_suspended] at h
  cases hholds : s.suspensionHolds with
  | true => simp [hholds] at h
  | false =>
    rw [hholds, if_neg Bool.false_ne_true, State.joiners, List.mem_filter, decide_eq_true_iff,
      State.pump_updateInputs hs hn] at h
    exact State.idle_of_joins hn hholds h.2.2 h.2.1

/-- The pumps that join at the staging of one manifold do so in ascending rank. -/
theorem State.joinersOf_sorted (s : State) (stopped : List Nat) (m : Nat) :
    (s.joinersOf stopped m).Pairwise fun a b => (s.pump a).cfg.rank ≤ (s.pump b).cfg.rank := by
  unfold State.joinersOf State.newJoiners
  split
  · exact .nil
  · exact (s.pumpsOf_sorted m).sublist (List.filter_sublist.trans (s.targetSet_sublist ..))

/-- New pumps join the queue by manifold and, within one, by rank. -/
theorem State.joinedNow_sorted {s : State} (hs : s.pumpsOk) : s.joinedNow.Pairwise fun a b =>
    (s.pump a).cfg.manifold < (s.pump b).cfg.manifold
      ∨ ((s.pump a).cfg.manifold = (s.pump b).cfg.manifold ∧ (s.pump a).cfg.rank ≤ (s.pump b).cfg.rank) := by
  refine List.pairwise_flatMap.2 ⟨fun m _ => ?_, List.pairwise_lt_range.imp fun hlt a ha b hb => .inl ?_⟩
  · refine (s.updateInputs.joinersOf_sorted s.stoppingPumps m).imp_of_mem fun ha hb hrank => .inr ?_
    rw [State.updateInputs_cfg, State.updateInputs_cfg] at hrank
    exact ⟨(State.idle_of_mem_joinersOf hs ha).2.trans (State.idle_of_mem_joinersOf hs hb).2.symm, hrank⟩
  · rwa [(State.idle_of_mem_joinersOf hs ha).2, (State.idle_of_mem_joinersOf hs hb).2]

/-! ### The pumps that stay in the queue (R116) -/

/-- A pump that starts once staging is done starts after the update. -/
theorem State.updated_of_starting {s : State} (hs : s.pumpsOk) {n : Nat} (h : (s.updateStaged.pump n).state = .starting) :
    (s.updated.pump n).state = .starting := by
  rwa [State.pump_updated_of_not_queued hs (by simp [h])]

/-- A pump that was QUEUED when the update began is QUEUED or STARTING after it exactly when staging left it QUEUED. -/
theorem State.updated_of_queued {s : State} (hs : s.pumpsOk) {n : Nat} (hn : n < 16) (h : (s.pump n).state = .queued) :
    (s.updated.pump n).state = .queued ∨ (s.updated.pump n).state = .starting ↔ (s.updateStaged.pump n).state = .queued := by
  constructor
  · rintro (hqueued | hstarting)
    · rwa [← State.pump_updated_of_not_starting hs (by simp [hqueued])]
    · rcases State.starting_of_updated hs hn hstarting with hgrant | ⟨-, hstaged⟩
      · exact (State.granted_spec hs hgrant).2.1
      · have hbefore := State.starting_of_updateStaged hs hn hstaged
        rw [h] at hbefore
        cases hbefore
  · intro hstaged
    rw [State.pump_updated hs]
    split
    · exact .inr (Pump.enter_state ..)
    · exact .inl hstaged

/-- The places left in the queue, told by a later state in which their pumps are QUEUED or STARTING. -/
theorem State.stillQueued_eq_filter {w t : State} {queue : List Nat} (h : ∀ n ∈ queue,
    (t.pump n).state = .queued ∨ (t.pump n).state = .starting ↔ (w.pump n).state = .queued) : w.stillQueued queue =
      queue.filter fun n => (t.pump n).state = .queued || (t.pump n).state = .starting := by
  refine List.filter_congr fun n hn => ?_
  rw [Bool.eq_iff_iff, Bool.or_eq_true, decide_eq_true_iff, decide_eq_true_iff, decide_eq_true_iff]
  exact (h n hn).symm

/-- The queue once staging is done, told by where the update leaves the pumps. -/
theorem State.updateStaged_queue_eq {s : State} (hs : s.pumpsOk) : s.updateStaged.pumps.queue =
    (s.pumps.queue.filter fun n => (s.updated.pump n).state = .queued || (s.updated.pump n).state = .starting)
      ++ s.joinedNow := by
  have ⟨_, _, hin, _⟩ := hs
  have hleft := State.stillQueued_eq_filter (w := s.updateStaged) (t := s.updated) fun n hn =>
    State.updated_of_queued hs (hin n hn) (((State.pumpsOk_queueOk hs).mem n).1 hn)
  rw [← hleft, (State.updateStaged_queue hs).2, State.joinedNow]

/-! ### The grant (R119) -/

/-- A pump that starts when the update begins is not QUEUED once staging is done. -/
theorem State.not_queued_of_starting {s : State} (hs : s.pumpsOk) {n : Nat} (hn : n < 16)
    (h : (s.pump n).state = .starting) : (s.updateStaged.pump n).state ≠ .queued := fun hqueued => by
  rcases State.queued_of_updateStaged hs hn hqueued with hsettled | ⟨-, hidle⟩
  · rw [← State.pump_updateInputs hs hn] at hsettled
    have hbefore := s.pumpsMove_updateInputs.unjoined n hsettled
    rw [h] at hbefore
    cases hbefore
  · rw [h] at hidle
    cases hidle

/-- No pump starts once staging is done exactly when every pump that started when the update began has left STARTING. -/
theorem State.startingPump_updateStaged {s : State} (hs : s.pumpsOk) : s.updateStaged.startingPump = none ↔
    ∀ n < 16, (s.pump n).state = .starting → (s.updated.pump n).state ≠ .starting := by
  rw [State.startingPump_eq_none]
  constructor
  · intro h n hn hbefore hafter
    rcases State.starting_of_updated hs hn hafter with hgrant | ⟨-, hstaged⟩
    · exact State.not_queued_of_starting hs hn hbefore (State.granted_spec hs hgrant).2.1
    · exact h n hn hstaged
  · intro h n hn hstaged
    exact h n hn (State.starting_of_updateStaged hs hn hstaged) (State.updated_of_starting hs hstaged)

/-- The arbiter's conditions, told by the state in which the update began and by where it leaves the pumps. -/
theorem State.grantNext_updateStaged {s : State} (hs : s.pumpsOk) {k : Nat} : s.updateStaged.grantNext = some k ↔
    s.suspensionHolds = false ∧ (∀ n < 16, (s.pump n).state = .starting → (s.updated.pump n).state ≠ .starting)
      ∧ s.intervalPassed = true ∧ s.updateStaged.pumps.queue.head? = some k := by
  rw [State.grantNext_eq_some, State.updateStaged_suspended hs.1, State.startingPump_updateStaged hs,
    State.updateStaged_intervalPassed hs.1]

/-- With a grant the pump granted starts, with the queue's rest and the time recorded, and no other pump does. -/
theorem State.updated_of_head {s : State} (hs : s.pumpsOk) {k : Nat} {rest : List Nat}
    (hqueue : s.updateStaged.pumps.queue = k :: rest) (h : s.updateStaged.grantNext = some k) :
    (s.updated.pump k).state = .starting ∧ (s.updated.pump k).command = (s.updated.pump k).cfg.minSpeed
      ∧ (s.updated.pump k).timer = 0 ∧ s.updated.pumps.queue = rest
      ∧ s.updated.pumps.lastGrant = some s.timer.device ∧ ∀ n < 16, n ≠ k → (s.updated.pump n).state ≠ .starting := by
  obtain ⟨hstate, hcommand, htimer, htail, hlast, -⟩ := State.updated_of_granted hs h
  rw [hqueue, List.tail_cons] at htail
  refine ⟨hstate, by rw [hcommand, State.updated_cfg hs.1], htimer, htail, hlast, fun n hn hne hstarting => ?_⟩
  rcases State.starting_of_updated hs hn hstarting with hgrant | ⟨hnone, -⟩
  · exact hne (Option.some.inj (hgrant.symm.trans h))
  · rw [h] at hnone
    cases hnone

/-- With no grant the queue and the time of the last grant stay, and no pump becomes STARTING. -/
theorem State.updated_of_no_grant {s : State} (hs : s.pumpsOk) (h : s.updateStaged.grantNext = none) :
    s.updated.pumps.queue = s.updateStaged.pumps.queue ∧ s.updated.pumps.lastGrant = s.pumps.lastGrant
      ∧ ∀ n < 16, (s.updated.pump n).state = .starting → (s.pump n).state = .starting := by
  refine ⟨by rw [s.updated_queue, h]; rfl, by rw [State.updated_lastGrant hs.1, h]; rfl, fun n hn hstarting => ?_⟩
  rcases State.starting_of_updated hs hn hstarting with hgrant | ⟨-, hstaged⟩
  · rw [h] at hgrant
    cases hgrant
  · exact State.starting_of_updateStaged hs hn hstaged

/-- When a pump update grants nothing. -/
theorem State.updateStaged_grants_none {s : State} (hs : s.pumpsOk) (h : s.updateStaged.pumps.queue = []
    ∨ s.suspensionHolds = true
    ∨ ¬ (∀ n < 16, (s.pump n).state = .starting → (s.updated.pump n).state ≠ .starting)
    ∨ s.intervalPassed = false) : s.updateStaged.grantNext = none := by
  rw [← State.updateStaged_suspended hs.1, ← State.startingPump_updateStaged hs,
    ← State.updateStaged_intervalPassed hs.1] at h
  exact State.grantNext_eq_none h

/-! ### The statement -/

/-- Settles O31: the victim and the arbiter's conditions in every state, then the update's destage (`stopped_iff`) and its
grant (`grantNext_updateStaged`). -/
theorem victimAndArbiter : Obligations.VictimAndArbiter := by
  unfold Obligations.VictimAndArbiter
  intro m s
  refine ⟨fun v hvictim => ?victim, State.startingPump_eq_none, State.intervalPassed_iff, fun t hs hdue hexec => ?_⟩
  case victim =>
    obtain ⟨hmem, hrunning⟩ := State.destageVictim_spec hvictim
    obtain ⟨hv, hpresent, hmanifold, hout, -⟩ := State.mem_outside.1 hmem
    exact ⟨hv, hpresent, hmanifold, hrunning, hout, fun n hn hnpresent hnmanifold hnrunning hnout =>
      State.rank_le_destageVictim hvictim
        (State.mem_outside.2 ⟨hn, hnpresent, hnmanifold, hnout, .inr hnrunning⟩) hnrunning⟩
  obtain rfl : s.updated = t := Host.Outcome.next.inj ((exec_pumpUpdate_due hdue).symm.trans hexec)
  dsimp only
  rw [← State.suspensionHolds_iff, Bool.not_eq_true]
  refine ⟨fun hholds hm => ?destage, fun n hruns hholds hmanifold hset hn hpresent => ?runs, s.joinedNow, fun n hn => ?idle,
    State.joinedNow_sorted hs, ?_⟩
  case destage =>
    have hstopped (n : Nat) := State.stopped_iff hs (n := n) hm hholds
    refine ⟨fun a b ha hb => ?one, ?exactly, fun a ha => ?largest, fun hnone => ?timer⟩
    case one => exact Option.some.inj (((hstopped a).1 ha).symm.trans ((hstopped b).1 hb))
    case exactly => exact (exists_congr hstopped).trans (State.exists_destageNext_iff hs hm hholds)
    case largest =>
      have hnext := (hstopped a).1 ha
      obtain ⟨-, -, -, -, -, -, hzero⟩ := State.updated_of_destageNext hs hm hnext
      exact ⟨hzero, fun n hout hruns => State.rank_le_destageNext hs hm hholds hnext hout hruns⟩
    case timer =>
      have hnext : (s.updateInputs.stageTargets m).destageNext m = none :=
        Option.eq_none_iff_forall_ne_some.2 fun a ha => hnone ⟨a, (hstopped a).2 ha⟩
      have hwaits := State.waits_iff hs hm hnext
      rw [State.updated_destage hs.1 hm hholds hnext]
      exact ⟨fun h => if_pos (of_not_not (mt hwaits.2 h)), fun h => if_neg (hwaits.1 h)⟩
  case runs => exact State.updated_running_of_mem_targets hdue hs hn hpresent hmanifold hruns hholds hset
  case idle =>
    obtain ⟨k, -, hk⟩ := List.mem_flatMap.1 hn
    exact (State.idle_of_mem_joinersOf hs hk).1
  rw [← State.updateStaged_queue_eq hs]
  refine ⟨fun k rest hqueue hholds hfree hpassed => ?grant, fun h => ?none⟩
  case grant =>
    exact State.updated_of_head hs hqueue
      ((State.grantNext_updateStaged hs).2 ⟨hholds, hfree, hpassed, by rw [hqueue, List.head?_cons]⟩)
  case none => exact State.updated_of_no_grant hs (State.updateStaged_grants_none hs h)

end Sys2Proof.Machine
end

section
/-! PROOF. Passes over the zones, and what a presence input that becomes active stops (R138). -/
namespace Sys2Proof.Machine

/-! ### A pass over zones -/

theorem State.sized_zones {s : State} (hs : s.sized) : s.site.zones.length = 17 := by
  obtain ⟨-, -, -, -, -, -, hlen, -⟩ := hs
  exact hlen

/-- The state with `f` made of each zone named. -/
def State.changeZones (zs : List Nat) (f : Zone → Zone) (s : State) : State :=
  { s with site := { s.site with zones := s.site.zones.mapIdx fun y x => if y ∈ zs then f x else x } }

/-- A pass of changes, zone by zone, changes each zone named once. -/
theorem State.forEach_modifyZone (f : Zone → Zone) {zs : List Nat} (hzs : zs.Nodup) (s : State) :
    forEach zs (fun z u => u.modifyZone z f) s = s.changeZones zs f := by
  induction zs generalizing s with
  | nil =>
    have hzones : s.site.zones.mapIdx (fun y x => if y ∈ ([] : List Nat) then f x else x) = s.site.zones :=
      List.ext_getElem? fun y => by simp
    rw [State.changeZones, hzones]
    rfl
  | cons a zs ih =>
    obtain ⟨ha, hzs⟩ := List.nodup_cons.1 hzs
    have hzones : (s.site.zones.modify a f).mapIdx (fun y x => if y ∈ zs then f x else x) =
        s.site.zones.mapIdx fun y x => if y ∈ a :: zs then f x else x := by
      refine List.ext_getElem? fun y => ?_
      simp only [List.getElem?_mapIdx, List.getElem?_modify, List.mem_cons]
      by_cases hy : a = y
      · subst hy
        cases s.site.zones[a]? <;> simp [ha]
      · cases s.site.zones[y]? <;> simp [hy, Ne.symm hy]
    rw [forEach_cons, ih hzs]
    exact congrArg (fun zones => { s with site := { s.site with zones := zones } }) hzones

theorem State.zone_changeZones (zs : List Nat) (f : Zone → Zone) {s : State} {y : Nat} (hy : y < s.site.zones.length) :
    (s.changeZones zs f).zone y = if y ∈ zs then f (s.zone y) else s.zone y := by
  simp [State.changeZones, State.zone, List.getD_eq_getElem?_getD, hy]

theorem State.raiseIf_zone (b : Bool) (e : Event) (s : State) (y : Nat) : (s.raiseIf b e).zone y = s.zone y := by
  cases b <;> rfl

/-! ### Stop groups (R138) -/

/-- Zone `y` shares a stop group with zone `w`. -/
def State.groupedWith (s : State) (w y : Nat) : Prop :=
  (s.zone w).cfg.stopGroup ≠ none ∧ (s.zone y).cfg.stopGroup = (s.zone w).cfg.stopGroup

theorem State.sharesGroup_iff {s : State} {zs : List Nat} {y : Nat} :
    s.sharesGroup zs y = true ↔ ∃ w ∈ zs, s.groupedWith w y := by
  unfold State.sharesGroup State.groupedWith
  cases (s.zone y).cfg.stopGroup with
  | none => simpa using fun w _ h => Ne.symm h
  | some g =>
    simp only [List.any_eq_true, decide_eq_true_eq]
    refine exists_congr fun w => and_congr_right fun _ => ⟨fun h => ⟨by simp [h], h.symm⟩, fun h => h.2.symm⟩

/-- Zone `y` is enabled and names presence input `k`. -/
def State.namesInput (s : State) (k y : Nat) : Prop := (s.zone y).cfg.enabled = true ∧ (s.zone y).cfg.presence = some k

/-- Presence input `k` stops zone `y`: an enabled ranged zone that names it or shares a stop group with one that does
(R138). -/
def State.stopsZone (s : State) (k y : Nat) : Prop :=
  y < 16 ∧ (s.zone y).cfg.enabled = true ∧ (s.namesInput k y ∨ ∃ w < 16, s.namesInput k w ∧ s.groupedWith w y)

theorem State.mem_zonesOfInput {s : State} {k y : Nat} : y ∈ s.zonesOfInput k ↔ y < 16 ∧ s.namesInput k y := by
  simp [State.zonesOfInput, State.namesInput]

theorem State.mem_stoppedBy {s : State} {k y : Nat} : y ∈ s.stoppedBy k ↔ s.stopsZone k y := by
  simp only [State.stoppedBy, State.stopsZone, List.mem_filter, List.mem_range, Bool.and_eq_true, Bool.or_eq_true,
    List.contains_iff_mem, State.mem_zonesOfInput, State.sharesGroup_iff, and_assoc]
  exact and_congr_right fun hy => by simp [hy]

theorem State.stoppedBy_nodup (s : State) (k : Nat) : (s.stoppedBy k).Nodup := List.nodup_range.filter _

/-! ### An active presence input (R138) -/

/-- Whether presence input `k` finds a zone to stop whose latch is clear. -/
def State.freshStop (s : State) (k : Nat) : Bool := (s.stoppedBy k).any fun z => !(s.zone z).latch

theorem State.freshStop_iff {s : State} {k : Nat} :
    s.freshStop k = true ↔ ∃ y < 16, s.stopsZone k y ∧ (s.zone y).latch = false := by
  simp only [State.freshStop, List.any_eq_true, State.mem_stoppedBy, Bool.not_eq_true']
  exact exists_congr fun y => ⟨fun h => ⟨h.1.1, h⟩, And.right⟩

/-- The stop of an active input: its zones latched, and ZONE_STOP raised when a latch was clear. -/
theorem State.stopZones_eq (k : Nat) (s : State) : s.stopZones k =
    (s.changeZones (s.stoppedBy k) fun x => { x with latch := true }).raiseIf (s.freshStop k) .zoneStop :=
  congrArg (State.raiseIf (s.freshStop k) .zoneStop) (State.forEach_modifyZone _ (s.stoppedBy_nodup k) s)

/-- The stop reaches the zones and the summary alone. -/
theorem State.stopZones_frame (k : Nat) (s : State) : s.stopZones k =
    { s with site := { s.site with zones := (s.stopZones k).site.zones },
             link := { s.link with summary := (s.stopZones k).link.summary } } := by
  rw [State.stopZones_eq, State.raiseIf_eq]
  rfl

theorem State.zone_stopZones {s : State} {k y : Nat} (hs : s.site.zones.length = 17) (hy : y < 17) :
    (s.stopsZone k y → (s.stopZones k).zone y = { s.zone y with latch := true })
      ∧ (¬ s.stopsZone k y → (s.stopZones k).zone y = s.zone y) := by
  rw [State.stopZones_eq, State.raiseIf_zone, State.zone_changeZones _ _ (hs.symm ▸ hy), ← State.mem_stoppedBy]
  exact ⟨fun h => if_pos h, fun h => if_neg h⟩

theorem State.link_stopZones (k : Nat) (s : State) :
    ((∃ y < 16, s.stopsZone k y ∧ (s.zone y).latch = false) → (s.stopZones k).link = (s.raise .zoneStop).link)
      ∧ ((∀ y < 16, s.stopsZone k y → (s.zone y).latch = true) → (s.stopZones k).link = s.link) := by
  rw [State.stopZones_eq, ← State.freshStop_iff]
  refine ⟨fun h => by rw [h]; rfl, fun h => ?_⟩
  have hquiet : s.freshStop k = false := Bool.eq_false_iff.2 fun hf => by
    obtain ⟨y, hy, hstop, hclear⟩ := State.freshStop_iff.1 hf
    rw [h y hy hstop] at hclear
    cases hclear
  rw [hquiet]
  rfl

/-! ### The debounced inputs -/

/-- Settles O36: each input by its count, and the stop of an active presence input by `stopZones`. -/
theorem debouncedInputs : Obligations.DebouncedInputs := by
  unfold Obligations.DebouncedInputs
  intro k s input site named stopped
  have hexec : exec (.presenceDebounced k) s = .next (s.takePresence k) := rfl
  have htake (hcount : 4800 ≤ (s.presence k).count) : s.takePresence k =
      if input then State.stopZones k { s with site := site } else { s with site := site } :=
    if_neg (Nat.not_lt.2 hcount)
  refine ⟨fun hcount => ?early, fun hcount hinput => ?inactive, fun hcount hinput hs => ?active, rfl, rfl⟩
  case early => exact congrArg Host.Outcome.next (if_pos hcount)
  case inactive => rw [hexec, htake hcount, hinput]; rfl
  case active =>
    have hlen := State.sized_zones hs
    refine ⟨State.stopZones k { s with site := site }, ?_, State.stopZones_frame k _,
      fun y hy => State.zone_stopZones (s := { s with site := site }) hlen hy,
      State.link_stopZones k { s with site := site }⟩
    rw [hexec, htake hcount, hinput]
    rfl

end Sys2Proof.Machine
end

section
/-! PROOF. ZONE_SET (R129). -/
namespace Sys2Proof.Machine

/-! ### Coded fields -/

/-- A stop group or presence byte names no value. -/
theorem inputOf_isNone {b : Byte} : (inputOf b).isNone = true ↔ ¬ (b.toNat ≤ 7 ∨ b = 255) := by
  unfold inputOf
  by_cases hnone : b = 255
  · rw [if_pos hnone]
    simp [hnone]
  · rw [if_neg hnone]
    by_cases hle : b.toNat ≤ 7
    · simp [hle]
    · simpa [hle] using hnone

/-- The value a coded stop group or presence byte names. -/
theorem inputOf_getD {b : Byte} (h : b.toNat ≤ 7 ∨ b = 255) :
    (inputOf b).getD none = if b = 255 then none else some b.toNat := by
  unfold inputOf
  by_cases hnone : b = 255
  · rw [if_pos hnone, if_pos hnone]
    rfl
  · rw [if_neg hnone, if_neg hnone, if_pos (h.resolve_right hnone)]
    rfl

/-- Checks that all answer one code: the refusal is that code, whichever of them fails. -/
theorem firstFailure_of_code {l : List (Bool × ResultCode)} {c : ResultCode} (hc : ∀ x ∈ l, x.2 = c) :
    firstFailure l = if l.any Prod.fst then some c else none := by
  induction l with
  | nil => rfl
  | cons x l ih =>
    obtain ⟨b, d⟩ := x
    obtain ⟨rfl, hl⟩ := List.forall_mem_cons.1 hc
    cases b
    · exact (firstFailure_cons_false rfl).trans (ih hl)
    · rfl

/-! ### The zone configured -/

/-- The state once ZONE_SET has configured its zone, before what an active input stops (R129). -/
def State.configureZone (p : ZoneSetParams) (s : State) : State :=
  (s.modifyZone p.zone.toNat (Zone.configure (zoneConfigOf p))).raiseIf
    (decide ((s.zone p.zone.toNat).wind ≠ .clear)) .windState

theorem State.configureZone_eq (p : ZoneSetParams) (s : State) : s.configureZone p =
    if (s.zone p.zone.toNat).wind = .clear then s.modifyZone p.zone.toNat (Zone.configure (zoneConfigOf p))
    else (s.modifyZone p.zone.toNat (Zone.configure (zoneConfigOf p))).raise .windState := by
  unfold State.configureZone State.raiseIf
  by_cases h : (s.zone p.zone.toNat).wind = .clear <;> simp [h]

theorem State.configureZone_frame (p : ZoneSetParams) (s : State) : s.configureZone p =
    { s with site := { s.site with zones := s.site.zones.modify p.zone.toNat (Zone.configure (zoneConfigOf p)) },
             link := { s.link with summary := (s.configureZone p).link.summary } } := by
  unfold State.configureZone
  rw [State.raiseIf_eq]
  rfl

theorem State.zone_configureZone {p : ZoneSetParams} {s : State} (hz : p.zone.toNat < s.site.zones.length) :
    (s.configureZone p).zone p.zone.toNat = (s.zone p.zone.toNat).configure (zoneConfigOf p) := by
  rw [State.configureZone, State.raiseIf_zone, State.zone_modifyZone, if_pos ⟨rfl, hz⟩]

theorem State.presence_configureZone (p : ZoneSetParams) (s : State) (k : Nat) :
    (s.configureZone p).presence k = s.presence k := by
  rw [State.configureZone_frame]
  rfl

theorem State.setZone_of_none {p : ZoneSetParams} (h : (zoneConfigOf p).presence = none) (s : State) :
    s.setZone p = s.configureZone p := by
  unfold State.setZone
  dsimp only
  rw [h]
  rfl

theorem State.setZone_of_some {p : ZoneSetParams} {k : Nat} (h : (zoneConfigOf p).presence = some k) (s : State) :
    s.setZone p = if (zoneConfigOf p).enabled ∧ (s.presence k).debounced = true then (s.configureZone p).stopZones k
      else s.configureZone p := by
  rw [← s.presence_configureZone p k]
  unfold State.setZone
  dsimp only
  rw [h]
  rfl

/-- A zone whose input is inactive is configured and no more. -/
theorem State.setZone_of_inactive {p : ZoneSetParams} {s : State} (h : (zoneConfigOf p).enabled = false
    ∨ ∀ k, (zoneConfigOf p).presence = some k → (s.presence k).debounced = false) :
    s.setZone p = s.configureZone p := by
  cases hk : (zoneConfigOf p).presence with
  | none => exact State.setZone_of_none hk s
  | some k =>
    refine (State.setZone_of_some hk s).trans (if_neg fun ⟨henabled, hactive⟩ => ?_)
    rcases h with hdisabled | hinactive
    · rw [hdisabled] at henabled
      cases henabled
    · rw [hinactive k hk] at hactive
      cases hactive

theorem State.stopZones_transferTaken (k : Nat) (s : State) :
    s.transferTaken.stopZones k = (s.stopZones k).transferTaken := by
  rw [State.stopZones_eq, State.stopZones_eq, State.raiseIf_eq, State.raiseIf_eq]
  rfl

theorem State.configureZone_transferTaken (p : ZoneSetParams) (s : State) :
    s.transferTaken.configureZone p = (s.configureZone p).transferTaken := by
  unfold State.configureZone
  rw [State.raiseIf_eq, State.raiseIf_eq]
  rfl

theorem State.setZone_transferTaken (p : ZoneSetParams) (s : State) :
    s.transferTaken.setZone p = (s.setZone p).transferTaken := by
  cases hk : (zoneConfigOf p).presence with
  | none => rw [State.setZone_of_none hk, State.setZone_of_none hk, State.configureZone_transferTaken]
  | some k =>
    rw [State.setZone_of_some hk, State.setZone_of_some hk, State.configureZone_transferTaken,
      State.stopZones_transferTaken]
    exact (apply_ite State.transferTaken ..).symm

/-! ### The command -/

/-- A zone number or a coded field of a ZONE_SET that names nothing. -/
def zoneCodesBad (p : ZoneSetParams) : Bool :=
  decide (16 < p.zone.toNat)
    || (decide (p.zone.toNat < 16)
      && ((yesNoOf p.enabled).isNone || (inputOf p.stopGroup).isNone || (inputOf p.presence).isNone))

/-- A figure of a ZONE_SET out of its range. -/
def zoneFiguresBad (p : ZoneSetParams) : Bool :=
  decide (10000 < p.cap.toNat) || decide (999 < p.hard.toNat) || decide (3600 < p.hold.toNat)
    || decide (0 < p.hard.toNat ∧ (998 < p.soft.toNat ∨ p.hard.toNat ≤ p.soft.toNat))

/-- A span of nozzles that a ranged zone cannot be enabled with. -/
def zoneSpanBad (p : ZoneSetParams) : Bool :=
  decide (p.zone.toNat < 16) && decide (p.enabled = 1)
    && (decide (383 < p.last.toNat) || decide (p.last.toNat < p.first.toNat))

/-- The checks of a ZONE_SET after those of the show and the save (R129). -/
def zoneSetChecks (p : ZoneSetParams) : List (Bool × ResultCode) :=
  [(zoneCodesBad p, .badParam), (zoneFiguresBad p, .badParam), (zoneSpanBad p, .badParam)]

theorem zoneCodesBad_iff {p : ZoneSetParams} : zoneCodesBad p = true ↔ 16 < p.zone.toNat
    ∨ (p.zone.toNat < 16 ∧ (1 < p.enabled.toNat ∨ ¬ (p.stopGroup.toNat ≤ 7 ∨ p.stopGroup = 255)
      ∨ ¬ (p.presence.toNat ≤ 7 ∨ p.presence = 255))) := by
  simp only [zoneCodesBad, Bool.or_eq_true, Bool.and_eq_true, decide_eq_true_eq, yesNoOf_isNone, inputOf_isNone, or_assoc]

theorem zoneFiguresBad_iff {p : ZoneSetParams} : zoneFiguresBad p = true ↔
    10000 < p.cap.toNat ∨ 999 < p.hard.toNat ∨ 3600 < p.hold.toNat
      ∨ (0 < p.hard.toNat ∧ (998 < p.soft.toNat ∨ p.hard.toNat ≤ p.soft.toNat)) := by
  simp only [zoneFiguresBad, Bool.or_eq_true, decide_eq_true_eq, or_assoc]

theorem zoneSpanBad_iff {p : ZoneSetParams} : zoneSpanBad p = true ↔
    p.zone.toNat < 16 ∧ p.enabled = 1 ∧ (383 < p.last.toNat ∨ p.last.toNat < p.first.toNat) := by
  simp only [zoneSpanBad, Bool.or_eq_true, Bool.and_eq_true, decide_eq_true_eq, and_assoc]

/-- The configuration a ranged zone takes from coded fields. -/
theorem zoneConfigOf_ranged {p : ZoneSetParams} (hz : p.zone.toNat < 16) (h : zoneCodesBad p = false) : zoneConfigOf p =
    ⟨p.enabled = 1, p.first.toNat, p.last.toNat, p.cap.toNat, p.soft.toNat, p.hard.toNat, p.hold.toNat,
      if p.stopGroup = 255 then none else some p.stopGroup.toNat,
      if p.presence = 255 then none else some p.presence.toNat⟩ := by
  have hcodes := mt (fun hnone => zoneCodesBad_iff.2 (.inr ⟨hz, hnone⟩)) (Bool.eq_false_iff.1 h)
  obtain ⟨hyes, hcoded⟩ := not_or.1 hcodes
  obtain ⟨hgroup, hinput⟩ := not_or.1 hcoded
  have henabled : (yesNoOf p.enabled).isSome = true := by
    rw [← Option.not_isNone, Bool.not_eq_true', Bool.eq_false_iff]
    exact mt yesNoOf_isNone.1 hyes
  have hranged : p.zone ≠ 16 := by bv_omega
  rw [zoneConfigOf, if_neg hranged, yesNoOf_getD henabled, inputOf_getD (not_not.1 hgroup),
    inputOf_getD (not_not.1 hinput)]

theorem exec_zoneSet {p : ZoneSetParams} {s : State} (hs : s.configurable) : exec (.zoneSet p) s = .next (
    if (zoneSetChecks p).any Prod.fst then s.answered .badParam [] else (s.setZone p).answered .ok []) := by
  obtain ⟨hready, hstopped, hsaving⟩ := hs
  have htaken := takeCommand_checks (f := State.setZone p) (payload := fun _ => [])
    (checks := fun s => configChecks s ++ zoneSetChecks p) hready rfl (s.setZone_transferTaken p) rfl
  rw [firstFailure_configChecks hstopped hsaving,
    firstFailure_of_code (l := zoneSetChecks p) (c := .badParam) (by simp [zoneSetChecks])] at htaken
  refine (congrArg Host.Outcome.next htaken).trans ?_
  cases (zoneSetChecks p).any Prod.fst <;> rfl

/-- Settles O37: the checks, which all answer BAD_PARAM, then the zone configured and, over an active input, stopped. -/
theorem zoneSetOutcomes : Obligations.ZoneSetOutcomes := by
  unfold Obligations.ZoneSetOutcomes
  intro p s hs z figures coded bad number c u v
  have hbad : (zoneSetChecks p).any Prod.fst = true ↔ bad := by
    simp only [zoneSetChecks, List.any_cons, List.any_nil, Bool.or_false, Bool.or_eq_true, zoneCodesBad_iff,
      zoneFiguresBad_iff, zoneSpanBad_iff]
    rw [or_assoc]
    exact or_congr_right or_left_comm
  have hc (h : ¬ bad) : zoneConfigOf p = c := by
    by_cases hz : z = 16
    · exact (if_pos (by bv_omega)).trans (if_pos hz).symm
    · have hlt : z < 16 := Nat.lt_of_le_of_ne (Nat.not_lt.1 fun hlt => h (.inl hlt)) hz
      have hcodes : zoneCodesBad p = false := Bool.eq_false_iff.2 fun hcodes => h (hbad.1 (by simp [zoneSetChecks, hcodes]))
      exact (zoneConfigOf_ranged hlt hcodes).trans (if_neg hz).symm
  have hv (h : ¬ bad) : s.configureZone p = v := by
    rw [State.configureZone_eq, hc h]
    rfl
  have haccepted (h : ¬ bad) : exec (.zoneSet p) s = .next ((s.setZone p).answered .ok []) := by
    rw [exec_zoneSet hs, if_neg (mt hbad.1 h)]
  refine ⟨fun h => ?refused, fun h hquiet => ?quiet, fun k h henabled hk hactive hsized => ?stopped⟩
  case refused => rw [exec_zoneSet hs, if_pos (hbad.2 h)]
  case quiet => rw [haccepted h, State.setZone_of_inactive (by rwa [hc h]), hv h]
  case stopped =>
    have hlen := State.sized_zones hsized
    have hz : z < 16 := by
      have hranged : z ≠ 16 := fun hz => by
        have hnone : c.presence = none := congrArg ZoneConfig.presence (if_pos hz)
        rw [hk] at hnone
        cases hnone
      have hle : ¬ 16 < z := fun hlt => h (.inl hlt)
      omega
    have hvlen : v.site.zones.length = 17 := by
      rw [← hv h, State.configureZone_frame]
      exact (List.length_modify ..).trans hlen
    have hvcfg : (v.zone z).cfg = c := by
      rw [← hv h, State.zone_configureZone (hlen.symm ▸ hz.trans (by decide))]
      exact hc h
    have hset : s.setZone p = v.stopZones k := by
      rw [State.setZone_of_some (k := k) (by rwa [hc h]), hv h]
      exact if_pos ⟨by rwa [hc h], hactive⟩
    obtain ⟨zones, summary, hframe⟩ : ∃ zones summary, v.stopZones k =
        { s with site := { s.site with zones := zones }, link := { s.link with summary := summary } } :=
      ⟨_, _, by rw [v.stopZones_frame k, ← hv h, s.configureZone_frame p]⟩
    have hself : v.stopsZone k z := ⟨hz, by rw [hvcfg, henabled], .inl ⟨by rw [hvcfg, henabled], by rw [hvcfg, hk]⟩⟩
    have hzones (y : Nat) (hy : y < 17) := State.zone_stopZones (k := k) hvlen hy
    have hlatch : ((v.stopZones k).zone z).latch = true := by rw [(hzones z (hz.trans (by decide))).1 hself]
    obtain ⟨hfresh, hlatched⟩ := State.link_stopZones k v
    rw [hframe] at hset hlatch hfresh hlatched
    simp only [hframe] at hzones
    exact ⟨_, by rw [haccepted h, hset], hlatch, rfl, rfl, rfl, rfl, rfl, rfl, rfl, rfl, rfl, rfl, rfl, rfl, rfl, hfresh,
      hlatched, hzones⟩

end Sys2Proof.Machine
end

section
/-! PROOF. ZONE_RELEASE and SITE_RELEASE (R139, R141). -/
namespace Sys2Proof.Machine

/-! ### The release set (R139) -/

/-- A release of zone `z` covers zone `y`: itself, or an enabled ranged zone of its stop group. -/
def State.releases (s : State) (z y : Nat) : Prop :=
  y < 16 ∧ (y = z ∨ ((s.zone y).cfg.enabled = true ∧ s.groupedWith z y))

theorem State.mem_releaseSet {s : State} {z y : Nat} : y ∈ s.releaseSet z ↔ s.releases z y := by
  simp [State.releaseSet, State.releases, State.sharesGroup_iff]

theorem State.releaseSet_nodup (s : State) (z : Nat) : (s.releaseSet z).Nodup := List.nodup_range.filter _

theorem State.inputActive_iff {s : State} {y : Nat} : s.inputActive y = true ↔
    ∃ k, (s.zone y).cfg.presence = some k ∧ (s.presence k).debounced = true := by
  unfold State.inputActive
  cases (s.zone y).cfg.presence <;> simp

/-! ### Latches cleared -/

theorem State.clearLatches_eq {zs : List Nat} (hzs : zs.Nodup) (s : State) :
    s.clearLatches zs = s.changeZones zs fun x => { x with latch := false } := State.forEach_modifyZone _ hzs s

/-- The zones whose latch is set, counted over the table or over its indices. -/
theorem State.length_latched {s : State} (hs : s.site.zones.length = 17) :
    (s.site.zones.filter (·.latch)).length = ((List.range 17).filter fun y => (s.zone y).latch).length := by
  have hzones : s.site.zones = (List.range 17).map s.zone := by
    refine List.ext_getElem (by simp [hs]) fun y hy _ => ?_
    simp [State.zone, List.getD_eq_getElem?_getD, hy]
  rw [hzones, List.filter_map, List.length_map]
  rfl

/-- A zone latched before is one whose latch was cleared or is still set. -/
theorem State.length_latched_clearLatches {s : State} (hs : s.site.zones.length = 17) {zs : List Nat} (hzs : zs.Nodup)
    (hin : ∀ y ∈ zs, y < 17) :
    (zs.filter fun y => (s.zone y).latch).length + ((s.clearLatches zs).site.zones.filter (·.latch)).length =
      (s.site.zones.filter (·.latch)).length := by
  have hlen : (s.clearLatches zs).site.zones.length = 17 := by
    rw [State.clearLatches_eq hzs]
    exact List.length_mapIdx.trans hs
  have hcleared : (zs.filter fun y => (s.zone y).latch).Perm
      ((List.range 17).filter fun y => decide (y ∈ zs) && (s.zone y).latch) := by
    refine (List.perm_ext_iff_of_nodup (hzs.filter _) (List.nodup_range.filter _)).2 fun y => ?_
    simp only [List.mem_filter, List.mem_range, Bool.and_eq_true, decide_eq_true_eq]
    exact ⟨fun h => ⟨hin y h.1, h⟩, And.right⟩
  have hkept : ((List.range 17).filter fun y => ((s.clearLatches zs).zone y).latch) =
      (List.range 17).filter fun y => !decide (y ∈ zs) && (s.zone y).latch := by
    refine List.filter_congr fun y hy => ?_
    rw [State.clearLatches_eq hzs, State.zone_changeZones _ _ (hs.symm ▸ List.mem_range.1 hy)]
    by_cases hz : y ∈ zs <;> simp [hz]
  rw [State.length_latched hlen, State.length_latched hs, hcleared.length_eq, hkept]
  have hsplit := List.length_eq_length_filter_add (l := (List.range 17).filter fun y => (s.zone y).latch)
    fun y => decide (y ∈ zs)
  simpa only [List.filter_filter] using hsplit.symm

/-! ### The commands -/

/-- The checks of a ZONE_RELEASE (R139). -/
def zoneReleaseChecks (z : Nat) (s : State) : List (Bool × ResultCode) :=
  [(decide (15 < z), .badParam), (!(s.zone z).cfg.enabled, .wrongState),
   ((s.releaseSet z).any s.inputActive, .notReleasable)]

/-- How many latches a release of zone `z` clears. -/
def State.releasedCount (s : State) (z : Nat) : Nat := ((s.releaseSet z).filter fun y => (s.zone y).latch).length

theorem exec_zoneRelease {b : Byte} {s : State} (hs : s.ready) : exec (.zoneRelease b) s = .next (
    match firstFailure (zoneReleaseChecks b.toNat s) with
    | some c => s.answered c []
    | none => (s.clearLatches (s.releaseSet b.toNat)).answered .ok (put4 (s.releasedCount b.toNat))) := by
  have hhandler : handleZoneRelease b s.transferTaken = checked (zoneReleaseChecks b.toNat s)
      (fun t => (t.clearLatches (s.releaseSet b.toNat),
        ⟨.ok, put4 ((s.releaseSet b.toNat).filter fun y => (t.zone y).latch).length⟩)) s.transferTaken := rfl
  rw [exec_of_handlerOf (h := handleZoneRelease b) rfl, takeCommand_of_ready hs, hhandler]
  cases h : firstFailure (zoneReleaseChecks b.toNat s) with
  | some c => rw [checked_of_some _ _ h]; rfl
  | none =>
    rw [checked_of_none _ _ h, State.clearLatches_eq (s.releaseSet_nodup _), State.clearLatches_eq (s.releaseSet_nodup _)]
    rfl

/-- Settles O38: ZONE_RELEASE by its checks in order and the count of the latches cleared, SITE_RELEASE by its check. -/
theorem releaseCommands : Obligations.ReleaseCommands := by
  unfold Obligations.ReleaseCommands
  intro b s hs hsized z inSet blocked
  have hlen := State.sized_zones hsized
  have hmem {y : Nat} : y ∈ s.releaseSet z ↔ inSet y := State.mem_releaseSet
  have hblocked : (s.releaseSet z).any s.inputActive = true ↔ blocked := by
    simp only [List.any_eq_true, hmem, State.inputActive_iff]
    exact exists_congr fun y => ⟨fun h => ⟨h.1.1, h⟩, And.right⟩
  refine ⟨fun h => ?range, fun hz h => ?disabled, fun hz henabled h => ?active, fun hz henabled h => ?clears, ?site⟩
  case range => rw [exec_zoneRelease hs, zoneReleaseChecks, firstFailure_cons_true (decide_eq_true h)]
  case disabled =>
    rw [exec_zoneRelease hs, zoneReleaseChecks, firstFailure_cons_false (decide_eq_false (Nat.not_lt.2 hz)),
      firstFailure_cons_true (by rw [h]; rfl)]
  case site =>
    refine congrArg Host.Outcome.next ((takeCommand_checked (failed := fun s => s.pins.stop) hs).trans ?_)
    rw [takeCommand_accept hs]
    rfl
  all_goals
    have hchecks : firstFailure (zoneReleaseChecks z s) =
        firstFailure [((s.releaseSet z).any s.inputActive, .notReleasable)] :=
      (firstFailure_cons_false (decide_eq_false (Nat.not_lt.2 hz))).trans
        (firstFailure_cons_false (by rw [henabled]; rfl))
  case active => rw [exec_zoneRelease hs, hchecks, firstFailure_cons_true (hblocked.2 h)]
  case clears =>
    have hnodup := s.releaseSet_nodup z
    refine ⟨s.releasedCount z, s.clearLatches (s.releaseSet z), ?_, ?_, fun y hy => ?_,
      State.length_latched_clearLatches hlen hnodup fun y hy => (hmem.1 hy).1.trans (by decide)⟩
    · rw [exec_zoneRelease hs, hchecks, firstFailure_cons_false (Bool.eq_false_iff.2 (mt hblocked.1 h))]
      rfl
    · rw [State.clearLatches_eq hnodup]
      rfl
    · rw [State.clearLatches_eq hnodup, State.zone_changeZones _ _ (hlen.symm ▸ hy), ← hmem]
      exact ⟨fun h => if_pos h, fun h => if_neg h⟩

end Sys2Proof.Machine
end

section
/-! PROOF. The wind gate (R131, R132, R134, R135). -/
namespace Sys2Proof.Machine

/-! ### A zone at a gate (Table 6-3) -/

theorem Zone.atGate_of_not_heeds {z : Zone} (h : z.heedsWind = false) (w : Nat) : z.atGate w = z := by
  simp [Zone.atGate, h]

theorem Zone.atGate_of_heeds {z : Zone} (h : z.heedsWind = true) (w : Nat) : z.atGate w = z.place w := if_pos h

/-- A zone not in WIND_HOLD is placed by the limits alone. -/
theorem Zone.place_of_not_held {z : Zone} (h : z.wind ≠ .windHold) (w : Nat) : z.place w =
    { z with holdCount := 0,
             wind := if z.cfg.hard ≤ w then .windHold else if z.cfg.soft < w then .derated else .clear } := by
  unfold Zone.place
  cases hwind : z.wind with
  | windHold => exact absurd hwind h
  | clear | derated =>
    dsimp only
    split
    · rfl
    · split <;> rfl

/-- A zone in WIND_HOLD begins its hold again, counts a calm gate, or returns to CLEAR. -/
theorem Zone.place_of_held {z : Zone} (h : z.wind = .windHold) (w : Nat) : z.place w =
    if z.cfg.soft < w then { z with holdCount := 0 }
    else if z.holdCount + 1 < z.cfg.hold then { z with holdCount := z.holdCount + 1 }
    else { z with wind := .clear, holdCount := 0 } := by
  simp [Zone.place, h]

/-- The gate leaves a zone's configuration and latch as they are. -/
theorem Zone.atGate_frame (w : Nat) (z : Zone) : (z.atGate w).cfg = z.cfg ∧ (z.atGate w).latch = z.latch := by
  unfold Zone.atGate
  split
  · by_cases h : z.wind = .windHold
    · rw [Zone.place_of_held h]
      split
      · exact ⟨rfl, rfl⟩
      · split <;> exact ⟨rfl, rfl⟩
    · rw [Zone.place_of_not_held h]
      exact ⟨rfl, rfl⟩
  · exact ⟨rfl, rfl⟩

theorem Zone.atGate_not_held {w : Nat} {z : Zone} (hheeds : z.heedsWind = true) (h : z.wind ≠ .windHold) : z.atGate w =
    { z with holdCount := 0,
             wind := if z.cfg.hard ≤ w then .windHold else if z.cfg.soft < w then .derated else .clear } := by
  rw [Zone.atGate_of_heeds hheeds, Zone.place_of_not_held h]

/-- A gate over the wind soft begins the hold again. -/
theorem Zone.atGate_gusty {w : Nat} {z : Zone} (hheeds : z.heedsWind = true) (hheld : z.wind = .windHold)
    (hgust : z.cfg.soft < w) : z.atGate w = { z with holdCount := 0 } := by
  rw [Zone.atGate_of_heeds hheeds, Zone.place_of_held hheld, if_pos hgust]

/-- A calm gate before the end of the hold is counted. -/
theorem Zone.atGate_counting {w : Nat} {z : Zone} (hheeds : z.heedsWind = true) (hheld : z.wind = .windHold)
    (hcalm : w ≤ z.cfg.soft) (hmore : z.holdCount + 1 < z.cfg.hold) :
    z.atGate w = { z with holdCount := z.holdCount + 1 } := by
  rw [Zone.atGate_of_heeds hheeds, Zone.place_of_held hheld, if_neg (Nat.not_lt.2 hcalm), if_pos hmore]

/-- A calm gate that ends the hold. -/
theorem Zone.atGate_released {w : Nat} {z : Zone} (hheeds : z.heedsWind = true) (hheld : z.wind = .windHold)
    (hcalm : w ≤ z.cfg.soft) (hover : z.cfg.hold ≤ z.holdCount + 1) :
    z.atGate w = { z with wind := .clear, holdCount := 0 } := by
  rw [Zone.atGate_of_heeds hheeds, Zone.place_of_held hheld, if_neg (Nat.not_lt.2 hcalm), if_neg (Nat.not_lt.2 hover)]

/-! ### The gate as a whole -/

/-- The outstanding gate, taken. -/
def State.gated (s : State) : State := s.windGate.modifyDue fun d => { d with wind := false }

theorem State.takeWind_due {s : State} (h : s.due.wind = true) : s.takeWind = s.gated := if_pos h

/-- The zones as the gate just reached places them. -/
def State.gatedZones (s : State) : List Zone := s.site.zones.map (Zone.atGate s.gateWind)

/-- Whether the gate just reached changes a wind state. -/
def State.gateMoves (s : State) : Bool := decide (s.gatedZones.map (·.wind) ≠ s.site.zones.map (·.wind))

theorem State.gated_eq (s : State) : s.gated =
    { s with
      due := { s.due with wind := false }
      site := { s.site with pulses := 0, rawWind := rawWindOf s.site.pulses s.site.factor, heldWind := s.gateWind,
                            zones := s.gatedZones }
      link := { s.link with summary := s.link.summary ||| if s.gateMoves then Event.windState.mask else 0 } } :=
  congrArg (State.modifyDue fun d => { d with wind := false }) (State.raiseIf_eq s.gateMoves .windState _)

theorem State.gated_zones (s : State) : s.gated.site.zones = s.gatedZones := by rw [State.gated_eq]

theorem State.zone_gated {s : State} {k : Nat} (hk : k < s.site.zones.length) :
    s.gated.zone k = (s.zone k).atGate s.gateWind := by
  rw [State.zone, State.gated_zones]
  simp [State.gatedZones, State.zone, List.getD_eq_getElem?_getD, hk]

theorem State.link_gated (s : State) : s.gated.link =
    if s.gated.site.zones.map (·.wind) = s.site.zones.map (·.wind) then s.link else (s.raise .windState).link := by
  rw [State.gated_zones, State.gated_eq]
  by_cases h : s.gatedZones.map (·.wind) = s.site.zones.map (·.wind)
  · simp [State.gateMoves, h]
  · simp [State.gateMoves, h]

/-- A zone whose wind state the gate changes has WIND_STATE raised. -/
theorem State.summary_gated {s : State} {k : Nat} (h : (s.gated.zone k).wind ≠ (s.zone k).wind) :
    s.gated.link.summary.getLsbD 4 = true := by
  have hread (t : State) : (t.zone k).wind = (t.site.zones.map (·.wind)).getD k Zone.blank.wind :=
    (List.getD_map t.site.zones Zone.blank fun z : Zone => z.wind).symm
  have hmoved : s.gated.site.zones.map (·.wind) ≠ s.site.zones.map (·.wind) := fun heq =>
    h (by rw [hread, hread, heq])
  rw [State.link_gated, if_neg hmoved]
  exact State.summary_raise_bit .windState s

/-- WIND_HOLD_RELEASE takes the outstanding gate, whole, exactly when the gate ends the zone's hold. -/
theorem exec_windHoldRelease (z : Fin 17) (s : State) : exec (.windHoldRelease z) s =
    .next (if s.due.wind && ((s.zone z).heedsWind && (s.zone z).holdOver s.gateWind) then s.takeWind else s) := rfl

theorem Zone.holdOver_iff {w : Nat} {z : Zone} :
    z.holdOver w = true ↔ z.wind = .windHold ∧ w ≤ z.cfg.soft ∧ z.cfg.hold ≤ z.holdCount + 1 := by
  simp [Zone.holdOver]

/-- Settles O35: the gate's frame and figures, then each zone by its place in Table 6-3. -/
theorem windGatePlacesZones : Obligations.WindGatePlacesZones := by
  unfold Obligations.WindGatePlacesZones
  intro s z raw w released
  have hgate : exec .windGate s = .next s.takeWind := rfl
  have hreleased : ((s.zone z).heedsWind && (s.zone z).holdOver s.gateWind) = true ↔ released := by
    rw [Bool.and_eq_true, Zone.holdOver_iff]
    rfl
  refine ⟨fun hidle => ?idle, fun hdue hs => ?due⟩
  case idle =>
    rw [hgate, exec_windHoldRelease, hidle, State.takeWind_idle hidle]
    exact ⟨rfl, rfl⟩
  case due =>
    have hlen := State.sized_zones hs
    have hrow : exec (.windHoldRelease z) s = .next (if released then s.gated else s) := by
      rw [exec_windHoldRelease, hdue, Bool.true_and, State.takeWind_due hdue, if_congr hreleased rfl rfl]
    have hzone (k : Nat) (hk : k < 17) : s.gated.zone k = (s.zone k).atGate w := State.zone_gated (hlen.symm ▸ hk)
    have hclear (h : released) : s.gated.zone z = { s.zone z with wind := .clear, holdCount := 0 }
        ∧ s.gated.link.summary.getLsbD 4 = true := by
      obtain ⟨hheeds, hheld, hcalm, hover⟩ := h
      have hplaced := (hzone z z.isLt).trans (Zone.atGate_released hheeds hheld hcalm hover)
      exact ⟨hplaced, State.summary_gated (k := z) (by rw [hplaced, hheld]; exact WindState.noConfusion)⟩
    have hlink := s.link_gated
    rw [hgate, State.takeWind_due hdue]
    obtain ⟨zones, summary, hgated⟩ : ∃ zones summary, s.gated =
        { s with due := { s.due with wind := false }
                 site := { s.site with pulses := 0, rawWind := raw, heldWind := w, zones := zones }
                 link := { s.link with summary := summary } } := ⟨_, _, s.gated_eq⟩
    simp only [hgated] at hrow hzone hclear hlink ⊢
    refine ⟨_, rfl, hrow, hclear, rfl, hlink, rfl, rfl, rfl, rfl, rfl, rfl, rfl, rfl, rfl, rfl, rfl, rfl, fun k hk => ?_⟩
    obtain ⟨hcfg, hlatch⟩ := (s.zone k).atGate_frame w
    rw [hzone k hk]
    refine ⟨hcfg, hlatch, fun hheeds => Zone.atGate_of_not_heeds hheeds w, fun hheeds hfree => ?_,
      fun hheeds hheld hgust => ?_, fun hheeds hheld hcalm hmore => ?_, fun hheeds hheld hcalm hover => ?_⟩
    · rw [Zone.atGate_not_held hheeds hfree]
      exact ⟨rfl, rfl⟩
    · rw [Zone.atGate_gusty hheeds hheld hgust]
      exact ⟨hheld, rfl⟩
    · rw [Zone.atGate_counting hheeds hheld hcalm hmore]
      exact ⟨hheld, rfl⟩
    · rw [Zone.atGate_released hheeds hheld hcalm hover]
      exact ⟨rfl, rfl⟩

end Sys2Proof.Machine
end

section
/-! PROOF. What a light computation leaves, fixture by fixture and line by line (R149 to R155). -/
namespace Sys2Proof.Machine

/-! ### The state after a light computation -/

/-- What a light computation writes outside the lines, and that it writes no more. -/
theorem State.lightCompute_eq (s : State) : s.lightCompute =
    { s with lines := s.lightCompute.lines, lights := { s.lights with table := s.litTable } } := by
  unfold State.lightCompute
  dsimp only
  obtain ⟨lines, h⟩ := State.forEach_writeSlots_outside (List.range 4) (fun l => lightSlots l s.litTable)
    { s with lights := { s.lights with table := s.litTable } }
  rw [h]

@[simp] theorem State.lightCompute_lights (s : State) : s.lightCompute.lights = { s.lights with table := s.litTable } := by
  rw [State.lightCompute_eq]

/-- Each line takes its fixtures' slot values in one write, and none when it has no fixture (R155). -/
theorem State.line_lightCompute {s : State} (hlines : s.lines.length = 4) {l : Nat} (hl : l < 4) :
    s.lightCompute.line l =
      if lightSlots l s.litTable = [] then s.line l else (s.line l).write (lightSlots l s.litTable) := by
  unfold State.lightCompute
  dsimp only
  rw [State.line_forEach_writeSlots List.nodup_range (fun l => lightSlots l s.litTable) (hlines.symm ▸ hl)]
  by_cases h : lightSlots l s.litTable = []
  · simp [h, State.line]
  · simp [h, hl, State.line]

/-! ### The fixture table after a light computation -/

/-- What a light computation of state `s` makes of fixture `n` (R149 to R154). -/
def State.lit (s : State) (n : Nat) (x : Fixture) : Fixture := if x.cfg.present then s.lightFixture n x else x

theorem State.lit_of_present {s : State} {n : Nat} {x : Fixture} (h : x.cfg.present = true) :
    s.lit n x = s.lightFixture n x := if_pos h

theorem State.lit_of_absent {s : State} {n : Nat} {x : Fixture} (h : x.cfg.present = false) : s.lit n x = x :=
  if_neg (by simp [h])

theorem State.getElem?_litTable (s : State) (n : Nat) : s.litTable[n]? = s.lights.table[n]?.map (s.lit n) := by
  simp only [State.litTable, List.getElem?_map, List.getElem?_zipIdx, Nat.zero_add]
  cases s.lights.table[n]? <;> rfl

theorem State.fixture_lightCompute (s : State) (n : Nat) : s.lightCompute.fixture n = s.lit n (s.fixture n) := by
  simp only [State.fixture, State.lightCompute_lights, List.getD_eq_getElem?_getD, State.getElem?_litTable]
  cases s.lights.table[n]? with
  | none => exact (State.lit_of_absent rfl).symm
  | some x => rfl

/-! ### The follow factor (R151) -/

theorem followOf_of_not_follow {s : State} {c : FixtureConfig} (h : c.follow = false) : followOf s c = none :=
  if_neg (by simp [h])

/-- The factor of a fixture that follows a present nozzle: the nozzle's share of its maximum height, at most 1. -/
theorem followOf_of_present {s : State} {c : FixtureConfig} {k : Nat} (h : c.follow = true) (hk : c.linked = some k)
    (hpresent : (s.nozzle k).cfg.present = true) : followOf s c =
      some (min 65536 ((s.nozzle k).live.effective * 65536 / (s.nozzle k).cfg.maxHeight)) := by
  simp [followOf, followFactor, h, hk, hpresent]

/-- A fixture that follows an absent nozzle, or none, goes dark. -/
theorem followOf_of_absent {s : State} {c : FixtureConfig} (h : c.follow = true)
    (habsent : ∀ k, c.linked = some k → (s.nozzle k).cfg.present = false) : followOf s c = some 0 := by
  rw [followOf, if_pos h, followFactor]
  cases hk : c.linked with
  | none => rfl
  | some k => simp [habsent k hk]

/-! ### The slot values (R152 to R154) -/

/-- The channels that the layout's slots carry, each through the stages follow, master and curve. -/
theorem State.lightFixture_values (s : State) (n : Nat) (x : Fixture) : (s.lightFixture n x).values =
    (x.cfg.layout.channels.map (s.lightFixture n x).composed.channel).map
      (slotValue x.cfg (s.lightFixture n x).factor s.lights.master) := by
  rw [List.map_map]
  rfl

/-! ### The light computation at its boundary (R149) -/

/-- A light computation outstanding is taken, whole. -/
theorem State.takeLight_due {s : State} (h : s.due.light = true) :
    s.takeLight = s.atFrame.lightCompute.modifyDue fun d => { d with light := false } := by
  simp [State.takeLight, State.atFrame, h]

/-- A light computation taken is that of the state that the boundary's other events leave. -/
theorem State.takeLight_atFrame {s : State} (h : s.due.light = true) : s.takeLight = s.atFrame.takeLight := by
  have hagain : s.atFrame.atFrame = s.atFrame := State.atFrame_idle (by simp) (by simp)
  rw [State.takeLight_due h, State.takeLight_due (s := s.atFrame) (by simpa using h), hagain]

/-- A light computation whose boundary has nothing else outstanding. -/
theorem State.takeLight_alone {s : State} (hlight : s.due.light = true) (henvelope : s.due.envelope = false)
    (heffects : s.due.effects = false) : s.takeLight = s.lightCompute.modifyDue fun d => { d with light := false } := by
  rw [State.takeLight_due hlight, State.atFrame_idle henvelope heffects]

/-- Settles O39: the frame, the writes into the lines, and each fixture stage by stage. -/
theorem lightComputationPublishes : Obligations.LightComputationPublishes := by
  unfold Obligations.LightComputationPublishes
  intro s hz
  have hexec (s : State) : exec .lightComputation s = .next s.takeLight := rfl
  refine ⟨fun hlight => ?idle, fun u v hlight hu hv => ?order, fun hlight henvelope heffects =>
    ⟨s.takeLight, rfl, ?frame, fun l hl => ?line, fun n _ => ?fixture⟩⟩
  case idle => rw [hexec, State.takeLight_idle hlight]
  case order =>
    cases hu
    cases hv
    rw [hexec, State.takeLight_atFrame hlight]
    rfl
  all_goals rw [State.takeLight_alone hlight henvelope heffects]
  case frame =>
    rw [State.lightCompute_eq]
    rfl
  case line =>
    obtain ⟨-, -, -, -, -, -, -, -, -, hlines, -⟩ := hz
    rw [State.modifyDue_lights, State.lightCompute_lights]
    exact State.line_lightCompute hlines hl
  case fixture =>
    intro a b
    have hlit : b = s.lit n a := s.fixture_lightCompute n
    clear_value b
    refine ⟨fun habsent => hlit.trans (State.lit_of_absent habsent), fun hpresent => ?_⟩
    rw [State.lit_of_present hpresent] at hlit
    subst hlit
    refine ⟨rfl, rfl, followOf_of_not_follow, fun hfollow k => followOf_of_present hfollow, followOf_of_absent, ?_⟩
    rw [State.lightFixture_values]
    refine congrArg₂ List.map (funext fun v => ?stage) ?channels
    case channels => cases a.cfg.layout <;> rfl
    case stage =>
      unfold slotValue Curve.apply
      cases (s.lightFixture n a).factor <;> cases a.cfg.curve <;> rfl

end Sys2Proof.Machine
end

section
/-! PROOF. FIXTURE_SET (R146, R147, R166). -/
namespace Sys2Proof.Machine

/-! ### Its checks -/

/-- A slot is in conflict with a fixture when something else owns it (R166). -/
theorem State.conflict_fixture_iff {s : State} {line slot n : Nat} :
    s.conflict line slot (SlotOwner.isFixture n) = true ↔ (s.line line).owner slot ≠ .free
      ∧ ∀ ch, (s.line line).owner slot ≠ .fixture n ch := by
  unfold State.conflict
  cases (s.line line).owner slot <;> simp [SlotOwner.isFixture]

/-- A FIXTURE_SET that carries a configuration asks for a present fixture. -/
theorem fixtureConfigOf_present {p : FixtureSetParams} {c : FixtureConfig} (h : fixtureConfigOf p = some c) :
    c.present = true := by
  unfold fixtureConfigOf at h
  split at h
  · split at h
    · obtain rfl := Option.some.inj h
      rfl
    · cases h
  · cases h

/-- The configuration a FIXTURE_SET asks for (log entry 14). -/
def fixtureAsked (p : FixtureSetParams) (s : State) : FixtureConfig :=
  let old := (s.fixture p.fixture.toNat).cfg
  if decide (p.present = 1) then (fixtureConfigOf p).getD old else { old with present := false }

/-- The checks of a FIXTURE_SET after those of the show and the save (R146). -/
def fixtureChecks (p : FixtureSetParams) (s : State) : List (Bool × ResultCode) :=
  let n := p.fixture.toNat
  let present := decide (p.present = 1)
  let c := fixtureAsked p s
  [(decide (511 < n) || (yesNoOf p.present).isNone, .badParam),
   (present && (fixtureConfigOf p).isNone, .badParam),
   (present && decide (512 < c.lastSlot), .slotConflict),
   (present && decide ((s.line c.line).cfg.slots < c.lastSlot), .badParam),
   (present && (fixtureSlots c).any (fun i => s.conflict c.line i (SlotOwner.isFixture n)), .slotConflict)]

theorem State.moveClaims_transferTaken (old new : Option (Nat × Claims)) (s : State) :
    s.transferTaken.moveClaims old new = (s.moveClaims old new).transferTaken := by
  cases old <;> cases new <;> rfl

theorem State.writeSlots_transferTaken (n : Nat) (values : SlotValues) (s : State) :
    s.transferTaken.writeSlots n values = (s.writeSlots n values).transferTaken := by
  rw [State.writeSlots_eq, State.writeSlots_eq]
  rfl

/-- FIXTURE_SET does not reach the link, so its transfer may as well be taken after it. -/
theorem State.setFixture_transferTaken (n : Nat) (c : FixtureConfig) (s : State) :
    s.transferTaken.setFixture n c = (s.setFixture n c).transferTaken := by
  unfold State.setFixture
  dsimp only
  rw [State.moveClaims_transferTaken, State.writeSlots_transferTaken]
  rfl

theorem exec_fixtureSet {p : FixtureSetParams} {s : State} (hs : s.configurable) : exec (.fixtureSet p) s = .next (
    match firstFailure (fixtureChecks p s) with
    | some c => s.answered c []
    | none => (s.setFixture p.fixture.toNat (fixtureAsked p s)).answered .ok []) := by
  obtain ⟨hready, hstopped, hsaving⟩ := hs
  have htaken := takeCommand_checks (f := State.setFixture p.fixture.toNat (fixtureAsked p s)) (payload := fun _ => [])
    (checks := fun s => configChecks s ++ fixtureChecks p s) hready rfl (s.setFixture_transferTaken ..) rfl
  rw [firstFailure_configChecks hstopped hsaving] at htaken
  have hasked : fixtureAsked p s.transferTaken = fixtureAsked p s := rfl
  refine congrArg Host.Outcome.next (Eq.trans ?_ htaken)
  rw [takeCommand_of_ready hready, takeCommand_of_ready hready, ← hasked]
  rfl

/-! ### Its effect (R147) -/

/-- A fixture made absent releases all its slots. -/
theorem releasedSlots_of_absent {old new : FixtureConfig} (h : new.present = false) :
    releasedSlots old new = if old.present then fixtureSlots old else [] := by
  simp [releasedSlots, h]

/-- A fixture that stays present releases the slots that its new configuration does not keep. -/
theorem releasedSlots_of_present {old new : FixtureConfig} (h : new.present = true) :
    releasedSlots old new = if old.present then
      (fixtureSlots old).filter fun i => !(decide (new.line = old.line) && (fixtureSlots new).contains i) else [] := by
  simp only [releasedSlots, h, Bool.true_and]

theorem Fixture.configure_of_absent {c : FixtureConfig} (h : c.present = false) (x : Fixture) :
    x.configure c = ⟨c, ⟨0, 0, 0, 0⟩, none, zeroValues c⟩ := by
  simp [Fixture.configure, h]

theorem Fixture.configure_of_present {c : FixtureConfig} (h : c.present = true) (x : Fixture) :
    x.configure c = if x.cfg.present then { x with cfg := c } else ⟨c, ⟨0, 0, 0, 0⟩, none, zeroValues c⟩ := by
  simp only [Fixture.configure, h, Bool.and_true]

theorem State.fixture_of_getElem? {s : State} {n : Nat} {x : Fixture} (h : s.lights.table[n]? = some x) : s.fixture n = x := by
  simp [State.fixture, List.getD_eq_getElem?_getD, h]

/-- Two changes of a fixture that agree on it as it is. -/
theorem State.modifyFixture_congr {n : Nat} {f g : Fixture → Fixture} {s : State} (h : f (s.fixture n) = g (s.fixture n)) :
    s.modifyFixture n f = s.modifyFixture n g :=
  congrArg (fun table => { s with lights := { s.lights with table := table } }) <|
    modify_congr_of_entry fun x hx => by rwa [State.fixture_of_getElem? hx] at h

@[simp] theorem State.writeSlots_lights (n : Nat) (values : SlotValues) (s : State) :
    (s.writeSlots n values).lights = s.lights := by rw [State.writeSlots_eq]

@[simp] theorem State.moveClaims_lights (old new : Option (Nat × Claims)) (s : State) :
    (s.moveClaims old new).lights = s.lights := by cases old <;> cases new <;> rfl

/-- FIXTURE_SET with present no: every slot released and written 0, and the live fields 0. -/
theorem State.setFixture_of_absent {n : Nat} {c : FixtureConfig} (h : c.present = false) (s : State) : s.setFixture n c =
    ((s.moveClaims (fixtureClaim n (s.fixture n).cfg) none).writeSlots (s.fixture n).cfg.line
      ((if (s.fixture n).cfg.present then fixtureSlots (s.fixture n).cfg else []).map fun i => (i, 0))).modifyFixture n
      fun _ => ⟨c, ⟨0, 0, 0, 0⟩, none, zeroValues c⟩ := by
  have hclaim : fixtureClaim n c = none := if_neg (by simp [h])
  unfold State.setFixture
  dsimp only
  rw [hclaim, releasedSlots_of_absent h]
  exact State.modifyFixture_congr (Fixture.configure_of_absent h _)

/-- FIXTURE_SET with present yes: the slots not kept released and written 0, and the live fields of a fixture present
before kept. -/
theorem State.setFixture_of_present {n : Nat} {c : FixtureConfig} (h : c.present = true) (s : State) : s.setFixture n c =
    ((s.moveClaims (fixtureClaim n (s.fixture n).cfg) (some (c.line, fixtureClaims n c))).writeSlots (s.fixture n).cfg.line
      ((if (s.fixture n).cfg.present then
        (fixtureSlots (s.fixture n).cfg).filter fun i =>
          !(decide (c.line = (s.fixture n).cfg.line) && (fixtureSlots c).contains i)
      else []).map fun i => (i, 0))).modifyFixture n
      fun x => if (s.fixture n).cfg.present then { x with cfg := c } else ⟨c, ⟨0, 0, 0, 0⟩, none, zeroValues c⟩ := by
  have hclaim : fixtureClaim n c = some (c.line, fixtureClaims n c) := if_pos h
  unfold State.setFixture
  dsimp only
  rw [hclaim, releasedSlots_of_present h]
  refine State.modifyFixture_congr ((Fixture.configure_of_present h _).trans ?_)
  simp only [State.fixture, State.writeSlots_lights, State.moveClaims_lights]

/-! ### Its outcomes -/

/-- Settles O40: the checks in their order, then the configuration replaced. -/
theorem fixtureSetOutcomes : Obligations.FixtureSetOutcomes := by
  unfold Obligations.FixtureSetOutcomes
  intro p s hs n old oldClaim
  have hrange (hn : n ≤ 511) (hcode : p.present.toNat ≤ 1) : (decide (511 < n) || (yesNoOf p.present).isNone) = false := by
    rw [Bool.eq_false_iff, Ne, Bool.or_eq_true, decide_eq_true_iff, yesNoOf_isNone]
    omega
  refine ⟨fun h => ?range, fun hn habsent => ?absent, fun hn hpresent hnone => ?uncoded, fun c hn hpresent hc => ?coded⟩
  case range =>
    have hfails : firstFailure (fixtureChecks p s) = some .badParam :=
      firstFailure_cons_true (by rwa [Bool.or_eq_true, decide_eq_true_iff, yesNoOf_isNone])
    rw [exec_fixtureSet hs, hfails]
  case absent =>
    intro c zeros
    have hasked : fixtureAsked p s = c := by simp [fixtureAsked, habsent, c, old, n]
    have hpasses : firstFailure (fixtureChecks p s) = none :=
      (firstFailure_cons_false (hrange hn (by simp [habsent]))).trans (by simp [firstFailure, habsent])
    have hzeros : (if old.cfg.present then fixtureSlots old.cfg else []).map (fun i => (i, (0 : Byte))) = zeros := by
      rw [apply_ite (List.map _), List.map_nil]
    rw [exec_fixtureSet hs, hpasses, hasked, State.setFixture_of_absent rfl, hzeros]
    rfl
  case uncoded =>
    have hfails : firstFailure (fixtureChecks p s) = some .badParam :=
      (firstFailure_cons_false (hrange hn (by simp [hpresent]))).trans
        (firstFailure_cons_true (by simp [hpresent, hnone]))
    rw [exec_fixtureSet hs, hfails]
  case coded =>
    intro last taken zeros
    have hasked : fixtureAsked p s = c := by simp [fixtureAsked, hpresent, hc]
    have hchecks : firstFailure (fixtureChecks p s) = firstFailure
        [(decide (512 < last), .slotConflict),
         (decide ((s.line c.line).cfg.slots < last), .badParam),
         ((fixtureSlots c).any (fun i => s.conflict c.line i (SlotOwner.isFixture n)), .slotConflict)] := by
      simp only [fixtureChecks, hasked, hpresent]
      exact (firstFailure_cons_false (by simpa [hpresent] using hrange hn)).trans (firstFailure_cons_false (by simp [hc]))
    have htaken : (fixtureSlots c).any (fun i => s.conflict c.line i (SlotOwner.isFixture n)) = true ↔ taken := by
      simp only [List.any_eq_true, State.conflict_fixture_iff]
      rfl
    refine ⟨fun hlast => ?_, fun hlast hslots => ?_, fun hlast hslots h => ?_, fun hlast hslots hfree => ?_⟩
    · rw [exec_fixtureSet hs, hchecks, firstFailure_cons_true (decide_eq_true hlast)]
    all_goals rw [exec_fixtureSet hs, hchecks, firstFailure_cons_false (decide_eq_false (Nat.not_lt.2 hlast))]
    · rw [firstFailure_cons_true (decide_eq_true hslots)]
    all_goals rw [firstFailure_cons_false (decide_eq_false (Nat.not_lt.2 hslots))]
    · rw [firstFailure_cons_true (htaken.2 h)]
    · have hzeros : (if old.cfg.present then
            (fixtureSlots old.cfg).filter fun i => !(decide (c.line = old.cfg.line) && (fixtureSlots c).contains i)
          else []).map (fun i => (i, (0 : Byte))) = zeros := by
        rw [apply_ite (List.map _), List.map_nil]
      rw [firstFailure_cons_false (Bool.eq_false_iff.2 (mt htaken.1 hfree)), hasked,
        State.setFixture_of_present (fixtureConfigOf_present hc), hzeros]
      rfl

end Sys2Proof.Machine
end

section
/-! PROOF. The slot lines: LINE_SET (R159, R163), the end of a frame's gap (R163) and the frame start (R162, R165). -/
namespace Sys2Proof.Machine

/-! ### LINE_SET -/

/-- The slots a line owns are those with an owner in its map. -/
theorem Line.mem_owned {x : Line} {j : Nat} : j ∈ x.owned ↔ ∃ k < 512, x.owners.getD k .free ≠ .free ∧ j = k + 1 := by
  simp only [Line.owned, List.mem_filterMap, List.mem_range]
  refine exists_congr fun k => and_congr_right fun _ => ?_
  split
  next h => simp only [h, ne_eq, not_true_eq_false, false_and, reduceCtorEq]
  next h => simp only [Option.some.injEq, ne_eq, h, not_false_eq_true, true_and, eq_comm]

/-- A LINE_SET would leave an owned slot beyond the line's slot count (R159). -/
theorem Line.owned_any_iff {x : Line} {slots : Nat} :
    x.owned.any (slots < ·) = true ↔ ∃ k < 512, slots ≤ k ∧ x.owners.getD k .free ≠ .free := by
  simp only [List.any_eq_true, Line.mem_owned, decide_eq_true_eq]
  constructor
  · rintro ⟨_, ⟨k, hk, howned, rfl⟩, hlt⟩
    exact ⟨k, hk, Nat.le_of_lt_succ hlt, howned⟩
  · rintro ⟨k, hk, hle, howned⟩
    exact ⟨k + 1, ⟨k, hk, howned, rfl⟩, Nat.lt_succ_of_le hle⟩

/-- A field of a LINE_SET out of its range, or a line enabled without slots (R159). -/
def lineFieldsBad (p : LineSetParams) : Bool :=
  decide (3 < p.line.toNat) || (yesNoOf p.enabled).isNone || p.divider = 0
    || decide ((1 ≤ p.slots.toNat ∧ p.slots.toNat ≤ 7) ∨ 512 < p.slots.toNat) || decide (p.gap.toNat < 2)
    || (decide (p.slots.toNat = 0) && decide (p.enabled = 1))

/-- The checks of a LINE_SET after those of the show and the save (R159). -/
def lineChecks (p : LineSetParams) (s : State) : List (Bool × ResultCode) :=
  [(lineFieldsBad p, .badParam), ((s.line p.line.toNat).owned.any (p.slots.toNat < ·), .badParam)]

theorem lineFieldsBad_iff {p : LineSetParams} : lineFieldsBad p = true ↔
    3 < p.line.toNat ∨ 1 < p.enabled.toNat ∨ p.divider = 0 ∨ (1 ≤ p.slots.toNat ∧ p.slots.toNat ≤ 7)
      ∨ 512 < p.slots.toNat ∨ p.gap.toNat < 2 ∨ (p.slots.toNat = 0 ∧ p.enabled = 1) := by
  simp only [lineFieldsBad, Bool.or_eq_true, Bool.and_eq_true, decide_eq_true_eq, yesNoOf_isNone, or_assoc]

/-- The configuration that a LINE_SET of good fields carries. -/
theorem lineConfigOf_of_good {p : LineSetParams} (h : lineFieldsBad p = false) :
    lineConfigOf p ((yesNoOf p.enabled).getD false) = ⟨p.enabled = 1, p.divider.toNat, p.slots.toNat, p.gap.toNat⟩ := by
  have hyes : (yesNoOf p.enabled).isSome = true := by
    rw [← Option.not_isNone, Bool.not_eq_true', Bool.eq_false_iff, Ne, yesNoOf_isNone]
    exact fun hcode => Bool.eq_false_iff.1 h (lineFieldsBad_iff.2 (.inr (.inl hcode)))
  rw [yesNoOf_getD hyes]
  rfl

/-- A LINE_SET of good fields enables no line without slots. -/
theorem slots_of_enabled {p : LineSetParams} (h : lineFieldsBad p = false) (henabled : decide (p.enabled = 1) = true) :
    p.slots.toNat ≠ 0 := fun hnone =>
  Bool.eq_false_iff.1 h (by simp only [lineFieldsBad, hnone, henabled]; simp)

/-- The line configured by an accepted LINE_SET (R159). -/
def State.configureLine (p : LineSetParams) (s : State) : State :=
  s.modifyLine p.line.toNat (Line.configure (lineConfigOf p ((yesNoOf p.enabled).getD false)))

theorem handleLineSet_eq (p : LineSetParams) (s : State) :
    handleLineSet p s = checked (configChecks s ++ lineChecks p s) (accept (State.configureLine p)) s := rfl

theorem exec_lineSet {p : LineSetParams} {s : State} (hs : s.configurable) : exec (.lineSet p) s = .next (
    if (lineChecks p s).any Prod.fst then s.answered .badParam [] else (s.configureLine p).answered .ok []) := by
  obtain ⟨hready, hstopped, hsaving⟩ := hs
  have htaken := takeCommand_checks (f := State.configureLine p) (payload := fun _ => [])
    (checks := fun s => configChecks s ++ lineChecks p s) hready rfl rfl rfl
  rw [firstFailure_configChecks hstopped hsaving,
    firstFailure_of_code (l := lineChecks p s) (c := .badParam) (by simp [lineChecks])] at htaken
  refine (congrArg Host.Outcome.next htaken).trans ?_
  cases (lineChecks p s).any Prod.fst <;> rfl

/-- Where no line is enabled without slots, an OFF line left enabled starts its first frame at once. -/
theorem Line.configure_of_good {c : LineConfig} (hslots : c.enabled = true → c.slots ≠ 0) (x : Line) : x.configure c =
    if x.sending = false ∧ c.enabled = true then { Line.startFrame { x with cfg := c } with clocks := 0 }
    else { x with cfg := c } := by
  unfold Line.configure
  dsimp only
  refine if_congr (and_congr_right fun _ => ?_) rfl rfl
  exact ⟨And.left, fun henabled => ⟨henabled, hslots henabled⟩⟩

/-! ### The end of a frame's gap -/

theorem State.line_of_getElem? {s : State} {l : Nat} {x : Line} (h : s.lines[l]? = some x) : s.line l = x := by
  simp [State.line, List.getD_eq_getElem?_getD, h]

/-- A gap end replaces its line. -/
theorem State.takeGapEnd_eq {l : Nat} {x : Line} {s : State} (h : (s.line l).gapEnd = x) :
    s.takeGapEnd l = s.modifyLine l fun _ => x :=
  congrArg (fun lines => { s with lines := lines }) <|
    modify_congr_of_entry fun y hy => by rwa [State.line_of_getElem? hy] at h

/-- Before the end of the gap, and on an OFF line, nothing is due. -/
theorem State.takeGapEnd_idle {l : Nat} {s : State} (h : (s.line l).atGapEnd = false) : s.takeGapEnd l = s := by
  have hline : (s.line l).gapEnd = s.line l := if_neg (by simp [h])
  refine congrArg (fun lines => { s with lines := lines }) (modify_eq_of_entry (f := Line.gapEnd) fun x hx => ?_)
  rwa [State.line_of_getElem? hx] at hline

theorem Line.atGapEnd_iff {x : Line} : x.atGapEnd = true ↔ x.sending = true ∧ frameClocks x.run ≤ x.clocks := by
  simp [Line.atGapEnd]

/-- An enabled line goes on with its next frame. -/
theorem Line.gapEnd_of_enabled {x : Line} (h : x.atGapEnd = true) (henabled : x.cfg.enabled = true) :
    x.gapEnd = { x.startFrame with clocks := x.clocks - frameClocks x.run } :=
  (if_pos h).trans (if_pos henabled)

/-- A disabled line goes OFF. -/
theorem Line.gapEnd_of_disabled {x : Line} (h : x.atGapEnd = true) (hdisabled : x.cfg.enabled = false) :
    x.gapEnd = { x with sending := false, clocks := 0 } :=
  (if_pos h).trans (if_neg (by simp [hdisabled]))

/-- Settles O41: LINE_SET by its checks and what it makes of its line, the end of a gap by what is due of the line. -/
theorem lineOutcomes : Obligations.LineOutcomes := by
  unfold Obligations.LineOutcomes
  intro s frame
  constructor
  case left =>
    intro p hs l slots bad c
    have hbad : (lineChecks p s).any Prod.fst = true ↔ bad := by
      simp only [lineChecks, List.any_cons, List.any_nil, Bool.or_false, Bool.or_eq_true, lineFieldsBad_iff,
        Line.owned_any_iff, or_assoc]
      rfl
    refine ⟨fun h => ?refused, fun h => ?configured⟩
    case refused => rw [exec_lineSet hs, if_pos (hbad.2 h)]
    case configured =>
      have hfields : lineFieldsBad p = false := Bool.eq_false_iff.2 fun hf => h (hbad.1 (by simp [lineChecks, hf]))
      have hc : lineConfigOf p ((yesNoOf p.enabled).getD false) = c := lineConfigOf_of_good hfields
      have hslots : c.enabled = true → c.slots ≠ 0 := slots_of_enabled hfields
      rw [exec_lineSet hs, if_neg (mt hbad.1 h), State.configureLine, hc, funext (Line.configure_of_good hslots)]
      rfl
  case right =>
    intro l x length
    have hexec : exec (.lineGapEnd l) s = .next (s.takeGapEnd l) := rfl
    refine ⟨fun h => ?idle, fun hsending hreached _ henabled => ?next, fun hsending hreached _ hdisabled => ?off⟩
    case idle =>
      rw [hexec, State.takeGapEnd_idle (Bool.eq_false_iff.2 fun hend => ?_)]
      obtain ⟨hsending, hreached⟩ := Line.atGapEnd_iff.1 hend
      rcases h with hoff | hbefore
      · exact absurd hsending (by simp [x, hoff])
      · exact Nat.not_lt.2 hreached hbefore
    case next =>
      rw [hexec, State.takeGapEnd_eq (Line.gapEnd_of_enabled (Line.atGapEnd_iff.2 ⟨hsending, hreached⟩) henabled)]
      rfl
    case off =>
      rw [hexec, State.takeGapEnd_eq (Line.gapEnd_of_disabled (Line.atGapEnd_iff.2 ⟨hsending, hreached⟩) hdisabled)]

end Sys2Proof.Machine
end

section
/-! PROOF. The slot owner map as the claims of its holders (R166): the nozzles and fixtures that own slots, what each claims,
and what claims set and freed make of a line's map. -/
namespace Sys2Proof.Machine

/-! ### Holders and their claims -/

/-- What can own slots: a nozzle's valve, or a fixture (Table 8-4). -/
inductive Holder where
  | nozzle (n : Nat)
  | fixture (f : Nat)

/-- The holder that an entry of an owner map names. -/
def SlotOwner.holder : SlotOwner → Option Holder
  | .free => none
  | .valveHigh n => some (.nozzle n)
  | .valveLow n => some (.nozzle n)
  | .fixture f _ => some (.fixture f)

theorem SlotOwner.holder_eq_none {o : SlotOwner} : o.holder = none ↔ o = .free := by
  cases o <;> simp [SlotOwner.holder]

theorem SlotOwner.isValveOf_iff {n : Nat} {o : SlotOwner} : o.isValveOf n = true ↔ o.holder = some (.nozzle n) := by
  cases o <;> simp [SlotOwner.isValveOf, SlotOwner.holder]

theorem SlotOwner.isFixture_iff {f : Nat} {o : SlotOwner} : o.isFixture f = true ↔ o.holder = some (.fixture f) := by
  cases o <;> simp [SlotOwner.isFixture, SlotOwner.holder]

/-- The claims `x`, if any, take slot `i` of line `l` with entry `o`. -/
def Takes (x : Option (Nat × Claims)) (l i : Nat) (o : SlotOwner) : Prop := ∃ cs, x = some (l, cs) ∧ (i, o) ∈ cs

theorem not_takes_none {l i : Nat} {o : SlotOwner} : ¬ Takes none l i o := by
  rintro ⟨_, h, -⟩
  cases h

theorem takes_some {m l i : Nat} {cs : Claims} {o : SlotOwner} : Takes (some (m, cs)) l i o ↔ m = l ∧ (i, o) ∈ cs := by
  simp [Takes]

theorem takes_nozzleClaim {n l i : Nat} {c : NozzleConfig} {o : SlotOwner} : Takes (nozzleClaim n c) l i o ↔
    c.present = true ∧ c.line = l ∧ (c.first = i ∧ o = .valveHigh n ∨ c.first + 1 = i ∧ o = .valveLow n) := by
  unfold nozzleClaim
  split
  next h => simp [takes_some, h, valveClaims, eq_comm (a := i)]
  next h => simp [not_takes_none, h]

theorem mem_fixtureClaims {f i : Nat} {c : FixtureConfig} {o : SlotOwner} : (i, o) ∈ fixtureClaims f c ↔
    ∃ k < c.layout.channels.length, c.first + k = i ∧ o = .fixture f (c.layout.channels.getD k 0) := by
  simp only [fixtureClaims, fixtureSlots, List.mem_iff_getElem?, List.getElem?_zip_eq_some, List.getElem?_map,
    Option.map_eq_some_iff]
  refine exists_congr fun k => ?_
  by_cases hk : k < c.layout.channels.length
  · simp [hk, eq_comm (a := o)]
  · simp [hk]

theorem takes_fixtureClaim {f l i : Nat} {c : FixtureConfig} {o : SlotOwner} : Takes (fixtureClaim f c) l i o ↔
    c.present = true ∧ c.line = l ∧ ∃ k < c.layout.channels.length,
      c.first + k = i ∧ o = .fixture f (c.layout.channels.getD k 0) := by
  unfold fixtureClaim
  split
  next h => simp [takes_some, h, mem_fixtureClaims]
  next h => simp [not_takes_none, h]

/-- What each holder claims under a configuration: the 384 nozzles and the 512 fixtures (Table 0-6). -/
def holderClaim (nozzle : Nat → NozzleConfig) (fixture : Nat → FixtureConfig) : Holder → Option (Nat × Claims)
  | .nozzle n => if n < 384 then nozzleClaim n (nozzle n) else none
  | .fixture f => if f < 512 then fixtureClaim f (fixture f) else none

theorem takes_holderClaim_nozzle {nozzle : Nat → NozzleConfig} {fixture : Nat → FixtureConfig} {n l i : Nat}
    {o : SlotOwner} : Takes (holderClaim nozzle fixture (.nozzle n)) l i o ↔
      n < 384 ∧ Takes (nozzleClaim n (nozzle n)) l i o := by
  show Takes (if n < 384 then nozzleClaim n (nozzle n) else none) l i o ↔ _
  split
  next h => simp [h]
  next h => simp [h, not_takes_none]

theorem takes_holderClaim_fixture {nozzle : Nat → NozzleConfig} {fixture : Nat → FixtureConfig} {f l i : Nat}
    {o : SlotOwner} : Takes (holderClaim nozzle fixture (.fixture f)) l i o ↔
      f < 512 ∧ Takes (fixtureClaim f (fixture f)) l i o := by
  show Takes (if f < 512 then fixtureClaim f (fixture f) else none) l i o ↔ _
  split
  next h => simp [h]
  next h => simp [h, not_takes_none]

/-- A claim names its holder in the map. -/
theorem holder_of_takes {nozzle : Nat → NozzleConfig} {fixture : Nat → FixtureConfig} {k : Holder} {l i : Nat}
    {o : SlotOwner} (h : Takes (holderClaim nozzle fixture k) l i o) : o.holder = some k := by
  cases k with
  | nozzle n =>
    obtain ⟨-, h⟩ := takes_holderClaim_nozzle.1 h
    obtain ⟨-, -, ⟨-, rfl⟩ | ⟨-, rfl⟩⟩ := takes_nozzleClaim.1 h <;> rfl
  | fixture f =>
    obtain ⟨-, h⟩ := takes_holderClaim_fixture.1 h
    obtain ⟨-, -, _, -, -, rfl⟩ := takes_fixtureClaim.1 h
    rfl

/-- A nozzle's valve takes each of its slots with one entry. -/
theorem takes_nozzleClaim_unique {n l i : Nat} {c : NozzleConfig} {o p : SlotOwner} (ho : Takes (nozzleClaim n c) l i o)
    (hp : Takes (nozzleClaim n c) l i p) : p = o := by
  obtain ⟨-, -, ⟨hi, rfl⟩ | ⟨hi, rfl⟩⟩ := takes_nozzleClaim.1 ho <;>
    obtain ⟨-, -, ⟨hj, rfl⟩ | ⟨hj, rfl⟩⟩ := takes_nozzleClaim.1 hp
  · rfl
  · omega
  · omega
  · rfl

/-- A fixture takes each of its slots with one entry. -/
theorem takes_fixtureClaim_unique {f l i : Nat} {c : FixtureConfig} {o p : SlotOwner} (ho : Takes (fixtureClaim f c) l i o)
    (hp : Takes (fixtureClaim f c) l i p) : p = o := by
  obtain ⟨-, -, a, -, ha, rfl⟩ := takes_fixtureClaim.1 ho
  obtain ⟨-, -, b, -, hb, rfl⟩ := takes_fixtureClaim.1 hp
  obtain rfl : a = b := by omega
  rfl

/-! ### Maps that agree with claims -/

/-- An owner map agrees with the holders' claims: every claim is to a slot 1..512 of one of the four lines, the map has its
entry, and every owned slot lies within its line's slot count and is claimed (R166). -/
structure MapAgrees (claim : Holder → Option (Nat × Claims)) (slots : Nat → Nat) (owner : Nat → Nat → SlotOwner) : Prop where
  inRange : ∀ {k l i o}, Takes (claim k) l i o → l < 4 ∧ 1 ≤ i ∧ i ≤ 512
  owns : ∀ {k l i o}, Takes (claim k) l i o → owner l i = o
  owned : ∀ {l i}, l < 4 → 1 ≤ i → i ≤ 512 → owner l i ≠ .free → i ≤ slots l ∧ ∃ k, Takes (claim k) l i (owner l i)

theorem layout_channels_pos (x : Layout) : 0 < x.channels.length := by cases x <;> decide

/-- The owner map of R166 is the map of its holders' claims. -/
theorem ownerMapOk_iff {nozzle : Nat → NozzleConfig} {fixture : Nat → FixtureConfig} {slots : Nat → Nat}
    {owner : Nat → Nat → SlotOwner} :
    OwnerMapOk nozzle fixture slots owner ↔ MapAgrees (holderClaim nozzle fixture) slots owner := by
  constructor
  case mp =>
    rintro ⟨hnozzle, hfixture, howned⟩
    have hclaim {k l i o} (h : Takes (holderClaim nozzle fixture k) l i o) : (l < 4 ∧ 1 ≤ i ∧ i ≤ 512) ∧ owner l i = o := by
      cases k with
      | nozzle n =>
        obtain ⟨hn, hvalve⟩ := takes_holderClaim_nozzle.1 h
        obtain ⟨hpresent, rfl, hslot⟩ := takes_nozzleClaim.1 hvalve
        obtain ⟨hline, hlow, hhigh, hfirst, hsecond⟩ := hnozzle n hn hpresent
        obtain ⟨rfl, rfl⟩ | ⟨rfl, rfl⟩ := hslot
        · exact ⟨⟨hline, hlow, by omega⟩, hfirst⟩
        · exact ⟨⟨hline, by omega, by omega⟩, hsecond⟩
      | fixture f =>
        obtain ⟨hf, h⟩ := takes_holderClaim_fixture.1 h
        obtain ⟨hpresent, rfl, k, hk, rfl, rfl⟩ := takes_fixtureClaim.1 h
        obtain ⟨hline, hlow, hhigh, hslots⟩ := hfixture f hf hpresent
        exact ⟨⟨hline, by omega, by omega⟩, hslots k hk⟩
    refine ⟨fun h => (hclaim h).1, fun h => (hclaim h).2, fun hl hlow hhigh hfree => ?_⟩
    obtain ⟨hle, ⟨n, hn, hpresent, hline, h⟩ | ⟨f, hf, hpresent, hline, h⟩⟩ := howned _ hl _ (by omega) hlow hfree
    · exact ⟨hle, .nozzle n, takes_holderClaim_nozzle.2 ⟨hn, takes_nozzleClaim.2 ⟨hpresent, hline, h⟩⟩⟩
    · exact ⟨hle, .fixture f, takes_holderClaim_fixture.2 ⟨hf, takes_fixtureClaim.2 ⟨hpresent, hline, h⟩⟩⟩
  case mpr =>
    intro h
    refine ⟨fun n hn hpresent => ?_, fun f hf hpresent => ?_, fun l hl i hi hlow hfree => ?_⟩
    · have htakes {i : Nat} {o : SlotOwner}
          (hi : (nozzle n).first = i ∧ o = .valveHigh n ∨ (nozzle n).first + 1 = i ∧ o = .valveLow n) :=
        takes_holderClaim_nozzle (fixture := fixture).2 ⟨hn, takes_nozzleClaim.2 ⟨hpresent, rfl, hi⟩⟩
      have hhigh := htakes (.inl ⟨rfl, rfl⟩)
      have hlow := htakes (.inr ⟨rfl, rfl⟩)
      obtain ⟨hline, hfirst, -⟩ := h.inRange hhigh
      obtain ⟨-, -, hsecond⟩ := h.inRange hlow
      exact ⟨hline, hfirst, by omega, h.owns hhigh, h.owns hlow⟩
    · have htakes {k} (hk : k < (fixture f).layout.channels.length) :=
        takes_holderClaim_fixture (nozzle := nozzle).2 ⟨hf, takes_fixtureClaim.2 ⟨hpresent, rfl, k, hk, rfl, rfl⟩⟩
      have hpos := layout_channels_pos (fixture f).layout
      obtain ⟨hline, hfirst, -⟩ := h.inRange (htakes hpos)
      obtain ⟨-, -, hlast⟩ := h.inRange (htakes (Nat.sub_one_lt_of_lt hpos))
      exact ⟨hline, hfirst, by omega, fun k hk => h.owns (htakes hk)⟩
    · obtain ⟨hle, k, hk⟩ := h.owned hl hlow (by omega) hfree
      refine ⟨hle, ?_⟩
      cases k with
      | nozzle n =>
        obtain ⟨hn, hk⟩ := takes_holderClaim_nozzle.1 hk
        exact .inl ⟨n, hn, takes_nozzleClaim.1 hk⟩
      | fixture f =>
        obtain ⟨hf, hk⟩ := takes_holderClaim_fixture.1 hk
        exact .inr ⟨f, hf, takes_fixtureClaim.1 hk⟩

/-- Two maps with the same entries on the four lines agree with the same claims. -/
theorem MapAgrees.congr {claim : Holder → Option (Nat × Claims)} {slots slots' : Nat → Nat}
    {owner owner' : Nat → Nat → SlotOwner} (h : MapAgrees claim slots owner)
    (howner : ∀ l < 4, ∀ i, 1 ≤ i → i ≤ 512 → owner' l i = owner l i)
    (hslots : ∀ l < 4, ∀ i, 1 ≤ i → i ≤ 512 → owner l i ≠ .free → i ≤ slots l → i ≤ slots' l) :
    MapAgrees claim slots' owner' where
  inRange := h.inRange
  owns hk := by
    obtain ⟨hl, hlow, hhigh⟩ := h.inRange hk
    rw [howner _ hl _ hlow hhigh, h.owns hk]
  owned {l i} hl hlow hhigh hfree := by
    rw [howner l hl i hlow hhigh] at hfree ⊢
    obtain ⟨hle, hclaimed⟩ := h.owned hl hlow hhigh hfree
    exact ⟨hslots l hl i hlow hhigh hfree hle, hclaimed⟩

/-- A map in which one holder's slots are exchanged for others that nothing else owns agrees with the exchanged claims. -/
theorem MapAgrees.exchange {claim claim' : Holder → Option (Nat × Claims)} {slots : Nat → Nat}
    {owner owner' : Nat → Nat → SlotOwner} (h : MapAgrees claim slots owner)
    (hnames : ∀ {j l i o}, Takes (claim j) l i o → o.holder = some j) {k : Holder}
    (hothers : ∀ {j}, j ≠ k → claim' j = claim j)
    (hnew : ∀ {l i o}, Takes (claim' k) l i o → l < 4 ∧ 1 ≤ i ∧ i ≤ 512 ∧ i ≤ slots l
      ∧ (owner l i = .free ∨ (owner l i).holder = some k))
    (htaken : ∀ {l i o}, Takes (claim' k) l i o → owner' l i = o)
    (hreleased : ∀ {l i o}, Takes (claim k) l i o → (∀ p, ¬ Takes (claim' k) l i p) → owner' l i = .free)
    (hkept : ∀ {l i}, l < 4 → 1 ≤ i → i ≤ 512 → (∀ o, ¬ Takes (claim k) l i o) → (∀ o, ¬ Takes (claim' k) l i o) →
      owner' l i = owner l i) : MapAgrees claim' slots owner' where
  inRange {j l i o} hj := by
    rcases eq_or_ne j k with rfl | hjk
    · obtain ⟨hl, hlow, hhigh, -⟩ := hnew hj
      exact ⟨hl, hlow, hhigh⟩
    · exact h.inRange (hothers hjk ▸ hj)
  owns {j l i o} hj := by
    rcases eq_or_ne j k with rfl | hjk
    · exact htaken hj
    · rw [hothers hjk] at hj
      obtain ⟨hl, hlow, hhigh⟩ := h.inRange hj
      have hholder : (owner l i).holder = some j := by rw [h.owns hj, hnames hj]
      have hother : (owner l i).holder ≠ some k := by simpa [hholder] using hjk
      rw [hkept hl hlow hhigh (fun p hp => hother (by rw [h.owns hp, hnames hp])) fun p hp => ?_, h.owns hj]
      obtain ⟨-, -, -, -, hfree | hmine⟩ := hnew hp
      · rw [SlotOwner.holder_eq_none.2 hfree] at hholder
        cases hholder
      · exact hother hmine
  owned {l i} hl hlow hhigh hfree := by
    by_cases hin : ∃ o, Takes (claim' k) l i o
    · obtain ⟨o, ho⟩ := hin
      obtain ⟨-, -, -, hle, -⟩ := hnew ho
      exact ⟨hle, k, by rwa [htaken ho]⟩
    · have hout := not_exists.1 hin
      have hold (o : SlotOwner) (ho : Takes (claim k) l i o) : False := hfree (hreleased ho hout)
      rw [hkept hl hlow hhigh hold hout] at hfree ⊢
      obtain ⟨hle, j, hj⟩ := h.owned hl hlow hhigh hfree
      have hjk : j ≠ k := by
        rintro rfl
        exact hold _ hj
      exact ⟨hle, j, by rwa [hothers hjk]⟩

end Sys2Proof.Machine
end

section
/-! PROOF. What claims set and freed make of the lines, and NOZZLE_SET, FIXTURE_SET and LINE_SET: each leaves an owner map
that agrees with the configuration it leaves (R76, R147, R159, R166). -/
namespace Sys2Proof.Machine

/-! ### Claims on one line -/

/-- Claims set in a line's map leave a slot that none of them takes. -/
theorem Line.owner_claim_of_not_mem {cs : Claims} {x : Line} {i : Nat} (hi : 1 ≤ i) (hpos : ∀ c ∈ cs, 1 ≤ c.1)
    (h : ∀ o, (i, o) ∉ cs) : (x.claim cs).owner i = x.owner i := by
  induction cs generalizing x with
  | nil => rfl
  | cons c cs ih =>
    obtain ⟨hc, hrest⟩ := List.forall_mem_cons.1 hpos
    have hne : c.1 ≠ i := by
      rintro rfl
      exact h c.2 List.mem_cons_self
    refine (ih (x := { x with owners := x.owners.set (c.1 - 1) c.2 }) hrest
      fun o ho => h o (List.mem_cons_of_mem _ ho)).trans ?_
    simp only [Line.owner, List.getD_eq_getElem?_getD]
    rw [List.getElem?_set_ne (by omega)]

/-- A slot that the claims take with one entry has that entry. -/
theorem Line.owner_claim_of_mem {cs : Claims} {x : Line} {i : Nat} {o : SlotOwner} (hi : 1 ≤ i)
    (hlen : i ≤ x.owners.length) (hpos : ∀ c ∈ cs, 1 ≤ c.1) (h : (i, o) ∈ cs) (honly : ∀ p, (i, p) ∈ cs → p = o) :
    (x.claim cs).owner i = o := by
  induction cs generalizing x with
  | nil => cases h
  | cons c cs ih =>
    obtain ⟨-, hrest⟩ := List.forall_mem_cons.1 hpos
    have htail (p : SlotOwner) (hp : (i, p) ∈ cs) : p = o := honly p (List.mem_cons_of_mem _ hp)
    by_cases hmem : (i, o) ∈ cs
    · exact ih (x := { x with owners := x.owners.set (c.1 - 1) c.2 }) (by simpa using hlen) hrest hmem htail
    · obtain rfl : (i, o) = c := (List.mem_cons.1 h).resolve_right hmem
      refine (Line.owner_claim_of_not_mem (cs := cs) (x := { x with owners := x.owners.set (i - 1) o }) hi hrest
        fun p hp => hmem (htail p hp ▸ hp)).trans ?_
      simp only [Line.owner, List.getD_eq_getElem?_getD]
      rw [List.getElem?_set_self (by omega), Option.getD_some]

theorem mem_freed {cs : Claims} {i : Nat} {o : SlotOwner} :
    (i, o) ∈ cs.map (fun c => (c.1, SlotOwner.free)) ↔ o = .free ∧ ∃ p, (i, p) ∈ cs := by
  simp only [List.mem_map, Prod.mk.injEq, Prod.exists]
  constructor
  · rintro ⟨j, p, hp, rfl, rfl⟩
    exact ⟨rfl, p, hp⟩
  · rintro ⟨rfl, p, hp⟩
    exact ⟨i, p, hp, rfl, rfl⟩

theorem Line.owner_unclaim_of_mem {cs : Claims} {x : Line} {i : Nat} {o : SlotOwner} (hi : 1 ≤ i)
    (hlen : i ≤ x.owners.length) (hpos : ∀ c ∈ cs, 1 ≤ c.1) (h : (i, o) ∈ cs) : (x.unclaim cs).owner i = .free :=
  Line.owner_claim_of_mem hi hlen (List.forall_mem_map.2 hpos) (mem_freed.2 ⟨rfl, o, h⟩) fun _ hp => (mem_freed.1 hp).1

theorem Line.owner_unclaim_of_not_mem {cs : Claims} {x : Line} {i : Nat} (hi : 1 ≤ i) (hpos : ∀ c ∈ cs, 1 ≤ c.1)
    (h : ∀ o, (i, o) ∉ cs) : (x.unclaim cs).owner i = x.owner i :=
  Line.owner_claim_of_not_mem hi (List.forall_mem_map.2 hpos) fun o ho => by
    obtain ⟨-, p, hp⟩ := mem_freed.1 ho
    exact h p hp

/-! ### Claims moved between lines -/

/-- Claims freed and none taken: the first half of a move. -/
def State.releaseClaims (old : Option (Nat × Claims)) (s : State) : State := s.moveClaims old none

theorem State.moveClaims_some (old : Option (Nat × Claims)) (l : Nat) (cs : Claims) (s : State) :
    s.moveClaims old (some (l, cs)) = (s.releaseClaims old).modifyLine l (Line.claim cs) := rfl

/-- Every line's owner map has 512 entries, one of each of the four lines. -/
theorem State.owners_length {s : State} (hz : s.sized) {l : Nat} (hl : l < 4) :
    l < s.lines.length ∧ (s.line l).owners.length = 512 := by
  obtain ⟨-, -, -, -, -, -, -, -, -, hlines, hsized, -⟩ := hz
  have hlt : l < s.lines.length := by omega
  have hmem : s.line l ∈ s.lines := by
    rw [State.line, List.getD_eq_getElem _ _ hlt]
    exact List.getElem_mem hlt
  obtain ⟨-, -, howners⟩ := hsized _ hmem
  exact ⟨hlt, howners⟩

/-- The owner of a slot once claims have been freed. -/
theorem State.owner_releaseClaims {old : Option (Nat × Claims)} {s : State} (hz : s.sized) {l i : Nat} (hl : l < 4)
    (hi : 1 ≤ i) (hi' : i ≤ 512) (hpos : ∀ {l i o}, Takes old l i o → 1 ≤ i) :
    ((∃ o, Takes old l i o) → ((s.releaseClaims old).line l).owner i = .free)
      ∧ ((∀ o, ¬ Takes old l i o) → ((s.releaseClaims old).line l).owner i = (s.line l).owner i) := by
  obtain ⟨hlt, hlen⟩ := State.owners_length hz hl
  cases old with
  | none => exact ⟨fun ⟨_, h⟩ => absurd h not_takes_none, fun _ => rfl⟩
  | some x =>
    obtain ⟨m, cs⟩ := x
    have hpos (c) (hc : c ∈ cs) : 1 ≤ c.1 := hpos (takes_some.2 ⟨rfl, hc⟩)
    have hline : (s.releaseClaims (some (m, cs))).line l = if m = l ∧ l < s.lines.length then (s.line l).unclaim cs
        else s.line l := State.line_modifyLine ..
    simp only [takes_some]
    refine ⟨fun ⟨o, hm, h⟩ => ?_, fun h => ?_⟩
    · rw [hline, if_pos ⟨hm, hlt⟩]
      exact Line.owner_unclaim_of_mem hi (by omega) hpos h
    · rw [hline]
      split
      next hm => exact Line.owner_unclaim_of_not_mem hi hpos fun o ho => h o ⟨hm.1, ho⟩
      next => rfl

/-- A slot that the new claims take has their entry. -/
theorem State.owner_moveClaims_of_new {old new : Option (Nat × Claims)} {s : State} (hz : s.sized) {l i : Nat}
    {o : SlotOwner} (hl : l < 4) (hi : 1 ≤ i) (hi' : i ≤ 512) (hpos : ∀ {l i o}, Takes new l i o → 1 ≤ i)
    (h : Takes new l i o) (honly : ∀ p, Takes new l i p → p = o) : ((s.moveClaims old new).line l).owner i = o := by
  cases new with
  | none => exact absurd h not_takes_none
  | some x =>
    obtain ⟨m, cs⟩ := x
    obtain ⟨rfl, hmem⟩ := takes_some.1 h
    have hreleased := (s.keepsShow_moveClaims old none).sized hz
    obtain ⟨hlt, hlen⟩ := State.owners_length hreleased hl
    rw [State.moveClaims_some, State.line_modifyLine, if_pos ⟨rfl, hlt⟩]
    refine Line.owner_claim_of_mem hi (hlen.symm ▸ hi') (fun c hc => hpos (takes_some.2 ⟨rfl, hc⟩)) hmem fun p hp => ?_
    exact honly p (takes_some.2 ⟨rfl, hp⟩)

/-- A slot that the new claims do not take is as the freeing of the old ones leaves it. -/
theorem State.owner_moveClaims_of_not_new {old new : Option (Nat × Claims)} {s : State} {l i : Nat} (hi : 1 ≤ i)
    (hpos : ∀ {l i o}, Takes new l i o → 1 ≤ i) (h : ∀ o, ¬ Takes new l i o) :
    ((s.moveClaims old new).line l).owner i = ((s.releaseClaims old).line l).owner i := by
  cases new with
  | none => rfl
  | some x =>
    obtain ⟨m, cs⟩ := x
    rw [State.moveClaims_some, State.line_modifyLine]
    split
    next hm =>
      obtain ⟨rfl, -⟩ := hm
      exact Line.owner_claim_of_not_mem hi (fun c hc => hpos (takes_some.2 ⟨rfl, hc⟩)) fun o ho =>
        h o (takes_some.2 ⟨rfl, ho⟩)
    next => rfl

/-- A move of claims touches owner maps alone. -/
theorem State.slots_moveClaims (old new : Option (Nat × Claims)) (s : State) (l : Nat) :
    ((s.moveClaims old new).line l).cfg.slots = (s.line l).cfg.slots := by
  have hmodify (m : Nat) (cs : Claims) (u : State) : ((u.modifyLine m (Line.claim cs)).line l).cfg.slots =
      (u.line l).cfg.slots := by
    rw [State.line_modifyLine]
    split <;> rfl
  cases old <;> cases new
  · rfl
  · exact hmodify ..
  · exact hmodify ..
  · exact (hmodify ..).trans (hmodify ..)

/-- Moving one holder's claims to slots that nothing else owns keeps the map in agreement. -/
theorem State.mapAgrees_moveClaims {claim claim' : Holder → Option (Nat × Claims)} {s : State} (hz : s.sized)
    (h : MapAgrees claim (fun l => (s.line l).cfg.slots) fun l => (s.line l).owner)
    (hnames : ∀ {j l i o}, Takes (claim j) l i o → o.holder = some j) {k : Holder}
    (hothers : ∀ {j}, j ≠ k → claim' j = claim j)
    (honly : ∀ {l i o p}, Takes (claim' k) l i o → Takes (claim' k) l i p → p = o)
    (hnew : ∀ {l i o}, Takes (claim' k) l i o → l < 4 ∧ 1 ≤ i ∧ i ≤ 512 ∧ i ≤ (s.line l).cfg.slots
      ∧ ((s.line l).owner i = .free ∨ ((s.line l).owner i).holder = some k)) :
    MapAgrees claim' (fun l => ((s.moveClaims (claim k) (claim' k)).line l).cfg.slots)
      fun l => ((s.moveClaims (claim k) (claim' k)).line l).owner := by
  have hposOld {l i : Nat} {o : SlotOwner} (ho : Takes (claim k) l i o) : 1 ≤ i := by
    obtain ⟨-, hlow, -⟩ := h.inRange ho
    exact hlow
  have hposNew {l i : Nat} {o : SlotOwner} (ho : Takes (claim' k) l i o) : 1 ≤ i := by
    obtain ⟨-, hlow, -⟩ := hnew ho
    exact hlow
  simp only [State.slots_moveClaims]
  refine h.exchange hnames hothers hnew (fun ho => ?_) (fun ho hout => ?_) fun hl hlow hhigh hold hout => ?_
  · obtain ⟨hl, hlow, hhigh, -⟩ := hnew ho
    exact State.owner_moveClaims_of_new hz hl hlow hhigh hposNew ho fun p => honly ho
  · obtain ⟨hl, hlow, hhigh⟩ := h.inRange ho
    rw [State.owner_moveClaims_of_not_new hlow hposNew hout]
    exact (State.owner_releaseClaims hz hl hlow hhigh hposOld).1 ⟨_, ho⟩
  · rw [State.owner_moveClaims_of_not_new hlow hposNew hout]
    exact (State.owner_releaseClaims hz hl hlow hhigh hposOld).2 hold

/-! ### The owner map of a state -/

/-- What each holder claims in a state. -/
def State.claims (s : State) : Holder → Option (Nat × Claims) :=
  holderClaim (fun n => (s.nozzle n).cfg) fun f => (s.fixture f).cfg

/-- The owner map of a state agrees with what its nozzles and fixtures claim. -/
def State.mapOk (s : State) : Prop := MapAgrees s.claims (fun l => (s.line l).cfg.slots) fun l => (s.line l).owner

theorem State.ownersOk_iff {s : State} :
    s.ownersOk ↔ s.sized ∧ s.mapOk ∧ s.store.image.ownersOk ∧ s.store.snapshot.ownersOk :=
  and_congr_right fun _ => and_congr_left fun _ => ownerMapOk_iff

/-- A change that leaves the Configuration Store keeps the owner maps when it keeps the one in force. -/
theorem State.ownersOk_of_mapOk {s t : State} (hshow : s.KeepsShow t) (hstore : t.store = s.store)
    (hmap : s.sized → s.mapOk → t.mapOk) (hs : s.ownersOk) : t.ownersOk := by
  obtain ⟨hz, hm, himage, hsnapshot⟩ := State.ownersOk_iff.1 hs
  exact State.ownersOk_iff.2 ⟨hshow.sized hz, hmap hz hm, by rwa [hstore], by rwa [hstore]⟩

/-- Without a conflict a slot is free or the holder's own. -/
theorem State.conflict_eq_false_iff {s : State} {l i : Nat} {mine : SlotOwner → Bool} :
    s.conflict l i mine = false ↔ (s.line l).owner i = .free ∨ mine ((s.line l).owner i) = true := by
  simp [State.conflict, or_iff_not_imp_left]

/-! ### NOZZLE_SET -/

/-- What NOZZLE_SET leaves of the nozzles, the lines and the rest (R76). -/
theorem State.setNozzle_eq (n : Nat) (c : NozzleConfig) (s : State) : s.setNozzle n c =
    (s.moveClaims (nozzleClaim n (s.nozzle n).cfg) (nozzleClaim n c)).modifyNozzle n
      fun z => { cfg := c, live := if c.present then z.live else NozzleLive.zero } := rfl

@[simp] theorem State.moveClaims_nozzles (old new : Option (Nat × Claims)) (s : State) :
    (s.moveClaims old new).nozzles = s.nozzles := by cases old <;> cases new <;> rfl

@[simp] theorem State.moveClaims_store (old new : Option (Nat × Claims)) (s : State) :
    (s.moveClaims old new).store = s.store := by cases old <;> cases new <;> rfl

theorem State.cfg_setNozzle {n : Nat} (c : NozzleConfig) {s : State} (hz : s.sized) (hn : n < 384) (j : Nat) :
    ((s.setNozzle n c).nozzle j).cfg = if n = j then c else (s.nozzle j).cfg := by
  obtain ⟨-, -, hlen, -⟩ := hz
  rw [State.setNozzle_eq, State.nozzle_modifyNozzle, State.moveClaims_nozzles]
  by_cases hj : n = j
  · rw [if_pos ⟨hj, by omega⟩, if_pos hj]
  · rw [if_neg fun h => hj h.1, if_neg hj, State.nozzle, State.moveClaims_nozzles, State.nozzle]

/-- NOZZLE_SET changes what its nozzle claims, and no more. -/
theorem State.claims_setNozzle {n : Nat} (c : NozzleConfig) {s : State} (hz : s.sized) (hn : n < 384) :
    (s.setNozzle n c).claims (.nozzle n) = nozzleClaim n c
      ∧ ∀ {k}, k ≠ .nozzle n → (s.setNozzle n c).claims k = s.claims k := by
  refine ⟨?_, fun {k} hk => ?_⟩
  · simp only [State.claims, holderClaim, State.cfg_setNozzle c hz hn, if_pos hn, if_true]
  · cases k with
    | nozzle j =>
      have hj : n ≠ j := fun h => hk (congrArg Holder.nozzle h.symm)
      simp only [State.claims, holderClaim, State.cfg_setNozzle c hz hn, if_neg hj]
    | fixture f =>
      have hfixture : (s.setNozzle n c).fixture f = s.fixture f := by
        rw [State.setNozzle_eq, State.fixture, State.modifyNozzle_lights, State.moveClaims_lights, State.fixture]
      simp only [State.claims, holderClaim, hfixture]

/-- A nozzle's slots may be exchanged for slots of its line that nothing else owns. -/
theorem State.mapOk_setNozzle {n : Nat} {c : NozzleConfig} {s : State} (hn : n < 384)
    (hfits : c.present = true → c.line < 4 ∧ 1 ≤ c.first ∧ c.first ≤ 511 ∧ c.first + 1 ≤ (s.line c.line).cfg.slots
      ∧ s.conflict c.line c.first (SlotOwner.isValveOf n) = false
      ∧ s.conflict c.line (c.first + 1) (SlotOwner.isValveOf n) = false)
    (hz : s.sized) (h : s.mapOk) : (s.setNozzle n c).mapOk := by
  have hold : s.claims (.nozzle n) = nozzleClaim n (s.nozzle n).cfg := if_pos hn
  obtain ⟨hself, hothers⟩ := State.claims_setNozzle c hz hn
  have hmoved := State.mapAgrees_moveClaims hz h holder_of_takes hothers (by rw [hself]; exact takes_nozzleClaim_unique)
    fun {l i o} ho => ?fits
  case fits =>
    rw [hself] at ho
    obtain ⟨hpresent, rfl, hslot⟩ := takes_nozzleClaim.1 ho
    obtain ⟨hline, hfirst, hlast, hslots, hhigh, hlow⟩ := hfits hpresent
    rw [State.conflict_eq_false_iff, SlotOwner.isValveOf_iff] at hhigh hlow
    obtain ⟨rfl, -⟩ | ⟨rfl, -⟩ := hslot
    · exact ⟨hline, hfirst, by omega, by omega, hhigh⟩
    · exact ⟨hline, by omega, by omega, hslots, hlow⟩
  rw [hold, hself] at hmoved
  exact hmoved

theorem ownersOk_handleNozzleSet (p : NozzleSetParams) {s : State} (hs : s.ownersOk) :
    (handleNozzleSet p s).1.ownersOk := by
  have hshow := keepsShow_handleNozzleSet p s
  rw [handleNozzleSet_eq] at hshow ⊢
  cases hpass : firstFailure (configChecks s ++ nozzleChecks p s) with
  | some c => rwa [checked_of_some _ _ hpass]
  | none =>
    rw [checked_of_none _ _ hpass] at hshow ⊢
    refine State.ownersOk_of_mapOk hshow (State.moveClaims_store ..) (State.mapOk_setNozzle ?_ fun hpresent => ?_) hs
    · have hrange := check_passes (b := decide (383 < p.nozzle.toNat) || (yesNoOf p.present).isNone) .badParam hpass
        (by simp [nozzleChecks])
      rw [Bool.or_eq_false_iff, decide_eq_false_iff_not] at hrange
      omega
    · have hyes : decide (p.present = 1) = true := by
        by_contra hno
        rw [nozzleAsked, if_neg hno] at hpresent
        cases hpresent
      have hfields := check_passes (b := decide (p.present = 1) && nozzleFieldsBad s (nozzleAsked p s)) .badParam hpass
        (by simp [nozzleChecks])
      have hfree := check_passes (b := decide (p.present = 1) &&
        (s.conflict (nozzleAsked p s).line (nozzleAsked p s).first (SlotOwner.isValveOf p.nozzle.toNat)
          || s.conflict (nozzleAsked p s).line ((nozzleAsked p s).first + 1) (SlotOwner.isValveOf p.nozzle.toNat)))
        .slotConflict hpass (by simp [nozzleChecks])
      rw [hyes, Bool.true_and] at hfields hfree
      rw [Bool.or_eq_false_iff] at hfree
      have hgood := mt nozzleFieldsBad_iff.2 (Bool.eq_false_iff.1 hfields)
      obtain ⟨hhigh, hlow⟩ := hfree
      exact ⟨by omega, by omega, by omega, by omega, hhigh, hlow⟩

/-! ### FIXTURE_SET -/

/-- What FIXTURE_SET leaves of the fixtures, the lines and the rest (R147). -/
theorem State.setFixture_eq (n : Nat) (c : FixtureConfig) (s : State) : s.setFixture n c =
    ((s.moveClaims (fixtureClaim n (s.fixture n).cfg) (fixtureClaim n c)).writeSlots (s.fixture n).cfg.line
      ((releasedSlots (s.fixture n).cfg c).map fun i => (i, 0))).modifyFixture n (Fixture.configure c) := rfl

/-- Writes of slots leave every line's configuration and owner map. -/
theorem State.line_writeSlots_same (n : Nat) (values : SlotValues) (s : State) (l : Nat) :
    ((s.writeSlots n values).line l).cfg = (s.line l).cfg ∧ ((s.writeSlots n values).line l).owner = (s.line l).owner := by
  rw [State.line_writeSlots]
  split <;> exact ⟨rfl, rfl⟩

theorem Fixture.configure_cfg (c : FixtureConfig) (x : Fixture) : (x.configure c).cfg = c := by
  unfold Fixture.configure
  split <;> rfl

theorem State.cfg_setFixture {n : Nat} (c : FixtureConfig) {s : State} (hz : s.sized) (hn : n < 512) (f : Nat) :
    ((s.setFixture n c).fixture f).cfg = if n = f then c else (s.fixture f).cfg := by
  obtain ⟨-, -, -, -, -, -, -, -, hlen, -⟩ := hz
  rw [State.setFixture_eq, State.fixture_modifyFixture, State.writeSlots_lights, State.moveClaims_lights]
  by_cases hf : n = f
  · rw [if_pos ⟨hf, by omega⟩, if_pos hf, Fixture.configure_cfg]
  · rw [if_neg fun h => hf h.1, if_neg hf, State.fixture, State.writeSlots_lights, State.moveClaims_lights, State.fixture]

/-- FIXTURE_SET changes what its fixture claims, and no more. -/
theorem State.claims_setFixture {n : Nat} (c : FixtureConfig) {s : State} (hz : s.sized) (hn : n < 512) :
    (s.setFixture n c).claims (.fixture n) = fixtureClaim n c
      ∧ ∀ {k}, k ≠ .fixture n → (s.setFixture n c).claims k = s.claims k := by
  refine ⟨?_, fun {k} hk => ?_⟩
  · simp only [State.claims, holderClaim, State.cfg_setFixture c hz hn, if_pos hn, if_true]
  · cases k with
    | fixture f =>
      have hf : n ≠ f := fun h => hk (congrArg Holder.fixture h.symm)
      simp only [State.claims, holderClaim, State.cfg_setFixture c hz hn, if_neg hf]
    | nozzle j =>
      have hnozzle : (s.setFixture n c).nozzle j = s.nozzle j := by
        rw [State.setFixture_eq, State.nozzle, State.modifyFixture_nozzles, State.writeSlots_eq, State.moveClaims_nozzles,
          State.nozzle]
      simp only [State.claims, holderClaim, hnozzle]

/-- A fixture's slots may be exchanged for slots of its line that nothing else owns. -/
theorem State.mapOk_setFixture {n : Nat} {c : FixtureConfig} {s : State} (hn : n < 512)
    (hfits : c.present = true → c.line < 4 ∧ 1 ≤ c.first ∧ c.lastSlot ≤ 512 ∧ c.lastSlot ≤ (s.line c.line).cfg.slots
      ∧ ∀ i ∈ fixtureSlots c, s.conflict c.line i (SlotOwner.isFixture n) = false)
    (hz : s.sized) (h : s.mapOk) : (s.setFixture n c).mapOk := by
  have hold : s.claims (.fixture n) = fixtureClaim n (s.fixture n).cfg := if_pos hn
  obtain ⟨hself, hothers⟩ := State.claims_setFixture c hz hn
  have hmoved := State.mapAgrees_moveClaims hz h holder_of_takes hothers (by rw [hself]; exact takes_fixtureClaim_unique)
    fun {l i o} ho => ?fits
  case fits =>
    rw [hself] at ho
    obtain ⟨hpresent, rfl, k, hk, rfl, -⟩ := takes_fixtureClaim.1 ho
    obtain ⟨hline, hfirst, hlast, hslots, hfree⟩ := hfits hpresent
    have hown := hfree (c.first + k) (List.mem_map.2 ⟨k, List.mem_range.2 hk, rfl⟩)
    rw [State.conflict_eq_false_iff, SlotOwner.isFixture_iff] at hown
    unfold FixtureConfig.lastSlot at hlast hslots
    exact ⟨hline, by omega, by omega, by omega, hown⟩
  rw [hold, hself] at hmoved
  have hwritten (l : Nat) := State.line_writeSlots_same (s.fixture n).cfg.line
    ((releasedSlots (s.fixture n).cfg c).map fun i => (i, 0))
    (s.moveClaims (fixtureClaim n (s.fixture n).cfg) (fixtureClaim n c)) l
  have hcfg (l : Nat) : ((s.setFixture n c).line l).cfg = _ := (hwritten l).1
  have howner (l : Nat) : ((s.setFixture n c).line l).owner = _ := (hwritten l).2
  unfold State.mapOk
  simp only [hcfg, howner]
  exact hmoved

theorem handleFixtureSet_eq (p : FixtureSetParams) (s : State) : handleFixtureSet p s =
    checked (configChecks s ++ fixtureChecks p s) (accept (State.setFixture p.fixture.toNat (fixtureAsked p s))) s := rfl

theorem fixtureConfigOf_range {p : FixtureSetParams} {c : FixtureConfig} (h : fixtureConfigOf p = some c) :
    c.line < 4 ∧ 1 ≤ c.first := by
  unfold fixtureConfigOf at h
  split at h
  · split at h
    next hrange =>
      obtain rfl := Option.some.inj h
      obtain ⟨hline, hfirst, -⟩ := hrange
      exact ⟨Nat.lt_succ_of_le hline, hfirst⟩
    next => cases h
  · cases h

theorem ownersOk_handleFixtureSet (p : FixtureSetParams) {s : State} (hs : s.ownersOk) :
    (handleFixtureSet p s).1.ownersOk := by
  have hshow := keepsShow_handleFixtureSet p s
  rw [handleFixtureSet_eq] at hshow ⊢
  cases hpass : firstFailure (configChecks s ++ fixtureChecks p s) with
  | some c => rwa [checked_of_some _ _ hpass]
  | none =>
    rw [checked_of_none _ _ hpass] at hshow ⊢
    have hstore : (s.setFixture p.fixture.toNat (fixtureAsked p s)).store = s.store := by
      rw [State.setFixture_eq, State.modifyFixture_store, State.writeSlots_eq, State.moveClaims_store]
    refine State.ownersOk_of_mapOk hshow hstore (State.mapOk_setFixture ?_ fun hpresent => ?_) hs
    · have hrange := check_passes (b := decide (511 < p.fixture.toNat) || (yesNoOf p.present).isNone) .badParam hpass
        (by simp [fixtureChecks])
      rw [Bool.or_eq_false_iff, decide_eq_false_iff_not] at hrange
      omega
    · have hyes : decide (p.present = 1) = true := by
        by_contra hno
        rw [fixtureAsked, if_neg hno] at hpresent
        cases hpresent
      have hcoded := check_passes (b := decide (p.present = 1) && (fixtureConfigOf p).isNone) .badParam hpass
        (by simp [fixtureChecks])
      have hlast := check_passes (b := decide (p.present = 1) && decide (512 < (fixtureAsked p s).lastSlot))
        .slotConflict hpass (by simp [fixtureChecks])
      have hslots := check_passes (b := decide (p.present = 1)
          && decide ((s.line (fixtureAsked p s).line).cfg.slots < (fixtureAsked p s).lastSlot)) .badParam hpass
        (by simp [fixtureChecks])
      have hfree := check_passes (b := decide (p.present = 1) && (fixtureSlots (fixtureAsked p s)).any fun i =>
          s.conflict (fixtureAsked p s).line i (SlotOwner.isFixture p.fixture.toNat)) .slotConflict hpass
        (by simp [fixtureChecks])
      rw [hyes, Bool.true_and] at hcoded hlast hslots hfree
      obtain ⟨c, hc⟩ := Option.isSome_iff_exists.1 (show (fixtureConfigOf p).isSome = true by simpa using hcoded)
      have hasked : fixtureAsked p s = c := by simp [fixtureAsked, of_decide_eq_true hyes, hc]
      obtain ⟨hline, hfirst⟩ := fixtureConfigOf_range hc
      rw [hasked] at hlast hslots hfree ⊢
      exact ⟨hline, hfirst, by simpa using hlast, by simpa using hslots, by simpa using hfree⟩

/-! ### LINE_SET -/

/-- LINE_SET replaces the configuration and leaves the owner map. -/
theorem Line.configure_same (c : LineConfig) (x : Line) : (x.configure c).cfg = c ∧ (x.configure c).owner = x.owner := by
  unfold Line.configure
  dsimp only
  split <;> exact ⟨rfl, rfl⟩

theorem Line.mem_owned_of_owner {x : Line} {i : Nat} (hlow : 1 ≤ i) (hhigh : i ≤ 512) (h : x.owner i ≠ .free) :
    i ∈ x.owned :=
  Line.mem_owned.2 ⟨i - 1, by omega, h, by omega⟩

/-- A line may take a slot count beyond which it owns no slot. -/
theorem State.mapOk_configureLine {p : LineSetParams} {s : State}
    (hslots : ∀ i ∈ (s.line p.line.toNat).owned, i ≤ p.slots.toNat) (h : s.mapOk) : (s.configureLine p).mapOk := by
  have hline (l : Nat) : (s.configureLine p).line l = _ := State.line_modifyLine ..
  have hclaims : (s.configureLine p).claims = s.claims := rfl
  unfold State.mapOk
  rw [hclaims]
  refine h.congr (fun l _ i _ _ => ?_) fun l _ i hlow hhigh howned hle => ?_
  · rw [hline]
    split
    · rw [(Line.configure_same ..).2]
    · rfl
  · rw [hline]
    split
    next hl =>
      rw [(Line.configure_same ..).1]
      exact hslots i (hl.1 ▸ Line.mem_owned_of_owner hlow hhigh howned)
    next => exact hle

theorem ownersOk_handleLineSet (p : LineSetParams) {s : State} (hs : s.ownersOk) : (handleLineSet p s).1.ownersOk := by
  have hshow := keepsShow_handleLineSet p s
  rw [handleLineSet_eq] at hshow ⊢
  cases hpass : firstFailure (configChecks s ++ lineChecks p s) with
  | some c => rwa [checked_of_some _ _ hpass]
  | none =>
    rw [checked_of_none _ _ hpass] at hshow ⊢
    have hslots := check_passes (b := (s.line p.line.toNat).owned.any (p.slots.toNat < ·)) .badParam hpass
      (by simp [lineChecks])
    exact State.ownersOk_of_mapOk hshow rfl (fun _ => State.mapOk_configureLine (by simpa using hslots)) hs

end Sys2Proof.Machine
end

section
/-! PROOF. The owner map that a full reset builds from a configuration, and the configuration that a save takes (R166, R200,
R201). -/
namespace Sys2Proof.Machine

/-! ### The map built from a configuration -/

/-- What each holder claims under a site configuration. -/
def SiteConfig.claims (c : SiteConfig) : Holder → Option (Nat × Claims) :=
  holderClaim (fun n => c.nozzles.getD n NozzleConfig.blank) fun f => c.fixtures.getD f FixtureConfig.blank

/-- The claims that start-up sets on line `l` (R201). -/
def SiteConfig.claimsOn (c : SiteConfig) (l : Nat) : Claims := nozzleClaimsOn l c.nozzles ++ fixtureClaimsOn l c.fixtures

theorem owner_startLine (c : SiteConfig) (l : Nat) (lc : LineConfig) :
    (startLine c l lc).owner = ((Line.off lc).claim (c.claimsOn l)).owner := by
  unfold startLine
  dsimp only
  split <;> rfl

/-- What the entries of a list give, each with its place. -/
theorem mem_flatMap_zipIdx {α β : Type} {as : List α} {g : Nat → α → List β} {x : β} (d : α) :
    (x ∈ as.zipIdx.flatMap fun ai => g ai.2 ai.1) ↔ ∃ n < as.length, x ∈ g n (as.getD n d) := by
  simp only [List.mem_flatMap, Prod.exists, List.mem_zipIdx_iff_getElem?]
  constructor
  · rintro ⟨a, n, ha, hx⟩
    obtain ⟨hn, rfl⟩ := List.getElem?_eq_some_iff.1 ha
    exact ⟨n, hn, by rwa [List.getD_eq_getElem _ _ hn]⟩
  · rintro ⟨n, hn, hx⟩
    exact ⟨_, n, List.getElem?_eq_getElem hn, by rwa [List.getD_eq_getElem _ _ hn] at hx⟩

theorem mem_nozzleClaimsOn {l i : Nat} {ns : List NozzleConfig} {o : SlotOwner} (hlen : ns.length = 384) :
    (i, o) ∈ nozzleClaimsOn l ns ↔ ∃ n < 384, Takes (nozzleClaim n (ns.getD n NozzleConfig.blank)) l i o := by
  rw [nozzleClaimsOn, mem_flatMap_zipIdx (g := fun n c => if c.present ∧ c.line = l then valveClaims n c else [])
    NozzleConfig.blank, hlen]
  refine exists_congr fun n => and_congr_right fun _ => ?_
  rw [List.mem_ite_nil_right, and_assoc, takes_nozzleClaim]
  simp [valveClaims, eq_comm (a := i)]

theorem mem_fixtureClaimsOn {l i : Nat} {fs : List FixtureConfig} {o : SlotOwner} (hlen : fs.length = 512) :
    (i, o) ∈ fixtureClaimsOn l fs ↔ ∃ f < 512, Takes (fixtureClaim f (fs.getD f FixtureConfig.blank)) l i o := by
  rw [fixtureClaimsOn, mem_flatMap_zipIdx (g := fun f c => if c.present ∧ c.line = l then fixtureClaims f c else [])
    FixtureConfig.blank, hlen]
  refine exists_congr fun f => and_congr_right fun _ => ?_
  rw [List.mem_ite_nil_right, and_assoc, mem_fixtureClaims, takes_fixtureClaim]

/-- Start-up sets what the holders claim. -/
theorem SiteConfig.mem_claimsOn {c : SiteConfig} (hz : c.sized) {l i : Nat} {o : SlotOwner} :
    (i, o) ∈ c.claimsOn l ↔ ∃ k, Takes (c.claims k) l i o := by
  obtain ⟨hnozzles, -, -, -, hfixtures, -⟩ := hz
  rw [SiteConfig.claimsOn, List.mem_append, mem_nozzleClaimsOn hnozzles, mem_fixtureClaimsOn hfixtures]
  constructor
  · rintro (⟨n, h⟩ | ⟨f, h⟩)
    · exact ⟨.nozzle n, takes_holderClaim_nozzle.2 h⟩
    · exact ⟨.fixture f, takes_holderClaim_fixture.2 h⟩
  · rintro ⟨n | f, h⟩
    · exact .inl ⟨n, takes_holderClaim_nozzle.1 h⟩
    · exact .inr ⟨f, takes_holderClaim_fixture.1 h⟩

/-- Start-up builds the one map that agrees with the configuration, whatever map does. -/
theorem SiteConfig.owner_startLine_of_agrees {c : SiteConfig} (hz : c.sized) {slots : Nat → Nat}
    {owner : Nat → Nat → SlotOwner} (h : MapAgrees c.claims slots owner) {l i : Nat} (hl : l < 4) (hlow : 1 ≤ i)
    (hhigh : i ≤ 512) (lc : LineConfig) : (startLine c l lc).owner i = owner l i := by
  have hpos (x : Nat × SlotOwner) (hx : x ∈ c.claimsOn l) : 1 ≤ x.1 := by
    obtain ⟨k, hk⟩ := (SiteConfig.mem_claimsOn hz).1 hx
    obtain ⟨-, hle, -⟩ := h.inRange hk
    exact hle
  have hentry {o : SlotOwner} (ho : (i, o) ∈ c.claimsOn l) : owner l i = o := by
    obtain ⟨k, hk⟩ := (SiteConfig.mem_claimsOn hz).1 ho
    exact h.owns hk
  rw [owner_startLine]
  by_cases hclaimed : (i, owner l i) ∈ c.claimsOn l
  · refine Line.owner_claim_of_mem hlow ?_ hpos hclaimed fun p hp => (hentry hp).symm
    obtain ⟨-, -, hlen⟩ := Line.sized_off lc
    omega
  · have hfree : owner l i = .free := by
      by_contra howned
      exact hclaimed ((SiteConfig.mem_claimsOn hz).2 (h.owned hl hlow hhigh howned).2)
    rw [Line.owner_claim_of_not_mem hlow hpos fun o ho => hclaimed (hentry ho ▸ ho), Line.owner_off, hfree]

/-- A configuration that some map agrees with makes such a map. -/
theorem SiteConfig.ownersOk_of_agrees {c : SiteConfig} (hz : c.sized) {slots : Nat → Nat} {owner : Nat → Nat → SlotOwner}
    (h : MapAgrees c.claims slots owner) (hslots : ∀ l < 4, slots l = (c.lines.getD l LineConfig.blank).slots) :
    c.ownersOk :=
  ownerMapOk_iff.2 <| h.congr (fun l hl i hlow hhigh => SiteConfig.owner_startLine_of_agrees hz h hl hlow hhigh _)
    fun l hl i _ _ _ hle => by rwa [← hslots l hl]

/-! ### STORE_SAVE and its completion -/

/-- The configuration in force makes the owner map in force. -/
theorem State.ownersOk_siteConfig {s : State} (hz : s.sized) (h : s.mapOk) : s.siteConfig.ownersOk := by
  have hnozzle (n : Nat) : s.siteConfig.nozzles.getD n NozzleConfig.blank = (s.nozzle n).cfg :=
    List.getD_map s.nozzles.table Nozzle.blank Nozzle.cfg
  have hfixture (f : Nat) : s.siteConfig.fixtures.getD f FixtureConfig.blank = (s.fixture f).cfg :=
    List.getD_map s.lights.table Fixture.blank Fixture.cfg
  have hline (l : Nat) : s.siteConfig.lines.getD l LineConfig.blank = (s.line l).cfg :=
    List.getD_map s.lines Line.blank Line.cfg
  have hclaims : s.siteConfig.claims = s.claims := by
    unfold SiteConfig.claims State.claims
    simp only [hnozzle, hfixture]
  have hagrees : MapAgrees s.siteConfig.claims (fun l => (s.line l).cfg.slots) fun l => (s.line l).owner := by
    rw [hclaims]
    exact h
  exact SiteConfig.ownersOk_of_agrees (State.siteConfig_sized hz) hagrees fun l _ => by rw [hline]

theorem ownersOk_handleStoreSave {s : State} (hs : s.ownersOk) : (handleStoreSave s).1.ownersOk := by
  have hshow := keepsShow_handleStoreSave s
  unfold handleStoreSave at hshow ⊢
  cases hpass : firstFailure (configChecks s) with
  | some c => rwa [checked_of_some _ _ hpass]
  | none =>
    rw [checked_of_none _ _ hpass] at hshow ⊢
    obtain ⟨hz, hmap, himage, -⟩ := State.ownersOk_iff.1 hs
    exact State.ownersOk_iff.2 ⟨hshow.sized hz, hmap, himage, State.ownersOk_siteConfig hz hmap⟩

theorem State.ownersOk_takeSave {s : State} (hs : s.ownersOk) : s.takeSave.ownersOk := by
  have hsized := s.keepsShow_takeSave.sized
  unfold State.takeSave at hsized ⊢
  split at hsized
  next h =>
    obtain ⟨hz, hmap, -, hsnapshot⟩ := State.ownersOk_iff.1 hs
    rw [if_pos h]
    exact State.ownersOk_iff.2 ⟨hsized hz, hmap, hsnapshot, hsnapshot⟩
  next h => rwa [if_neg h]

/-! ### Full reset -/

theorem ConfigStore.ownersOk_loaded {c : ConfigStore} (h : c.image.ownersOk) : c.loaded.ownersOk := by
  unfold ConfigStore.loaded
  split
  · exact h
  · exact SiteConfig.ownersOk_defaults

theorem nozzle_startUp (store : ConfigStore) (n : Nat) :
    ((startUp store).nozzle n).cfg = store.loaded.nozzles.getD n NozzleConfig.blank := by
  simp only [State.nozzle, startUp, List.getD_eq_getElem?_getD, List.getElem?_map]
  cases store.loaded.nozzles[n]? <;> rfl

theorem fixture_startUp (store : ConfigStore) (f : Nat) :
    ((startUp store).fixture f).cfg = store.loaded.fixtures.getD f FixtureConfig.blank := by
  simp only [State.fixture, startUp, List.getD_eq_getElem?_getD, List.getElem?_map]
  cases store.loaded.fixtures[f]? <;> rfl

/-- Each line starts up under its loaded configuration (R201). -/
theorem line_startUp {store : ConfigStore} {l : Nat} (hl : l < store.loaded.lines.length) : (startUp store).line l =
    startLine store.loaded l (store.loaded.lines.getD l LineConfig.blank) := by
  simp only [State.line, startUp, List.getD_eq_getElem?_getD, List.getElem?_map, List.getElem?_zipIdx,
    List.getElem?_eq_getElem hl, Nat.zero_add, Option.map_some, Option.getD_some]

theorem startLine_cfg (c : SiteConfig) (l : Nat) (lc : LineConfig) : (startLine c l lc).cfg = lc := by
  unfold startLine
  dsimp only
  split <;> rfl

/-- A full reset puts the map of the loaded configuration in force. -/
theorem mapOk_startUp {store : ConfigStore} (hz : store.image.sized) (h : store.image.ownersOk) : (startUp store).mapOk := by
  obtain ⟨-, -, -, -, -, hlines⟩ := ConfigStore.sized_loaded hz
  have hline {l : Nat} (hl : l < 4) := line_startUp (store := store) (hlines.symm ▸ hl)
  have hclaims : (startUp store).claims = store.loaded.claims := by
    unfold State.claims SiteConfig.claims
    simp only [nozzle_startUp, fixture_startUp]
  unfold State.mapOk
  rw [hclaims]
  refine (ownerMapOk_iff.1 (ConfigStore.ownersOk_loaded h)).congr (fun l hl i _ _ => ?_) fun l hl i _ _ _ hle => ?_
  · rw [hline hl]
  · rwa [hline hl, startLine_cfg]

theorem State.ownersOk_fullReset {s : State} (hs : s.ownersOk) :
    State.ownersOk { startUp s.store with pending := s.pending } := by
  obtain ⟨hz, -, himage, -⟩ := State.ownersOk_iff.1 hs
  have hsized := s.keepsShow_fullReset.sized hz
  obtain ⟨-, -, -, -, -, -, -, -, -, -, -, -, -, -, hzimage, -⟩ := hz
  exact State.ownersOk_iff.2 ⟨hsized, mapOk_startUp hzimage himage, himage, SiteConfig.ownersOk_defaults⟩

end Sys2Proof.Machine
end

section
/-! PROOF. Who touches the slot owner maps: all but NOZZLE_SET, FIXTURE_SET, LINE_SET, STORE_SAVE, the completion of a save
and a full reset leave them and what they are built from. -/
namespace Sys2Proof.Machine

/-- What the owner maps of a state are read off: the configurations of the nozzles and fixtures, the slot counts and the
owner maps of the lines, and the image and the snapshot of the Configuration Store. -/
def State.ownership (s : State) : (Nat → NozzleConfig) × (Nat → FixtureConfig) × (Nat → Nat) × (Nat → Nat → SlotOwner)
    × SiteConfig × SiteConfig :=
  (fun n => (s.nozzle n).cfg, fun f => (s.fixture f).cfg, fun l => (s.line l).cfg.slots, fun l => (s.line l).owner,
    s.store.image, s.store.snapshot)

/-- A change that keeps the sizes and leaves the maps keeps what is promised of them. -/
theorem State.ownersOk_of_ownership {s t : State} (hsized : s.sized → t.sized) (h : s.sized → t.ownership = s.ownership)
    (hs : s.ownersOk) : t.ownersOk := by
  obtain ⟨hz, hmap, hstore⟩ := hs
  obtain ⟨hnozzle, hfixture, hslots, howner, himage, hsnapshot⟩ := by simpa [State.ownership] using h hz
  refine ⟨hsized hz, ?_, by rwa [himage, hsnapshot]⟩
  rwa [hnozzle, hfixture, hslots, howner]

/-! ### Shared operations -/

theorem State.ownership_raiseIf (b : Bool) (e : Event) (s : State) : (s.raiseIf b e).ownership = s.ownership := by
  cases b <;> rfl

theorem State.ownership_modifyDue (f : Due → Due) (s : State) : (s.modifyDue f).ownership = s.ownership := rfl

/-- What every pass of a loop leaves of the maps, the loop leaves. -/
theorem ownership_forEach {α : Type} {f : α → State → State} (h : ∀ a s, (f a s).ownership = State.ownership s) (l : List α)
    (s : State) : (forEach l f s).ownership = s.ownership :=
  forEach_same State.ownership l f (fun a _ => h a) s

theorem ownership_ite {c : Prop} [Decidable c] {s t u : State} (ht : t.ownership = s.ownership)
    (hu : u.ownership = s.ownership) : (if c then t else u).ownership = s.ownership := by
  split
  · exact ht
  · exact hu

theorem ownership_checked {l : List (Bool × ResultCode)} {go : Handler} {s : State}
    (h : (go s).1.ownership = s.ownership) : (checked l go s).1.ownership = s.ownership := by
  cases hl : firstFailure l with
  | none => rwa [checked_of_none go s hl]
  | some c => rw [checked_of_some go s hl]

/-! ### The effect table and the show state (chapters 1 to 3) -/

theorem State.RecordChange.ownership {i : Nat} {k : EffectRecord → Option EffectRecord} {s t : State}
    (h : s.RecordChange i k t) : t.ownership = s.ownership := by
  obtain ⟨_, rfl⟩ := h.outside
  rfl

theorem State.ownership_takeEffects (s : State) : s.takeEffects.ownership = s.ownership := by
  obtain ⟨_, _, h⟩ := s.takeEffects_outside
  rw [h]
  rfl

theorem State.ownership_takeEffectsIf (makes : ShowTime → State → Bool) (s : State) :
    (s.takeEffectsIf makes).ownership = s.ownership := ownership_ite s.ownership_takeEffects rfl

theorem State.ownership_takeEnvelope (s : State) : s.takeEnvelope.ownership = s.ownership := by
  obtain ⟨_, h⟩ := s.takeEnvelope_outside
  rw [h]
  rfl

theorem ownership_handleEffectAdd (p : EffectAddParams) (s : State) :
    (handleEffectAdd p s).1.ownership = s.ownership := by
  have hplaced (i : Nat) (evicted : Half) (r : EffectRecord) (u : State) :
      (addAt i evicted r u).1.ownership = u.ownership := rfl
  unfold handleEffectAdd
  split
  · rfl
  refine ownership_checked ?_
  split
  · exact hplaced ..
  split
  · exact (hplaced ..).trans (s.freeRecord_change _).ownership
  · rfl

theorem State.ownership_editAtOnce (i : Nat) (r : EffectRecord) (f : EditFields) (s : State) :
    (s.editAtOnce i r f).ownership = s.ownership := by
  unfold State.editAtOnce
  cases f.group <;> rfl

theorem State.ownership_stageEdit (i : Nat) (r : EffectRecord) (f : EditFields) (boundary : ShowTime) (s : State) :
    (s.stageEdit i r f boundary).ownership = s.ownership := by
  have hdrop (g : Option Nat) (u : State) : (u.dropRef? g).ownership = u.ownership := by cases g <;> rfl
  unfold State.stageEdit
  cases r.edit with
  | none => cases f.group <;> rfl
  | some e =>
    cases f.group with
    | none => rfl
    | some g => exact hdrop _ (s.addRef g)

theorem ownership_handleEffectEdit (h : Half) (timing : Byte) (t : Quad) (set : Half) (v : EditValues) (s : State) :
    (handleEffectEdit h timing t set v s).1.ownership = s.ownership := by
  unfold handleEffectEdit
  split
  · split
    · rfl
    refine ownership_checked ?_
    unfold editAccepted
    dsimp only
    split
    · exact State.ownership_editAtOnce ..
    split
    · exact State.ownership_stageEdit ..
    · rfl
  · rfl

theorem ownership_handleEffectRetire (h : Half) (mode : Byte) (s : State) :
    (handleEffectRetire h mode s).1.ownership = s.ownership := by
  unfold handleEffectRetire
  split
  · rfl
  split
  · rfl
  split
  · exact (s.freeRecord_change _).ownership
  split
  · exact (State.imposeFade_change ..).ownership
  · rfl

theorem ownership_handleEffectQuery (h : Half) (s : State) : (handleEffectQuery h s).1.ownership = s.ownership := by
  unfold handleEffectQuery
  split <;> rfl

theorem ownership_handleGroupDefine (g kind : Byte) (members : List Half) (s : State) :
    (handleGroupDefine g kind members s).1.ownership = s.ownership := by
  unfold handleGroupDefine
  split
  · rfl
  · exact ownership_checked rfl

theorem State.ownership_releaseHeld (d : Nat) (s : State) : (s.releaseHeld d).ownership = s.ownership := by
  obtain ⟨_, _, h, -⟩ := s.releaseHeld_eq d
  rw [h]
  rfl

theorem State.ownership_emptyDeck (d : Nat) (s : State) : (s.emptyDeck d).ownership = s.ownership :=
  s.ownership_releaseHeld d

theorem State.ownership_clearEffects (s : State) : s.clearEffects.ownership = s.ownership := by
  have hpass := ownership_forEach (fun i s => (s.freeRecord_change i).ownership) (List.range 256) s
  unfold State.clearEffects
  generalize forEach (List.range 256) State.freeRecord s = u at hpass ⊢
  exact hpass

theorem State.ownership_enterStopped (s : State) : s.enterStopped.ownership = s.ownership := by
  by_cases h : s.timer.showState = .stopped
  · rw [State.enterStopped_of_stopped h]
  · have hdecks := (ownership_forEach (f := State.stopDeck) (fun d s => ownership_ite (s.ownership_emptyDeck d) rfl) [0, 1]
      s.clearEffects).trans s.ownership_clearEffects
    generalize hu : forEach [0, 1] State.stopDeck s.clearEffects = u at hdecks
    rw [State.enterStopped_eq h hu]
    exact hdecks

theorem State.ownership_enterEnding (fade : Nat) (s : State) : (s.enterEnding fade).ownership = s.ownership := by
  have hpass := ownership_forEach (fun i u => (u.endRecord_change s.timer.clock fade i).ownership) (List.range 256) s
  generalize hu : forEach (List.range 256) (State.endRecord s.timer.clock fade) s = u at hpass
  rw [State.enterEnding_eq hu]
  exact hpass

theorem State.ownership_endShow (ms : Nat) (s : State) : (s.endShow ms).ownership = s.ownership :=
  ownership_ite s.ownership_enterStopped (s.ownership_enterEnding _)

theorem State.ownership_takeEndTime (s : State) : s.takeEndTime.ownership = s.ownership :=
  ownership_ite s.ownership_enterStopped rfl

theorem State.ownership_takeSilence (s : State) : s.takeSilence.ownership = s.ownership :=
  ownership_ite (s.ownership_endShow _) rfl

theorem State.ownership_assertStop (s : State) : s.assertStop.ownership = s.ownership := State.ownership_enterStopped _

theorem State.ownership_takeStop (s : State) : s.takeStop.ownership = s.ownership :=
  ownership_ite s.ownership_assertStop rfl

theorem State.ownership_takeShowEnds (s : State) : s.takeShowEnds.ownership = s.ownership :=
  (State.ownership_takeEndTime _).trans ((State.ownership_takeSilence _).trans s.ownership_takeStop)

/-! ### Nozzles, lights and lines (chapters 4, 7 and 8) -/

/-- A change that leaves each thing the maps are read off, entry by entry. -/
theorem State.ownership_of_entries {s t : State} (hnozzles : ∀ n, (t.nozzle n).cfg = (s.nozzle n).cfg)
    (hfixtures : ∀ f, (t.fixture f).cfg = (s.fixture f).cfg)
    (hlines : ∀ l, (t.line l).cfg = (s.line l).cfg ∧ (t.line l).owner = (s.line l).owner)
    (himage : t.store.image = s.store.image) (hsnapshot : t.store.snapshot = s.store.snapshot) :
    t.ownership = s.ownership := by
  simp only [State.ownership, hnozzles, hfixtures, (hlines _).1, (hlines _).2, himage, hsnapshot]

theorem State.ownership_writeSlots (n : Nat) (values : SlotValues) (s : State) :
    (s.writeSlots n values).ownership = s.ownership :=
  State.ownership_of_entries (fun _ => by rw [State.writeSlots_eq]; rfl) (fun _ => by rw [State.writeSlots_eq]; rfl)
    (s.line_writeSlots_same n values) (by rw [State.writeSlots_eq]) (by rw [State.writeSlots_eq])

theorem Line.gapEnd_same (x : Line) : x.gapEnd.cfg = x.cfg ∧ x.gapEnd.owner = x.owner := by
  unfold Line.gapEnd
  split
  · split <;> exact ⟨rfl, rfl⟩
  · exact ⟨rfl, rfl⟩

theorem State.ownership_takeGapEnd (n : Nat) (s : State) : (s.takeGapEnd n).ownership = s.ownership := by
  refine State.ownership_of_entries (fun _ => rfl) (fun _ => rfl) (fun l => ?_) rfl rfl
  rw [State.takeGapEnd, State.line_modifyLine]
  split
  · exact Line.gapEnd_same _
  · exact ⟨rfl, rfl⟩

/-- A jet frame writes live fields and slot values (R88, R90). -/
theorem State.ownership_jetFrame (s : State) : s.jetFrame.ownership = s.ownership := by
  have hcfg (n : Nat) : (s.jetFrame.nozzle n).cfg = (s.nozzle n).cfg := by rw [State.nozzle_jetFrame, State.framed_cfg]
  have htables : State.ownership { s with
      nozzles := { s.nozzles with table := s.newTable, frames := s.newFrames }
      pumps := { s.pumps with manifolds := report s.newFrames s.pumps.manifolds }
      effects := { s.effects with slots := s.summarise s.newTable s.effects.slots } } = s.ownership := by
    refine State.ownership_of_entries (fun n => ?_) (fun _ => rfl) (fun _ => ⟨rfl, rfl⟩) rfl rfl
    rw [← hcfg n, State.nozzle, State.nozzle, State.jetFrame_nozzles]
  exact (State.ownership_raiseIf ..).trans
    ((ownership_forEach (fun l s => State.ownership_writeSlots l _ s) (List.range 4) _).trans htables)

theorem State.ownership_takeJet (s : State) : s.takeJet.ownership = s.ownership := by
  refine ownership_ite ?_ rfl
  rw [State.ownership_modifyDue, State.ownership_jetFrame, State.ownership_takeEffects, State.ownership_takeEnvelope]

/-- A light computation writes live fields and slot values (R155). -/
theorem State.ownership_lightCompute (s : State) : s.lightCompute.ownership = s.ownership := by
  have hlit (n : Nat) (x : Fixture) : (s.lit n x).cfg = x.cfg := by
    unfold State.lit
    split <;> rfl
  have hcfg (f : Nat) : (s.lightCompute.fixture f).cfg = (s.fixture f).cfg := by rw [State.fixture_lightCompute, hlit]
  have htable : State.ownership { s with lights := { s.lights with table := s.litTable } } = s.ownership := by
    refine State.ownership_of_entries (fun _ => rfl) (fun f => ?_) (fun _ => ⟨rfl, rfl⟩) rfl rfl
    rw [← hcfg f, State.fixture, State.fixture, State.lightCompute_lights]
  exact (ownership_forEach (fun l s => State.ownership_writeSlots l _ s) (List.range 4) _).trans htable

theorem State.ownership_takeLight (s : State) : s.takeLight.ownership = s.ownership := by
  refine ownership_ite ?_ rfl
  rw [State.ownership_modifyDue, State.ownership_lightCompute, State.ownership_takeEffects,
    State.ownership_takeEnvelope]

/-! ### The pumps (chapter 5) -/

/-- A pump update is to the pumps and the event summary alone (R106). -/
theorem State.ownership_takePumps {s : State} (hz : s.sized) : s.takePumps.ownership = s.ownership := by
  refine ownership_ite ?_ rfl
  rw [(State.updateFrame_pumpUpdate hz).outside]
  rfl

theorem State.ownership_lockOut (n : Nat) (s : State) : (s.lockOut n).ownership = s.ownership := by
  unfold State.lockOut
  split <;> rfl

/-! ### The site (chapter 6) -/

theorem State.ownership_stopZones (k : Nat) (s : State) : (s.stopZones k).ownership = s.ownership :=
  (State.ownership_raiseIf ..).trans (ownership_forEach (f := fun z u => u.modifyZone z _) (fun _ _ => rfl) _ s)

theorem State.ownership_takePresence (k : Nat) (s : State) : (s.takePresence k).ownership = s.ownership :=
  ownership_ite rfl (ownership_ite (State.ownership_stopZones k _) rfl)

theorem State.ownership_setZone (p : ZoneSetParams) (s : State) : (s.setZone p).ownership = s.ownership := by
  have hzone : (s.configureZone p).ownership = s.ownership := by
    rw [State.configureZone_frame]
    rfl
  cases hk : (zoneConfigOf p).presence with
  | none => rwa [State.setZone_of_none hk]
  | some k =>
    rw [State.setZone_of_some hk]
    exact ownership_ite ((State.ownership_stopZones ..).trans hzone) hzone

theorem State.ownership_takeWind (s : State) : s.takeWind.ownership = s.ownership :=
  ownership_ite (State.ownership_raiseIf ..) rfl

theorem State.ownership_takeLevelLow (s : State) : s.takeLevelLow.ownership = s.ownership := ownership_ite rfl rfl

theorem State.ownership_takeLevelRestored (s : State) : s.takeLevelRestored.ownership = s.ownership := ownership_ite rfl rfl

/-! ### Clips and decks (chapter 9) -/

theorem State.DeckChange.ownership {d : Nat} {s t : State} (h : s.DeckChange d t) : t.ownership = s.ownership := by
  obtain ⟨_, _, _, _, rfl⟩ := h.outside
  rfl

theorem State.ownership_takeDeckPeriod (s : State) : s.takeDeckPeriod.ownership = s.ownership := by
  have hdecks := ownership_forEach (fun d s => (s.deckChange_processDeck d).ownership) [0, 1] s.takeShowEnds
  rcases s.takeDeckPeriod_eq with ⟨-, h⟩ | ⟨-, -, h⟩ | ⟨-, -, h⟩ <;> rw [h]
  · exact s.ownership_takeShowEnds
  · rw [State.ownership_modifyDue, hdecks, s.ownership_takeShowEnds]

theorem State.ownership_takeDeckStop (d : Nat) (s : State) : (s.takeDeckStop d).ownership = s.ownership :=
  (s.deckChange_takeDeckStop d).ownership

theorem State.ownership_stopDeckBy (d ramp : Nat) (s : State) : (s.stopDeckBy d ramp).ownership = s.ownership := by
  have hends : (s.endDeckNow d).ownership = s.ownership := (s.deckChange_endDeckNow d).ownership
  unfold State.stopDeckBy
  dsimp only
  split
  · rfl
  · exact s.ownership_emptyDeck d
  · exact s.ownership_emptyDeck d
  · exact ownership_ite hends rfl
  · exact ownership_ite hends rfl

theorem ownership_handleClipRetire (h : Half) (s : State) : (handleClipRetire h s).1.ownership = s.ownership := by
  unfold handleClipRetire
  split
  · rfl
  · split <;> rfl

theorem ownership_handleClipQuery (h : Half) (s : State) : (handleClipQuery h s).1.ownership = s.ownership := by
  unfold handleClipQuery
  split
  · rfl
  · split <;> rfl

theorem State.ownership_judgeBlock (transfer : List Byte) (s : State) :
    (s.judgeBlock transfer).ownership = s.ownership := by
  have haccept (i : Nat) (c : Clip) (page : Nat) (data : List Byte) :
      (s.acceptBlock i c page data).ownership = s.ownership := State.ownership_raiseIf ..
  unfold State.judgeBlock
  split
  · rfl
  split
  · rfl
  split
  · rfl
  · exact ownership_ite rfl (ownership_ite rfl (ownership_ite rfl (haccept ..)))

theorem State.ownership_clipPacket (packet : List Byte) (s : State) : (s.clipPacket packet).ownership = s.ownership :=
  ownership_ite (ownership_ite (State.ownership_judgeBlock ..) rfl) rfl

/-! ### The link (chapter 10) -/

theorem State.ownership_pollReply (accepted : Bool) (s : State) : (s.pollReply accepted).ownership = s.ownership := by
  unfold State.pollReply
  split
  · split <;> rfl
  · rfl

theorem State.ownership_pollNotice (accepted : Bool) (s : State) : (s.pollNotice accepted).ownership = s.ownership := by
  unfold State.pollNotice
  refine ownership_ite ?_ rfl
  split
  · rfl
  · exact ownership_ite rfl rfl

/-! ### The sample period (R1) -/

theorem State.ownership_countPeriod (s : State) : s.countPeriod.ownership = s.ownership := by
  refine State.ownership_of_entries (fun _ => rfl) (fun _ => rfl) (fun l => ?_) rfl rfl
  have hline : s.countPeriod.line l = (s.line l).count := List.getD_map (n := l) s.lines Line.blank Line.count
  rw [hline, Line.count]
  split <;> exact ⟨rfl, rfl⟩

end Sys2Proof.Machine
end

section
/-! PROOF. Every step keeps the slot owner maps (R166): chapter by chapter by what leaves them, and by the commands and
events that build them anew. -/
namespace Sys2Proof.Machine

/-! ### The sample period -/

/-- From `s` to `t` the sizes are kept and the owner maps stand. -/
structure State.LeavesOwners (s t : State) : Prop where
  sized : s.sized → t.sized
  same : s.sized → t.ownership = s.ownership

theorem State.LeavesOwners.trans {s t u : State} (h : s.LeavesOwners t) (k : t.LeavesOwners u) : s.LeavesOwners u :=
  ⟨k.sized ∘ h.sized, fun hz => (k.same (h.sized hz)).trans (h.same hz)⟩

theorem State.LeavesOwners.ownersOk {s t : State} (h : s.LeavesOwners t) : s.ownersOk → t.ownersOk :=
  State.ownersOk_of_ownership h.sized h.same

/-- A change of which both are known. -/
theorem State.KeepsShow.leavesOwners {s t : State} (hshow : s.KeepsShow t) (h : t.ownership = s.ownership) :
    s.LeavesOwners t := ⟨hshow.sized, fun _ => h⟩

theorem State.leavesOwners_takePumps (s : State) : s.LeavesOwners s.takePumps :=
  ⟨s.keepsShow_takePumps.sized, State.ownership_takePumps⟩

/-- What is settled before the completion of a save leaves the maps. -/
theorem State.leavesOwners_settledToJet (s : State) : s.LeavesOwners s.settledToJet :=
  ((State.keepsShow_forEach _ _ State.keepsShow_takeGapEnd s).leavesOwners
    (ownership_forEach State.ownership_takeGapEnd _ s)).trans <|
  ((State.keepsShow_takeEnvelope _).leavesOwners (State.ownership_takeEnvelope _)).trans <|
  ((State.keepsShow_forEach _ _ State.keepsShow_takePresence _).leavesOwners
    (ownership_forEach State.ownership_takePresence _ _)).trans <|
  ((State.keepsShow_takeStop _).leavesOwners (State.ownership_takeStop _)).trans <|
  ((State.keepsShow_takeLevelLow _).leavesOwners (State.ownership_takeLevelLow _)).trans <|
  ((State.keepsShow_takeLevelRestored _).leavesOwners (State.ownership_takeLevelRestored _)).trans <|
  ((State.keepsShow_takeSilence _).leavesOwners (State.ownership_takeSilence _)).trans <|
  ((State.keepsShow_takeEndTime _).leavesOwners (State.ownership_takeEndTime _)).trans <|
  ((State.keepsShow_takeEffects _).leavesOwners (State.ownership_takeEffects _)).trans <|
  ((State.keepsShow_takeWind _).leavesOwners (State.ownership_takeWind _)).trans <|
  State.leavesOwners_takePumps _

theorem State.ownersOk_settle {s : State} (hs : s.ownersOk) : s.settle.ownersOk := by
  have hframes : s.LeavesOwners s.settledToJet.takeJet.takeLight :=
    s.leavesOwners_settledToJet.trans <|
      ((State.keepsShow_takeJet _).leavesOwners (State.ownership_takeJet _)).trans <|
      (State.keepsShow_takeLight _).leavesOwners (State.ownership_takeLight _)
  rw [State.settle_eq]
  exact State.ownersOk_takeSave (hframes.ownersOk hs)

theorem State.ownersOk_samplePeriod (i : Inputs) {s : State} (hs : s.ownersOk) : (s.samplePeriod i).ownersOk := by
  have hperiod : s.settle.LeavesOwners (s.samplePeriod i) :=
    ((State.keepsShow_takeDeckPeriod _).leavesOwners (State.ownership_takeDeckPeriod _)).trans <|
    ((State.keepsShow_mix _).leavesOwners rfl).trans <|
    ((State.keepsShow_forEach _ _ State.keepsShow_takeDeckStop _).leavesOwners
      (ownership_forEach State.ownership_takeDeckStop _ _)).trans <|
    ((State.keepsShow_sampleInputs i _).leavesOwners rfl).trans <|
    (State.keepsShow_countPeriod _).leavesOwners (State.ownership_countPeriod _)
  exact hperiod.ownersOk (State.ownersOk_settle hs)

/-! ### Commands -/

/-- The commands that replace what the owner maps are read off. -/
def isOwnerCommand : Instr → Bool
  | .nozzleSet _ | .fixtureSet _ | .lineSet _ | .storeSave => true
  | _ => false

/-- Every other command leaves the maps. -/
theorem ownership_handlerOf {c : Instr} {h : Handler} (hc : handlerOf c = some h) (howner : isOwnerCommand c = false)
    (s : State) : (h s).1.ownership = s.ownership := by
  cases c <;> cases hc
  case nozzleSet | fixtureSet | lineSet | storeSave => cases howner
  case showEnd => exact ownership_checked (s.ownership_endShow _)
  case showStop => exact s.ownership_enterStopped
  case effectAdd => exact ownership_handleEffectAdd _ s
  case effectEdit => exact ownership_handleEffectEdit _ _ _ _ _ s
  case effectRetire => exact ownership_handleEffectRetire _ _ s
  case effectQuery => exact ownership_handleEffectQuery _ s
  case groupDefine => exact ownership_handleGroupDefine _ _ _ s
  case pumpLockout => exact ownership_checked (s.ownership_lockOut _)
  case zoneSet => exact ownership_checked (s.ownership_setZone _)
  case zoneRelease => exact ownership_checked (ownership_forEach (f := fun z u => u.modifyZone z _) (fun _ _ => rfl) _ s)
  case clipRetire => exact ownership_handleClipRetire _ s
  case clipQuery => exact ownership_handleClipQuery _ s
  case deckCue => exact ownership_checked (s.ownership_releaseHeld _)
  case deckStop => exact ownership_checked (s.ownership_stopDeckBy ..)
  case deckQuery => exact ownership_checked s.ownership_takeEnvelope
  case audioSet => exact s.ownership_takeEnvelope
  case showQuery | linkQuery | storeQuery | lightMaster => rfl
  all_goals exact ownership_checked rfl

theorem ownersOk_ownerCommand {c : Instr} {h : Handler} (hc : handlerOf c = some h) (howner : isOwnerCommand c = true)
    {s : State} (hs : s.ownersOk) : (h s).1.ownersOk := by
  cases c <;> cases howner <;> cases hc
  case nozzleSet p => exact ownersOk_handleNozzleSet p hs
  case fixtureSet p => exact ownersOk_handleFixtureSet p hs
  case lineSet p => exact ownersOk_handleLineSet p hs
  case storeSave => exact ownersOk_handleStoreSave hs

theorem ownersOk_handlerOf {c : Instr} {h : Handler} (hc : handlerOf c = some h) {s : State} (hs : s.ownersOk) :
    (h s).1.ownersOk := by
  cases howner : isOwnerCommand c with
  | false => exact ((keepsShow_handlerOf hc s).leavesOwners (ownership_handlerOf hc howner s)).ownersOk hs
  | true => exact ownersOk_ownerCommand hc howner hs

theorem ownersOk_handlerOfTransfer (transfer : List Byte) {s : State} (hs : s.ownersOk) :
    (handlerOfTransfer transfer s).1.ownersOk := by
  unfold handlerOfTransfer
  cases frameTransfer transfer with
  | command c =>
    show ((handlerOf c).getD (refuse .unknownCommand) s).1.ownersOk
    cases hc : handlerOf c with
    | none => exact hs
    | some h => exact ownersOk_handlerOf hc hs
  | unknownCommand => exact hs
  | badLength => exact hs

/-- The link is not among what the maps are read off. -/
theorem State.ownersOk_setLink {s : State} (l : ShowLink) (hs : s.ownersOk) : State.ownersOk { s with link := l } := hs

theorem ownersOk_dispatch {h : Handler} (hh : ∀ {s : State}, s.ownersOk → (h s).1.ownersOk) {s : State} (hs : s.ownersOk) :
    (dispatch h s).ownersOk :=
  State.ownersOk_setLink _ (hh (State.ownersOk_setLink _ hs))

theorem ownersOk_takeCommand {h : Handler} (hh : ∀ {s : State}, s.ownersOk → (h s).1.ownersOk) {s : State}
    (hs : s.ownersOk) : (takeCommand h s).ownersOk := by
  unfold takeCommand
  split
  · exact ownersOk_dispatch hh hs
  · exact hs

/-! ### Events -/

theorem ownersOk_commandPacket (packet : List Byte) {s t : State} (hs : s.ownersOk)
    (h : exec (.commandPacket packet) s = .next t) : t.ownersOk := by
  rcases execCommandPacket_eq packet s with ⟨-, heq⟩ | ⟨-, -, heq⟩ | ⟨-, -, heq⟩ <;>
    obtain rfl := Host.Outcome.next.inj (heq.symm.trans h)
  · exact hs
  · exact State.ownersOk_setLink _ hs
  · exact ownersOk_dispatch (ownersOk_handlerOfTransfer _) hs

theorem ownersOk_malformedCommand (transfer : List Byte) {s t : State} (hs : s.ownersOk)
    (h : exec (.malformedCommand transfer) s = .next t) : t.ownersOk := by
  cases h
  split
  · exact ownersOk_takeCommand (h := refuse _) (fun hs => hs) hs
  · exact hs

/-- The events that build an owner map, and those that carry a command. -/
def isOwnerEvent : Instr → Bool
  | .fullReset | .samplePeriod _ | .saveCompletion | .commandPacket _ | .malformedCommand _ => true
  | _ => false

/-- Every other event leaves the maps. -/
theorem ownership_event {c : Instr} {s t : State} (hc : handlerOf c = none) (howner : isOwnerEvent c = false)
    (hz : s.sized) (h : exec c s = .next t) : t.ownership = s.ownership := by
  cases c <;> cases hc
  case fullReset | samplePeriod | saveCompletion | commandPacket | malformedCommand => cases howner
  all_goals cases h
  case clipBlock ps => exact ownership_forEach State.ownership_clipPacket ps s
  case replyPoll a => exact s.ownership_pollReply a
  case noticePoll a => exact s.ownership_pollNotice a
  case endTimeReached => exact s.ownership_takeEndTime
  case silenceTimerExpiry => exact s.ownership_takeSilence
  case effectBoundary => exact s.ownership_takeEffects
  case pendingEditApplied | effectStartReached | naturalEnd | fadeComplete => exact s.ownership_takeEffectsIf _
  case jetFrame => exact s.ownership_takeJet
  case envelopeUpdate => exact s.ownership_takeEnvelope
  case lightComputation => exact s.ownership_takeLight
  case pumpUpdate => exact State.ownership_takePumps hz
  case pumpStartTimeout | pumpStopTimeout | destage | startGrant =>
    exact ownership_ite (State.ownership_takePumps hz) rfl
  case windGate => exact s.ownership_takeWind
  case windHoldRelease => exact ownership_ite s.ownership_takeWind rfl
  case presenceDebounced k => exact s.ownership_takePresence k
  case emergencyStopAssertion => exact ownership_ite s.ownership_assertStop rfl
  case levelLow => exact s.ownership_takeLevelLow
  case levelRestored => exact s.ownership_takeLevelRestored
  case lineGapEnd l => exact s.ownership_takeGapEnd l
  case deckPeriod => exact s.ownership_takeDeckPeriod
  case deckBegin => exact ownership_ite s.ownership_takeDeckPeriod rfl
  case deckStopComplete d => exact s.ownership_takeDeckStop d
  case linkAttach | linkReset => rfl

theorem ownersOk_ownerEvent {c : Instr} {s t : State} (howner : isOwnerEvent c = true) (hs : s.ownersOk)
    (h : exec c s = .next t) : t.ownersOk := by
  cases c <;> cases howner
  case commandPacket packet => exact ownersOk_commandPacket packet hs h
  case malformedCommand transfer => exact ownersOk_malformedCommand transfer hs h
  case fullReset => cases h; exact State.ownersOk_fullReset hs
  case samplePeriod i =>
    have ht : s.samplePeriod i = t := Host.Outcome.next.inj h
    exact ht ▸ State.ownersOk_samplePeriod i hs
  case saveCompletion =>
    have ht : s.takeSave = t := Host.Outcome.next.inj h
    exact ht ▸ State.ownersOk_takeSave hs

/-! ### Every step -/

/-- Every command and event keeps the maps. -/
theorem exec_ownersOk {c : Instr} {s t : State} (hs : s.ownersOk) (h : exec c s = .next t) : t.ownersOk := by
  cases hc : handlerOf c with
  | some handler =>
    obtain rfl := Host.Outcome.next.inj ((exec_of_handlerOf hc s).symm.trans h)
    exact ownersOk_takeCommand (ownersOk_handlerOf hc) hs
  | none =>
    cases howner : isOwnerEvent c with
    | true => exact ownersOk_ownerEvent howner hs h
    | false =>
      obtain ⟨u, hu, hshow⟩ := exec_keepsShow c s
      obtain rfl := Host.Outcome.next.inj (hu.symm.trans h)
      exact State.ownersOk_of_ownership hshow.sized (fun hz => ownership_event hc howner hz h) hs

/-- Settles O59: every command and event leaves the maps, moves one holder's claims to slots that nothing else owns, or
builds a map from a configuration that some map agrees with. -/
theorem ownerMapKept : Obligations.OwnerMapKept := by
  unfold Obligations.OwnerMapKept
  intro s t hs h
  unfold step at h
  split at h
  · cases h
    exact hs
  · next rest _ => exact exec_ownersOk (s := { s with pending := rest }) hs h

end Sys2Proof.Machine
end

section
/-! PROOF. The clip invariant by its parts, and the operations of the Clip Store and of the decks that keep it (R168 to
R176). -/
namespace Sys2Proof.Machine

/-! ### The invariant by its parts -/

/-- What R168 to R173 fix of a clip by itself. -/
structure Clip.WellFormed (c : Clip) : Prop where
  channels : c.channels = 1 ∨ c.channels = 2
  length_pos : 1 ≤ c.length
  length_le : c.length ≤ 67108864
  pages_length : c.pages.length = pagesNeeded c.length c.channels
  pages_sorted : c.pages.Pairwise (· < ·)
  loaded_length : c.loaded.length = c.pages.length
  loadedPrefix : c.loadedPrefix = min c.length (c.leadingLoaded * pageSize / frameBytes c.channels)

/-- A clip of slot `i` is well formed and counts the decks that hold it; a RETIRING one is held (R174). -/
structure State.ClipKept (s : State) (i : Nat) (c : Clip) : Prop where
  formed : c.WellFormed
  refs : c.refs = s.holders i
  held : c.state = .retiring → 0 < c.refs

theorem State.clipOk_iff {s : State} {i : Nat} {c : Clip} :
    s.clipOk i c ↔ s.ClipKept i c ∧ ∀ p ∈ c.pages, p < 2048 ∧ s.clips.owner.getD p none = some i := by
  constructor
  · rintro ⟨h1, h2, h3, h4, h5, howned, h6, h7, hrefs, hheld⟩
    exact ⟨⟨⟨h1, h2, h3, h4, h5, h6, h7⟩, hrefs, hheld⟩, howned⟩
  · rintro ⟨⟨⟨h1, h2, h3, h4, h5, h6, h7⟩, hrefs, hheld⟩, howned⟩
    exact ⟨h1, h2, h3, h4, h5, howned, h6, h7, hrefs, hheld⟩

/-- Deck `d` is EMPTY exactly without a clip, and a clip it holds is in the table (R176). -/
def State.DeckKept (s : State) (d : Nat) : Prop :=
  ((s.deck d).state = .empty ↔ (s.deck d).clip = none) ∧ ∀ h ∈ (s.deck d).clip, (s.lookupClip h).isSome = true

theorem State.sized_clips {s : State} (hz : s.sized) :
    s.clips.slots.length = 64 ∧ s.clips.owner.length = 2048 ∧ s.decks.table.length = 2 := by
  obtain ⟨-, -, -, -, -, -, -, -, -, -, -, hslots, howner, hdecks, -⟩ := hz
  exact ⟨hslots, howner, hdecks⟩

/-- The invariant, with the clips and the decks each said once. -/
theorem State.clipsOk_iff {s : State} : s.clipsOk ↔ s.sized
    ∧ (∀ i < 64, ∀ c ∈ (s.clipSlot i).clip, s.ClipKept i c ∧ ∀ p ∈ c.pages, p < 2048 ∧ s.clips.owner.getD p none = some i)
    ∧ (∀ p < 2048, ∀ i ∈ s.clips.owner.getD p none, ∃ c ∈ (s.clipSlot i).clip, p ∈ c.pages)
    ∧ (∀ d < 2, s.DeckKept d)
    ∧ SampleMemory.wf s.clips.memory := by
  have hdecks (hz : s.sized) : (∀ k ∈ s.decks.table, (k.state = .empty ↔ k.clip = none)
      ∧ ∀ h ∈ k.clip, (s.lookupClip h).isSome = true) ↔ ∀ d < 2, s.DeckKept d := by
    rw [State.deckTable_eq (State.sized_clips hz).2.2]
    simp only [List.mem_cons, List.not_mem_nil, or_false, forall_eq_or_imp, forall_eq]
    exact ⟨fun ⟨h0, h1⟩ d hd => match d, hd with | 0, _ => h0 | 1, _ => h1, fun h => ⟨h 0 (by omega), h 1 (by omega)⟩⟩
  constructor
  · rintro ⟨hz, hclips, hpages, hk, hm⟩
    exact ⟨hz, fun i hi c hc => State.clipOk_iff.1 (hclips i hi c hc), hpages, (hdecks hz).1 hk, hm⟩
  · rintro ⟨hz, hclips, hpages, hk, hm⟩
    exact ⟨hz, fun i hi c hc => State.clipOk_iff.2 (hclips i hi c hc), hpages, (hdecks hz).2 hk, hm⟩

theorem State.clipsOk.clipKept {s : State} (hs : s.clipsOk) {i : Nat} {c : Clip} (hc : (s.clipSlot i).clip = some c) :
    s.ClipKept i c := by
  obtain ⟨hz, hclips, -⟩ := State.clipsOk_iff.1 hs
  exact (hclips i ((State.sized_clips hz).1 ▸ State.clipSlot_lt_of_some hc) c hc).1

/-- A page that a clip lists is one of sample memory, and that clip's. -/
theorem State.clipsOk.owned {s : State} (hs : s.clipsOk) {i p : Nat} {c : Clip} (hc : (s.clipSlot i).clip = some c)
    (hp : p ∈ c.pages) : p < 2048 ∧ s.clips.owner.getD p none = some i := by
  obtain ⟨hz, hclips, -⟩ := State.clipsOk_iff.1 hs
  exact (hclips i ((State.sized_clips hz).1 ▸ State.clipSlot_lt_of_some hc) c hc).2 p hp

/-! ### What the invariant reads -/

/-- Whether a deck is EMPTY, and the clip it holds. -/
def Deck.holding (k : Deck) : Bool × Option Half := (decide (k.state = .empty), k.clip)

theorem Deck.holding_eq_iff {k k' : Deck} :
    k'.holding = k.holding ↔ (k'.state = .empty ↔ k.state = .empty) ∧ k'.clip = k.clip := by
  simp [Deck.holding]

/-- What the clip invariant reads: the Clip Store and what each deck holds. -/
def State.holdings (s : State) : ClipStore × List (Bool × Option Half) := (s.clips, s.decks.table.map Deck.holding)

/-- The holding of a deck read from the list of all. -/
theorem State.holding_deck (s : State) (d : Nat) :
    (s.deck d).holding = (s.decks.table.map Deck.holding).getD d Deck.blank.holding := by
  simp only [State.deck, List.getD_eq_getElem?_getD, List.getElem?_map]
  cases s.decks.table[d]? <;> rfl

theorem State.deck_of_holdings {s t : State} (h : t.holdings = s.holdings) (d : Nat) :
    ((t.deck d).state = .empty ↔ (s.deck d).state = .empty) ∧ (t.deck d).clip = (s.deck d).clip := by
  have htable : t.decks.table.map Deck.holding = s.decks.table.map Deck.holding := congrArg Prod.snd h
  rw [← Deck.holding_eq_iff, State.holding_deck, State.holding_deck, htable]

theorem State.holders_of_holdings {s t : State} (h : t.holdings = s.holdings) (i : Nat) : t.holders i = s.holders i := by
  have htable : t.decks.table.map Deck.holding = s.decks.table.map Deck.holding := congrArg Prod.snd h
  have hcount (u : State) : u.holders i =
      ((u.decks.table.map Deck.holding).filter fun x => decide (x.2.map handleSlot = some i)).length := by
    rw [List.filter_map, List.length_map]
    rfl
  rw [hcount, hcount, htable]

/-- A change that keeps the sizes and what the invariant reads keeps the invariant. -/
theorem State.clipsOk_of_holdings {s t : State} (hsized : s.sized → t.sized) (h : t.holdings = s.holdings)
    (hs : s.clipsOk) : t.clipsOk := by
  have hclips : t.clips = s.clips := congrArg Prod.fst h
  have hslot (i : Nat) : t.clipSlot i = s.clipSlot i := by rw [State.clipSlot, State.clipSlot, hclips]
  have hlookup (x : Half) : t.lookupClip x = s.lookupClip x := by rw [State.lookupClip, State.lookupClip, hslot]
  obtain ⟨hz, hc, hpages, hdecks, hm⟩ := State.clipsOk_iff.1 hs
  refine State.clipsOk_iff.2 ⟨hsized hz, fun i hi c hci => ?_, by simpa only [hslot, hclips] using hpages, fun d hd => ?_,
    by rwa [hclips]⟩
  · rw [hslot] at hci
    obtain ⟨⟨hformed, hrefs, hheld⟩, howned⟩ := hc i hi c hci
    exact ⟨⟨hformed, hrefs.trans (State.holders_of_holdings h i).symm, hheld⟩, by rwa [hclips]⟩
  · obtain ⟨hempty, hclip⟩ := State.deck_of_holdings h d
    unfold State.DeckKept
    simp only [hempty, hclip, hlookup]
    exact hdecks d hd

/-- A change of a deck that leaves what it holds. -/
theorem State.holdings_modifyDeck {f : Deck → Deck} {s : State} {d : Nat}
    (hf : (f (s.deck d)).holding = (s.deck d).holding) : (s.modifyDeck d f).holdings = s.holdings := by
  refine Prod.ext rfl (List.ext_getElem? fun j => ?_)
  simp only [State.holdings, State.modifyDeck, List.getElem?_map, List.getElem?_modify]
  split
  · next hj =>
    subst hj
    cases hk : s.decks.table[d]? with
    | none => rfl
    | some k =>
      have hread : s.deck d = k := by simp [State.deck, List.getD_eq_getElem?_getD, hk]
      rw [hread] at hf
      simp [hf]
  · simp

/-! ### Who holds a clip -/

/-- How often a deck counts for the clip of slot `i` (R174). -/
def Deck.counts (i : Nat) (k : Deck) : Nat := if k.clip.map handleSlot = some i then 1 else 0

theorem State.holders_eq {s : State} (h : s.decks.table.length = 2) (i : Nat) :
    s.holders i = (s.deck 0).counts i + (s.deck 1).counts i := by
  unfold State.holders
  rw [State.deckTable_eq h]
  by_cases h0 : (s.deck 0).clip.map handleSlot = some i <;> by_cases h1 : (s.deck 1).clip.map handleSlot = some i <;>
    simp [Deck.counts, List.filter, h0, h1]

/-- A deck changed: the count of a clip's holders goes with what the deck held and holds. -/
theorem State.holders_modifyDeck {s : State} (h : s.decks.table.length = 2) {d : Nat} (hd : d < 2) (f : Deck → Deck)
    (i : Nat) : (s.modifyDeck d f).holders i + (s.deck d).counts i = s.holders i + (f (s.deck d)).counts i := by
  rw [State.holders_eq (by simpa using h), State.holders_eq h]
  match d, hd with
  | 0, _ =>
    rw [State.deck_modifyDeck_self (by omega), State.deck_modifyDeck_ne (by omega)]
    omega
  | 1, _ =>
    rw [State.deck_modifyDeck_self (by omega), State.deck_modifyDeck_ne (by omega)]
    omega

/-- A clip that a deck holds has a holder. -/
theorem State.holders_pos {s : State} (h : s.decks.table.length = 2) {d : Nat} (hd : d < 2) {x : Half}
    (hx : (s.deck d).clip = some x) : 0 < s.holders (handleSlot x) := by
  have hone : (s.deck d).counts (handleSlot x) = 1 := by simp [Deck.counts, hx]
  rw [State.holders_eq h]
  match d, hd with
  | 0, _ => omega
  | 1, _ => omega

end Sys2Proof.Machine
end

section
/-! PROOF. The operations of the Clip Store and of the decks keep the clip invariant (R168 to R176). -/
namespace Sys2Proof.Machine

/-! ### Slots changed -/

/-- What is left to show once the clips of `t` are those of `s` with their page lists, and the pages follow them. -/
theorem State.clipsOk_of_slots {s t : State} (hs : s.clipsOk) (hz : t.sized)
    (hclips : ∀ i < 64, ∀ c' ∈ (t.clipSlot i).clip, t.ClipKept i c' ∧ ∃ c ∈ (s.clipSlot i).clip, c'.pages = c.pages)
    (hpages : s.pagesFollow t) (hdecks : ∀ d < 2, t.DeckKept d) (hm : SampleMemory.wf t.clips.memory) : t.clipsOk := by
  obtain ⟨-, -, howners, -⟩ := State.clipsOk_iff.1 hs
  refine State.clipsOk_iff.2 ⟨hz, fun i hi c' hc' => ?_, fun p hp i hpi => ?_, hdecks, hm⟩
  · obtain ⟨hkept, c, hc, heq⟩ := hclips i hi c' hc'
    refine ⟨hkept, fun p hp => ?_⟩
    obtain ⟨hlt, howner⟩ := hs.owned hc (heq ▸ hp)
    refine ⟨hlt, ?_⟩
    rw [hpages p, howner, Option.bind_some, if_pos (by rw [Option.mem_def.1 hc']; rfl)]
  · rw [Option.mem_def, hpages p] at hpi
    obtain ⟨j, hj, hji⟩ := Option.bind_eq_some_iff.1 hpi
    split at hji
    · next hsome =>
      obtain rfl : j = i := Option.some.inj hji
      obtain ⟨c', hc'⟩ := Option.isSome_iff_exists.1 hsome
      obtain ⟨-, c, hc, heq⟩ := hclips j ((State.sized_clips hz).1 ▸ State.clipSlot_lt_of_some hc') c' hc'
      obtain ⟨q, hq, hmem⟩ := howners p hp j hj
      obtain rfl : q = c := Option.some.inj (hq.symm.trans hc)
      exact ⟨c', hc', heq ▸ hmem⟩
    · cases hji

/-- A slot whose clip, if it holds one, is changed. -/
def ClipSlot.mapClip (g : Clip → Clip) (e : ClipSlot) : ClipSlot := { e with clip := e.clip.map g }

/-- A clip changed in its slot is looked up as it was. -/
theorem State.lookupClip_isSome_of_mapClip {s t : State} {i : Nat} {g : Clip → Clip}
    (h : t.clips.slots = s.clips.slots.modify i (ClipSlot.mapClip g)) (x : Half) :
    (t.lookupClip x).isSome = (s.lookupClip x).isSome := by
  have hslot (j : Nat) : t.clipSlot j = (s.modifyClipSlot i (ClipSlot.mapClip g)).clipSlot j := by
    rw [State.clipSlot, State.clipSlot, h]
    rfl
  have hgen (j : Nat) : (t.clipSlot j).gen = (s.clipSlot j).gen := by
    rw [hslot, State.clipSlot_modifyClipSlot]
    split <;> rfl
  have hsome (j : Nat) : (t.clipSlot j).clip.isSome = (s.clipSlot j).clip.isSome := by
    rw [hslot, State.clipSlot_modifyClipSlot]
    split <;> simp [ClipSlot.mapClip]
  unfold State.lookupClip
  dsimp only
  rw [hgen]
  split
  · rfl
  · exact hsome _

/-- A clip changed in its slot, its pages left to it, with the decks and the memory of `t`. -/
theorem State.clipsOk_of_mapClip {s t : State} (hs : s.clipsOk) (hz : t.sized) {i : Nat} {g : Clip → Clip}
    (hslots : t.clips.slots = s.clips.slots.modify i (ClipSlot.mapClip g)) (howner : t.clips.owner = s.clips.owner)
    (hself : ∀ c, (s.clipSlot i).clip = some c → (g c).pages = c.pages ∧ t.ClipKept i (g c))
    (hothers : ∀ j, j ≠ i → t.holders j = s.holders j)
    (hdecks : ∀ d < 2, ((t.deck d).state = .empty ↔ (t.deck d).clip = none)
      ∧ ∀ h ∈ (t.deck d).clip, (s.lookupClip h).isSome = true)
    (hm : SampleMemory.wf t.clips.memory) : t.clipsOk := by
  have hslot (j : Nat) : t.clipSlot j =
      if i = j ∧ j < s.clips.slots.length then (s.clipSlot j).mapClip g else s.clipSlot j := by
    rw [← State.clipSlot_modifyClipSlot, State.clipSlot, State.clipSlot, hslots]
    rfl
  have hsome (j : Nat) : (t.clipSlot j).clip.isSome = (s.clipSlot j).clip.isSome := by
    rw [hslot]
    split <;> simp [ClipSlot.mapClip]
  refine State.clipsOk_of_slots hs hz (fun j _ c' hc' => ?_) (fun p => ?_) (fun d hd => ?_) hm
  · rw [hslot] at hc'
    split at hc'
    · next hj =>
      obtain ⟨rfl, -⟩ := hj
      obtain ⟨c, hc, rfl⟩ := Option.map_eq_some_iff.1 hc'
      obtain ⟨hpages, hkept⟩ := hself c hc
      exact ⟨hkept, c, hc, hpages⟩
    · next hj =>
      have hlt := State.clipSlot_lt_of_some hc'
      obtain ⟨hformed, hrefs, hheld⟩ := hs.clipKept hc'
      exact ⟨⟨hformed, hrefs.trans (hothers j fun h => hj ⟨h.symm, hlt⟩).symm, hheld⟩, c', hc', rfl⟩
  · rw [howner]
    simp only [hsome]
    exact hs.pagesFollow_self p
  · exact ⟨(hdecks d hd).1, fun h hh => (State.lookupClip_isSome_of_mapClip hslots h).trans ((hdecks d hd).2 h hh)⟩

/-! ### A deck that becomes EMPTY (R174, R176) -/

/-- What a clip is after `n` releases that do not free it. -/
theorem ClipSlot.released_eq_some {n : Nat} {e : ClipSlot} {c' : Clip} (h : (e.released n).clip = some c') :
    ∃ c, e.clip = some c ∧ ¬ (c.state = .retiring ∧ c.refs ≤ n) ∧ c' = { c with refs := c.refs - n } := by
  obtain ⟨c, hc, hrel⟩ := Option.bind_eq_some_iff.1 h
  split at hrel
  · cases hrel
  · next hn => exact ⟨c, hc, hn, (Option.some.inj hrel).symm⟩

/-- In a good state a deck that becomes EMPTY releases each clip as often as it held it. -/
theorem State.clipsOk.clipSlot_emptyDeck {s : State} (hs : s.clipsOk) (d i : Nat) :
    (s.emptyDeck d).clipSlot i = (s.clipSlot i).released ((s.deck d).counts i) := by
  have hread : (s.emptyDeck d).clipSlot i = (s.releaseHeld d).clipSlot i := rfl
  have hzero : (s.clipSlot i).released 0 = s.clipSlot i :=
    ClipSlot.released_zero fun c hc => (hs.clipKept hc).held
  rw [hread, State.releaseHeld]
  cases hx : (s.deck d).clip with
  | none => simp [Deck.counts, hx, hzero]
  | some x =>
    dsimp only
    rw [State.clipSlot_releaseClip (hs.names d x hx)]
    by_cases hi : handleSlot x = i <;> simp [Deck.counts, hx, hi, hzero]

theorem State.pagesFollow.emptyDeck {s t : State} (hp : s.pagesFollow t) (d : Nat) : s.pagesFollow (t.emptyDeck d) := by
  unfold State.emptyDeck State.releaseHeld
  split
  · exact hp.releaseClip _
  · exact hp

/-- A deck that becomes EMPTY leaves the other its clip, since a clip that both hold is not freed. -/
theorem State.clipsOk.deckKept_emptyDeck {s : State} (hs : s.clipsOk) {d j : Nat} (hd : d < 2) (hj : j < 2) :
    (s.emptyDeck d).DeckKept j := by
  obtain ⟨hz, -, -, hdecks, -⟩ := State.clipsOk_iff.1 hs
  have hlen := (State.sized_clips hz).2.2
  have heq := s.releaseHeld_eq d
  have hdeck (f : Deck → Deck) : ((s.releaseHeld d).modifyDeck d f).deck j = (s.modifyDeck d f).deck j := by
    obtain ⟨_, _, heq, -⟩ := heq
    rw [heq]
    rfl
  unfold State.DeckKept
  rw [State.emptyDeck, hdeck]
  by_cases hjd : j = d
  · subst hjd
    rw [State.deck_modifyDeck_self (by omega)]
    exact ⟨⟨fun _ => rfl, fun _ => rfl⟩, fun _ h => nomatch h⟩
  · rw [State.deck_modifyDeck_ne hjd]
    refine ⟨(hdecks j hj).1, fun x hx => ?_⟩
    obtain ⟨c, hc⟩ := Option.isSome_iff_exists.1 ((hdecks j hj).2 x hx)
    obtain ⟨hn, hslot⟩ := State.lookupClip_eq_some.1 hc
    have hrefs := (hs.clipKept hslot).refs
    have hcount := State.holders_modifyDeck hlen hd (fun _ => Deck.blank) (handleSlot x)
    have hpos : 0 < (s.modifyDeck d fun _ => Deck.blank).holders (handleSlot x) :=
      State.holders_pos (by simpa using hlen) hj (by rw [State.deck_modifyDeck_ne hjd]; exact hx)
    have hblank : Deck.blank.counts (handleSlot x) = 0 := rfl
    have hheld : ¬ (c.state = .retiring ∧ c.refs ≤ (s.deck d).counts (handleSlot x)) := fun ⟨_, hle⟩ => by omega
    have hnames : (s.emptyDeck d).namesClip x := by
      obtain ⟨_, _, heq, hgen, -⟩ := heq
      exact (State.namesClip_congr (s := s) (by rw [State.emptyDeck, heq]; exact hgen) x).2 hn
    rw [← State.emptyDeck, State.lookupClip_of_names hnames, hs.clipSlot_emptyDeck]
    simp [ClipSlot.released, hslot, hheld]

/-- A deck that becomes EMPTY keeps the invariant: the counts go down with the holders. -/
theorem State.clipsOk_emptyDeck {s : State} (hs : s.clipsOk) {d : Nat} (hd : d < 2) : (s.emptyDeck d).clipsOk := by
  obtain ⟨hz, -, -, -, hm⟩ := State.clipsOk_iff.1 hs
  have hholders (i : Nat) : (s.emptyDeck d).holders i = s.holders i - (s.deck d).counts i := by
    have hcount := State.holders_modifyDeck (State.sized_clips hz).2.2 hd (fun k => { Deck.blank with given := k.given }) i
    have hread : (s.emptyDeck d).holders i = (s.modifyDeck d fun k => { Deck.blank with given := k.given }).holders i := by
      obtain ⟨_, _, heq, -⟩ := s.releaseHeld_eq d
      rw [State.emptyDeck, heq]
      rfl
    have hblank (v : Stereo) : Deck.counts i { Deck.blank with given := v } = 0 := rfl
    rw [hblank] at hcount
    omega
  have hmemory : (s.emptyDeck d).clips.memory = s.clips.memory := by
    obtain ⟨_, _, heq, -⟩ := s.releaseHeld_eq d
    rw [State.emptyDeck, heq]
    rfl
  refine State.clipsOk_of_slots hs ((s.keepsShow_emptyDeck d).sized hz) (fun i _ c' hc' => ?_)
    (hs.pagesFollow_self.emptyDeck d) (fun j hj => hs.deckKept_emptyDeck hd hj) (by rwa [hmemory])
  rw [hs.clipSlot_emptyDeck] at hc'
  obtain ⟨c, hc, hheld, rfl⟩ := ClipSlot.released_eq_some hc'
  obtain ⟨⟨h1, h2, h3, h4, h5, h6, h7⟩, hrefs, -⟩ := hs.clipKept hc
  refine ⟨⟨⟨h1, h2, h3, h4, h5, h6, h7⟩, ?_, fun hr => ?_⟩, c, hc, rfl⟩
  · rw [hholders, ← hrefs]
  · have hr : c.state = .retiring := hr
    have hlt := not_le.1 fun hle => hheld ⟨hr, hle⟩
    exact Nat.sub_pos_of_lt hlt

/-! ### A deck that takes a clip (R174, R177) -/

/-- An EMPTY deck that takes a clip. -/
theorem State.clipsOk_takeClip {s : State} (hs : s.clipsOk) {d : Nat} (hd : d < 2) (hempty : (s.deck d).clip = none)
    {x : Half} (hx : (s.lookupClip x).isSome = true) {f : Deck → Deck} (hclip : ∀ k, (f k).clip = some x)
    (hstate : ∀ k, (f k).state ≠ .empty) : ((s.takeClip x).modifyDeck d f).clipsOk := by
  obtain ⟨hz, -, -, hdecks, hm⟩ := State.clipsOk_iff.1 hs
  have hlen := (State.sized_clips hz).2.2
  have hcount (i : Nat) : ((s.takeClip x).modifyDeck d f).holders i = s.holders i + if handleSlot x = i then 1 else 0 := by
    have h := State.holders_modifyDeck hlen hd f i
    have hnone : (s.deck d).counts i = 0 := by simp [Deck.counts, hempty]
    have hsome : (f (s.deck d)).counts i = if handleSlot x = i then 1 else 0 := by simp [Deck.counts, hclip]
    rw [hnone, hsome] at h
    exact h
  refine State.clipsOk_of_mapClip hs (((s.keepsShow_modifyClipSlot _ _).trans (State.keepsShow_modifyDeck ..)).sized hz)
    (i := handleSlot x) (g := fun c => { c with refs := c.refs + 1 }) rfl rfl (fun c hc => ⟨rfl, ?_⟩) (fun j hj => ?_)
    (fun j hj => ?_) hm
  · obtain ⟨⟨h1, h2, h3, h4, h5, h6, h7⟩, hrefs, -⟩ := hs.clipKept hc
    refine ⟨⟨h1, h2, h3, h4, h5, h6, h7⟩, ?_, fun _ => Nat.succ_pos _⟩
    rw [hcount, if_pos rfl, ← hrefs]
  · rw [hcount, if_neg (Ne.symm hj), Nat.add_zero]
  · by_cases hjd : j = d
    · subst hjd
      rw [State.deck_modifyDeck_self (by rw [State.takeClip_decks]; omega)]
      refine ⟨by simp [hclip, hstate], fun h hh => ?_⟩
      obtain rfl : x = h := Option.some.inj ((hclip _).symm.trans hh)
      exact hx
    · rw [State.deck_modifyDeck_ne hjd]
      exact hdecks j hj

/-! ### CLIP_RETIRE (R174) -/

theorem State.clipSlot_freeClip_ne {i j : Nat} (hj : j ≠ i) (s : State) : (s.freeClip i).clipSlot j = s.clipSlot j := by
  have hread : (s.freeClip i).clipSlot j = (s.modifyClipSlot i fun e => { e with clip := none }).clipSlot j := rfl
  rw [hread, State.clipSlot_modifyClipSlot, if_neg fun h => hj h.1.symm]

theorem State.clip_freeClip_self (i : Nat) (s : State) : ((s.freeClip i).clipSlot i).clip = none := by
  have hread : (s.freeClip i).clipSlot i = (s.modifyClipSlot i fun e => { e with clip := none }).clipSlot i := rfl
  rw [hread, State.clipSlot_modifyClipSlot]
  split
  · rfl
  · next h =>
    cases hc : (s.clipSlot i).clip with
    | none => rfl
    | some c => exact absurd ⟨rfl, State.clipSlot_lt_of_some hc⟩ h

/-- A clip freed takes its pages with it. -/
theorem State.pagesFollow.freeClip {s t : State} (hp : s.pagesFollow t) (i : Nat) : s.pagesFollow (t.freeClip i) := by
  intro p
  have howner : (t.freeClip i).clips.owner.getD p none =
      (t.clips.owner.getD p none).bind fun j => if j = i then none else some j := by
    simp only [State.freeClip, State.modifyClipSlot, List.getD_eq_getElem?_getD, List.getElem?_map]
    rcases t.clips.owner[p]? with _ | _ | j <;> simp
  rw [howner, hp p]
  rcases s.clips.owner.getD p none with _ | j
  · rfl
  by_cases hj : j = i
  · subst hj
    cases (t.clipSlot j).clip <;> simp [State.clip_freeClip_self]
  · cases hc : (t.clipSlot j).clip <;> simp [State.clipSlot_freeClip_ne hj, hc, hj]

/-- A clip that no deck holds is freed. -/
theorem State.clipsOk_freeClip {s : State} (hs : s.clipsOk) {i : Nat} (hi : s.holders i = 0) : (s.freeClip i).clipsOk := by
  obtain ⟨hz, -, -, hdecks, hm⟩ := State.clipsOk_iff.1 hs
  refine State.clipsOk_of_slots hs ((s.keepsShow_freeClip i).sized hz) (fun j _ c hc => ?_) (hs.pagesFollow_self.freeClip i)
    (fun d hd => ⟨(hdecks d hd).1, fun x hx => ?_⟩) hm
  · by_cases hj : j = i
    · rw [hj, Option.mem_def, State.clip_freeClip_self] at hc
      cases hc
    · rw [State.clipSlot_freeClip_ne hj] at hc
      obtain ⟨hformed, hrefs, hheld⟩ := hs.clipKept hc
      exact ⟨⟨hformed, hrefs, hheld⟩, c, hc, rfl⟩
  · have hx : (s.deck d).clip = some x := hx
    have hne : handleSlot x ≠ i := fun h =>
      (State.holders_pos (State.sized_clips hz).2.2 hd hx).ne' (h ▸ hi)
    have hlookup : (s.freeClip i).lookupClip x = s.lookupClip x := by
      rw [State.lookupClip, State.lookupClip, State.clipSlot_freeClip_ne hne]
    rw [hlookup]
    exact (hdecks d hd).2 x hx

/-- A clip that some deck holds is marked RETIRING. -/
theorem State.clipsOk_retireClip {s : State} (hs : s.clipsOk) {i : Nat}
    (hi : ∀ c, (s.clipSlot i).clip = some c → 0 < c.refs) :
    (s.modifyClipSlot i (ClipSlot.mapClip fun c => { c with state := .retiring })).clipsOk := by
  obtain ⟨hz, -, -, hdecks, hm⟩ := State.clipsOk_iff.1 hs
  refine State.clipsOk_of_mapClip hs ((s.keepsShow_modifyClipSlot ..).sized hz) rfl rfl (fun c hc => ⟨rfl, ?_⟩)
    (fun _ _ => rfl) hdecks hm
  obtain ⟨⟨h1, h2, h3, h4, h5, h6, h7⟩, hrefs, -⟩ := hs.clipKept hc
  exact ⟨⟨h1, h2, h3, h4, h5, h6, h7⟩, hrefs, fun _ => hi c hc⟩

end Sys2Proof.Machine
end

section
/-! PROOF. CLIP_CREATE and the clip blocks keep the clip invariant (R168 to R173, R196). -/
namespace Sys2Proof.Machine

/-! ### The lowest FREE slot and the lowest free pages (R168, R170) -/

theorem State.freeClipSlot_eq_some {s : State} {i : Nat} :
    s.freeClipSlot = some i ↔ i < 64 ∧ (s.clipSlot i).clip = none ∧ ∀ j < i, (s.clipSlot j).clip ≠ none := by
  simp only [State.freeClipSlot, List.find?_range_eq_some, List.mem_range, Option.isNone_iff_eq_none, Bool.not_eq_true',
    Option.isNone_eq_false_iff, Option.isSome_iff_ne_none]
  exact ⟨fun ⟨hfree, hlt, hlow⟩ => ⟨hlt, hfree, hlow⟩, fun ⟨hlt, hfree, hlow⟩ => ⟨hfree, hlt, hlow⟩⟩

theorem State.freeClipSlot_eq_none {s : State} : s.freeClipSlot = none ↔ ∀ i < 64, (s.clipSlot i).clip ≠ none := by
  simp only [State.freeClipSlot, List.find?_range_eq_none, Bool.not_eq_true', Option.isNone_eq_false_iff,
    Option.isSome_iff_ne_none]

theorem State.mem_freePages {s : State} {p : Nat} : p ∈ s.freePages ↔ p < 2048 ∧ s.clips.owner.getD p none = none := by
  simp [State.freePages]

theorem State.freePages_sorted (s : State) : s.freePages.Pairwise (· < ·) :=
  List.pairwise_lt_range.sublist List.filter_sublist

theorem State.pagesTaken_sorted (s : State) (length channels : Nat) : (s.pagesTaken length channels).Pairwise (· < ·) :=
  s.freePages_sorted.sublist (List.take_sublist _ _)

theorem State.length_pagesTaken {s : State} {length channels : Nat} (h : pagesNeeded length channels ≤ s.freePages.length) :
    (s.pagesTaken length channels).length = pagesNeeded length channels := by
  simpa [State.pagesTaken] using h

theorem State.mem_freePages_of_taken {s : State} {length channels p : Nat} (h : p ∈ s.pagesTaken length channels) :
    p ∈ s.freePages := List.mem_of_mem_take h

/-- A free page that is not taken lies above every page taken. -/
theorem State.lt_of_not_taken {s : State} {length channels p q : Nat} (hq : q ∈ s.freePages)
    (hnot : q ∉ s.pagesTaken length channels) (hp : p ∈ s.pagesTaken length channels) : p < q := by
  have hsorted := s.freePages_sorted
  have hrest : q ∈ s.freePages.drop (pagesNeeded length channels) := by
    rw [← List.take_append_drop (pagesNeeded length channels) s.freePages, List.mem_append] at hq
    exact hq.resolve_left hnot
  rw [← List.take_append_drop (pagesNeeded length channels) s.freePages, List.pairwise_append] at hsorted
  exact hsorted.2.2 p hp q hrest

/-- The owner of a page once pages are given to a slot. -/
theorem getD_setPages (i : Nat) (pages : List Nat) (owner : List (Option Nat)) {q : Nat} (hq : q < owner.length) :
    (pages.foldl (fun o p => o.set p (some i)) owner).getD q none =
      if q ∈ pages then some i else owner.getD q none := by
  induction pages generalizing owner with
  | nil => simp
  | cons p pages ih =>
    rw [List.foldl_cons, ih (owner.set p (some i)) (by simpa using hq)]
    by_cases hmem : q ∈ pages
    · simp [hmem]
    · by_cases hqp : q = p
      · subst hqp
        simp [hmem, List.getD_eq_getElem?_getD, hq]
      · simp [hmem, hqp, List.getD_eq_getElem?_getD, Ne.symm hqp]

theorem State.clipSlot_placeClip {s : State} {i : Nat} (hi : i < s.clips.slots.length) (c : Clip) (j : Nat) :
    (s.placeClip i c).clipSlot j = if j = i then ⟨nextGeneration (s.clipSlot i).gen, some c⟩ else s.clipSlot j := by
  have hread : (s.placeClip i c).clipSlot j =
      (s.modifyClipSlot i fun e => ⟨nextGeneration e.gen, some c⟩).clipSlot j := rfl
  rw [hread, State.clipSlot_modifyClipSlot]
  by_cases hj : j = i
  · subst hj
    simp [hi]
  · simp [hj, Ne.symm hj]

/-! ### CLIP_CREATE (R170) -/

/-- A new clip is well formed: none of its pages is loaded. -/
theorem Clip.wellFormed_newClip {channels length : Nat} {pages : List Nat} (hch : channels = 1 ∨ channels = 2)
    (hpos : 1 ≤ length) (hle : length ≤ 67108864) (hpages : pages.length = pagesNeeded length channels)
    (hsorted : pages.Pairwise (· < ·)) : (newClip channels length pages).WellFormed where
  channels := hch
  length_pos := hpos
  length_le := hle
  pages_length := hpages
  pages_sorted := hsorted
  loaded_length := List.length_replicate
  loadedPrefix := by
    have hnone : (newClip channels length pages).leadingLoaded = 0 := by
      cases pages <;> simp [newClip, Clip.leadingLoaded, List.replicate_succ]
    rw [hnone, Nat.zero_mul, Nat.zero_div, Nat.min_zero]
    rfl

/-- A clip placed in a FREE slot, on free pages. -/
theorem State.clipsOk_placeClip {s : State} (hs : s.clipsOk) {i : Nat} (hi : i < 64) (hfree : (s.clipSlot i).clip = none)
    {c : Clip} (hc : c.WellFormed) (hpages : ∀ p ∈ c.pages, p ∈ s.freePages) (hrefs : c.refs = 0)
    (hstate : c.state ≠ .retiring) : (s.placeClip i c).clipsOk := by
  obtain ⟨hz, hclips, howners, hdecks, hm⟩ := State.clipsOk_iff.1 hs
  obtain ⟨hslots, hpageCount, hlen⟩ := State.sized_clips hz
  have hslot := State.clipSlot_placeClip (hslots ▸ hi) c
  have howner {p : Nat} (hp : p < 2048) : (s.placeClip i c).clips.owner.getD p none =
      if p ∈ c.pages then some i else s.clips.owner.getD p none :=
    getD_setPages i c.pages s.clips.owner (hpageCount ▸ hp)
  have hnotHeld {d : Nat} (hd : d < 2) {x : Half} (hx : (s.deck d).clip = some x) : handleSlot x ≠ i := fun h => by
    obtain ⟨c, hc⟩ := Option.isSome_iff_exists.1 ((hdecks d hd).2 x hx)
    have hslotted := (State.lookupClip_eq_some.1 hc).2
    rw [h, hfree] at hslotted
    cases hslotted
  have hnoHolders : s.holders i = 0 := by
    have hcounts {d : Nat} (hd : d < 2) : (s.deck d).counts i = 0 :=
      if_neg fun h => by
        obtain ⟨x, hx, hxi⟩ := Option.map_eq_some_iff.1 h
        exact hnotHeld hd hx hxi
    rw [State.holders_eq hlen, hcounts (d := 0) (by omega), hcounts (d := 1) (by omega)]
  refine State.clipsOk_iff.2 ⟨(s.keepsShow_placeClip i c).sized hz, fun j hj c' hc' => ?_, fun p hp j hpj => ?_,
    fun d hd => ⟨(hdecks d hd).1, fun x hx => ?_⟩, hm⟩
  · rw [hslot] at hc'
    split at hc'
    · next hji =>
      subst hji
      obtain rfl := Option.some.inj hc'
      refine ⟨⟨hc, hrefs.trans hnoHolders.symm, fun hr => absurd hr hstate⟩, fun p hp => ?_⟩
      have hlt := (State.mem_freePages.1 (hpages p hp)).1
      exact ⟨hlt, by rw [howner hlt, if_pos hp]⟩
    · obtain ⟨⟨hformed, hrefs, hheld⟩, howned⟩ := hclips j hj c' hc'
      refine ⟨⟨hformed, hrefs, hheld⟩, fun p hp => ?_⟩
      obtain ⟨hlt, hpj⟩ := howned p hp
      refine ⟨hlt, ?_⟩
      rw [howner hlt, if_neg, hpj]
      intro hmem
      rw [(State.mem_freePages.1 (hpages p hmem)).2] at hpj
      cases hpj
  · rw [Option.mem_def, howner hp] at hpj
    rw [hslot]
    split at hpj
    · next hmem =>
      obtain rfl := Option.some.inj hpj
      exact ⟨c, by rw [if_pos rfl]; rfl, hmem⟩
    · obtain ⟨c', hc', hmem⟩ := howners p hp j hpj
      refine ⟨c', ?_, hmem⟩
      rwa [if_neg]
      rintro rfl
      rw [Option.mem_def, hfree] at hc'
      cases hc'
  · have hx : (s.deck d).clip = some x := hx
    have hlookup : (s.placeClip i c).lookupClip x = s.lookupClip x := by
      rw [State.lookupClip, State.lookupClip, hslot, if_neg (hnotHeld hd hx)]
    rw [hlookup]
    exact (hdecks d hd).2 x hx

theorem clipsOk_handleClipCreate (channels : Byte) (length : Quad) {s : State} (hs : s.clipsOk) :
    (handleClipCreate channels length s).1.clipsOk := by
  unfold handleClipCreate
  dsimp only
  cases hl : firstFailure _ with
  | some code => rwa [checked_of_some _ s hl]
  | none =>
    rw [checked_of_none _ s hl]
    have hpass := firstFailure_eq_none.1 hl
    simp only [List.forall_mem_cons, List.not_mem_nil, IsEmpty.forall_iff, implies_true, and_true] at hpass
    obtain ⟨hparams, hslot, hspace⟩ := hpass
    obtain ⟨i, hi⟩ := Option.isSome_iff_exists.1 (by simpa using hslot)
    obtain ⟨hlt, hfree, -⟩ := State.freeClipSlot_eq_some.1 hi
    have hroom : pagesNeeded length.toNat channels.toNat ≤ s.freePages.length := by simpa using hspace
    rw [hi]
    have hparams : (channels.toNat = 1 ∨ channels.toNat = 2) ∧ 1 ≤ length.toNat ∧ length.toNat ≤ 67108864 := by
      simp only [Bool.or_eq_false_iff, Bool.and_eq_false_iff, decide_eq_false_iff_not] at hparams
      omega
    obtain ⟨hch, hpos, hle⟩ := hparams
    exact State.clipsOk_placeClip hs hlt hfree
      (Clip.wellFormed_newClip hch hpos hle (State.length_pagesTaken hroom) (s.pagesTaken_sorted ..))
      (fun _ => State.mem_freePages_of_taken) rfl nofun

/-! ### Clip blocks (R171, R173) -/

/-- Bytes of a frame, and no more than the whole of sample memory. -/
theorem Clip.WellFormed.frameBytes_pos {c : Clip} (h : c.WellFormed) : 0 < frameBytes c.channels := by
  rcases h.channels with hc | hc <;> rw [hc] <;> decide

/-- A clip's pages hold its frames. -/
theorem Clip.WellFormed.length_le_pages {c : Clip} (h : c.WellFormed) :
    c.length * frameBytes c.channels ≤ c.pages.length * pageSize :=
  (ceilDiv_le_iff (by decide)).1 (h.pages_length ▸ le_refl _)

/-- No block of a clip is longer than a page (R171). -/
theorem Clip.WellFormed.expectedSize_le {c : Clip} (h : c.WellFormed) (page : Nat) : c.expectedSize page ≤ pageSize := by
  have hle := h.length_le_pages
  unfold Clip.expectedSize
  split
  · exact le_refl _
  · rw [Nat.sub_mul]
    omega

/-- The block of one page keeps a clip well formed: with all pages loaded, the whole clip counts as loaded. -/
theorem Clip.WellFormed.load {c : Clip} (h : c.WellFormed) (page : Nat) : (c.load page).WellFormed := by
  have hpos := h.frameBytes_pos
  have hpages := h.length_le_pages
  obtain ⟨h1, h2, h3, h4, h5, hloaded, -⟩ := h
  have hlen : (c.loaded.set page true).length = c.pages.length := by rw [List.length_set, hloaded]
  unfold Clip.load
  dsimp only
  split
  · next hready =>
    refine ⟨h1, h2, h3, h4, h5, hlen, ?_⟩
    have hall : (c.loaded.set page true).takeWhile id = c.loaded.set page true :=
      List.takeWhile_eq_self_iff.2 (by simpa using hready.2)
    have hfull : c.length ≤ c.pages.length * pageSize / frameBytes c.channels :=
      (Nat.le_div_iff_mul_le hpos).2 hpages
    rw [Clip.leadingLoaded, hall, hlen, Nat.min_eq_left hfull]
  · exact ⟨h1, h2, h3, h4, h5, hlen, rfl⟩

/-- A block touches no page list and no count, and retires nothing. -/
theorem Clip.load_same (page : Nat) (c : Clip) :
    (c.load page).pages = c.pages ∧ (c.load page).refs = c.refs ∧ ((c.load page).state = .retiring → c.state = .retiring) := by
  unfold Clip.load
  dsimp only
  split
  · exact ⟨rfl, rfl, nofun⟩
  · exact ⟨rfl, rfl, id⟩

theorem State.holdings_raiseIf (b : Bool) (e : Event) (s : State) : (s.raiseIf b e).holdings = s.holdings := by
  cases b <;> rfl

/-- The slot of the clip table read is the slot listed. -/
theorem State.clipSlot_of_getElem? {s : State} {i : Nat} {e : ClipSlot} (h : s.clips.slots[i]? = some e) :
    s.clipSlot i = e := by
  simp [State.clipSlot, List.getD_eq_getElem?_getD, h]

/-- A clip written back is the clip changed in its slot. -/
theorem State.modify_some_eq_mapClip {s : State} {i : Nat} {c : Clip} (hc : (s.clipSlot i).clip = some c) (g : Clip → Clip) :
    (s.clips.slots.modify i fun e => { e with clip := some (g c) }) = s.clips.slots.modify i (ClipSlot.mapClip g) :=
  modify_congr_of_entry fun e he => by
    rw [State.clipSlot_of_getElem? he] at hc
    simp [ClipSlot.mapClip, hc]

/-- What an accepted block writes (R173). -/
theorem State.acceptBlock_eq {s : State} {i : Nat} {c : Clip} (hc : (s.clipSlot i).clip = some c) (page : Nat)
    (data : List Byte) : s.acceptBlock i c page data =
      ({ s with clips := { s.clips with
          slots := s.clips.slots.modify i (ClipSlot.mapClip (Clip.load page))
          memory := SampleMemory.write s.clips.memory (c.pageAddress page) data } } : State).raiseIf
        (c.state = .loading ∧ (c.load page).state = .ready) .clipReady := by
  rw [← State.modify_some_eq_mapClip hc]
  rfl

/-- An accepted block: its clip's flags and the bytes of its page. -/
theorem State.clipsOk_acceptBlock {s : State} (hs : s.clipsOk) {i page : Nat} {c : Clip} {data : List Byte}
    (hc : (s.clipSlot i).clip = some c) (hpage : page < c.pages.length) (hdata : data.length = c.expectedSize page) :
    (s.acceptBlock i c page data).clipsOk := by
  obtain ⟨hz, -, -, hdecks, hm⟩ := State.clipsOk_iff.1 hs
  obtain ⟨hformed, hrefs, hheld⟩ := hs.clipKept hc
  obtain ⟨hsame, hcount, hretiring⟩ := c.load_same page
  have hfit : c.pageAddress page + data.length ≤ SampleMemory.size := by
    have hle := hformed.expectedSize_le page
    have hlt : c.pages.getD page 0 < 2048 := by
      rw [List.getD_eq_getElem?_getD, List.getElem?_eq_getElem hpage]
      exact (hs.owned hc (List.getElem_mem hpage)).1
    simp only [Clip.pageAddress, SampleMemory.size, pageSize] at hle ⊢
    omega
  rw [State.acceptBlock_eq hc]
  refine State.clipsOk_of_holdings (State.keepsShow_raiseIf ..).sized (State.holdings_raiseIf ..) ?_
  refine State.clipsOk_of_mapClip hs ((s.keepsShow_modifyClipSlot i (ClipSlot.mapClip (Clip.load page))).sized hz) rfl rfl
    (fun c' hc' => ?_) (fun _ _ => rfl) hdecks (SampleMemory.wf_write hm hfit)
  obtain rfl := Option.some.inj (hc.symm.trans hc')
  exact ⟨hsame, hformed.load page, hcount.trans hrefs, fun hr => hcount ▸ hheld (hretiring hr)⟩

/-- The judgement of a block rejects it, or accepts one that fits its page. -/
theorem State.clipsOk_judgeBlock (transfer : List Byte) {s : State} (hs : s.clipsOk) : (s.judgeBlock transfer).clipsOk := by
  have hreject (h : Half) (page : Quad) (reason : ResultCode) : (s.rejectBlock h page reason).clipsOk :=
    State.clipsOk_of_holdings (s.keepsShow_rejectBlock ..).sized rfl hs
  unfold State.judgeBlock
  split
  · exact hreject ..
  next b _ =>
  split
  · exact hreject ..
  split
  · exact hreject ..
  next c hc =>
  split
  · exact hreject ..
  split
  · exact hreject ..
  split
  · exact hreject ..
  next hpage hsize =>
  exact State.clipsOk_acceptBlock hs (State.lookupClip_eq_some.1 hc).2 (Nat.lt_of_not_le hpage) (not_not.1 hsize)

theorem State.clipsOk_clipPacket (packet : List Byte) {s : State} (hs : s.clipsOk) : (s.clipPacket packet).clipsOk := by
  rcases State.clipPacket_eq packet s with ⟨-, h⟩ | ⟨-, -, h⟩ | ⟨-, -, h⟩ <;> rw [h]
  · exact hs
  · exact State.clipsOk_of_holdings id rfl hs
  · exact State.clipsOk_judgeBlock _ (State.clipsOk_of_holdings (s := s) id rfl hs)

end Sys2Proof.Machine
end

section
/-! PROOF. Who touches the clips, the decks, the device counter and the record of what is outstanding: neither the Effect
Scheduler, the frames, the pumps, the site nor the link does, beyond taking an event. -/
namespace Sys2Proof.Machine

/-- What no block but the clips, the decks and the period's counts writes: the Clip Store, what each deck holds, the record
of what is outstanding and the device counter. -/
def State.backstage (s : State) : (ClipStore × List (Bool × Option Half)) × Due × BitVec 64 :=
  (s.holdings, s.due, s.timer.device)

theorem State.holdings_of_backstage {s t : State} (h : t.backstage = s.backstage) : t.holdings = s.holdings :=
  congrArg Prod.fst h

/-! ### The shared operations -/

theorem State.backstage_raiseIf (b : Bool) (e : Event) (s : State) : (s.raiseIf b e).backstage = s.backstage := by
  cases b <;> rfl

/-- What every pass of a loop leaves, the loop leaves. -/
theorem backstage_forEach {α : Type} {f : α → State → State} (h : ∀ a s, (f a s).backstage = State.backstage s) (l : List α)
    (s : State) : (forEach l f s).backstage = s.backstage :=
  forEach_same State.backstage l f (fun a _ => h a) s

theorem backstage_ite {c : Prop} [Decidable c] {s t u : State} (ht : t.backstage = s.backstage)
    (hu : u.backstage = s.backstage) : (if c then t else u).backstage = s.backstage := by
  split
  · exact ht
  · exact hu

/-! ### The effect table (chapter 2) -/

theorem State.RecordChange.backstage {i : Nat} {k : EffectRecord → Option EffectRecord} {s t : State}
    (h : s.RecordChange i k t) : t.backstage = s.backstage := by
  obtain ⟨_, rfl⟩ := h.outside
  rfl

theorem State.backstage_schedule (s : State) : s.schedule.backstage = s.backstage := by
  obtain ⟨_, _, h⟩ := s.schedule_outside
  rw [h]
  rfl

theorem State.backstage_clearEffects (s : State) : s.clearEffects.backstage = s.backstage := by
  have hpass := backstage_forEach (fun i s => (s.freeRecord_change i).backstage) (List.range 256) s
  unfold State.clearEffects
  generalize forEach (List.range 256) State.freeRecord s = u at hpass ⊢
  exact hpass

theorem State.backstage_editAtOnce (i : Nat) (r : EffectRecord) (f : EditFields) (s : State) :
    (s.editAtOnce i r f).backstage = s.backstage := by
  unfold State.editAtOnce
  cases f.group <;> rfl

theorem State.backstage_dropRef? (g : Option Nat) (s : State) : (s.dropRef? g).backstage = s.backstage := by
  cases g <;> rfl

theorem State.backstage_stageEdit (i : Nat) (r : EffectRecord) (f : EditFields) (boundary : ShowTime) (s : State) :
    (s.stageEdit i r f boundary).backstage = s.backstage := by
  unfold State.stageEdit
  cases r.edit with
  | none => cases f.group <;> rfl
  | some e =>
    cases f.group with
    | none => rfl
    | some g => exact State.backstage_dropRef? _ (s.addRef g)

/-! ### The frames and the lines (chapters 4, 7 and 8) -/

theorem State.backstage_writeSlots (n : Nat) (values : SlotValues) (s : State) :
    (s.writeSlots n values).backstage = s.backstage := backstage_ite rfl rfl

theorem State.backstage_moveClaims (old new : Option (Nat × Claims)) (s : State) :
    (s.moveClaims old new).backstage = s.backstage := by cases old <;> cases new <;> rfl

theorem State.backstage_setFixture (n : Nat) (c : FixtureConfig) (s : State) :
    (s.setFixture n c).backstage = s.backstage :=
  (State.backstage_writeSlots ..).trans (s.backstage_moveClaims ..)

theorem State.backstage_jetFrame (s : State) : s.jetFrame.backstage = s.backstage :=
  (State.backstage_raiseIf ..).trans (backstage_forEach (fun l s => State.backstage_writeSlots l _ s) (List.range 4) _)

theorem State.backstage_lightCompute (s : State) : s.lightCompute.backstage = s.backstage :=
  backstage_forEach (fun l s => State.backstage_writeSlots l _ s) (List.range 4) _

/-! ### The pumps (chapter 5) -/

theorem State.backstage_examine (n : Nat) (s : State) : (s.examine n).backstage = s.backstage := by
  unfold State.examine
  dsimp only
  repeat' split
  all_goals rfl

theorem State.backstage_suspendPump (n : Nat) (s : State) : (s.suspendPump n).backstage = s.backstage := by
  unfold State.suspendPump
  split <;> rfl

theorem State.backstage_suspension (s : State) : s.suspension.backstage = s.backstage := by
  have hpass := backstage_forEach State.backstage_suspendPump (List.range 16) s
  unfold State.suspension
  generalize forEach (List.range 16) State.suspendPump s = u at hpass ⊢
  exact backstage_ite (backstage_ite rfl hpass) rfl

theorem State.backstage_stageQueue (stopped : List Nat) (m : Nat) (s : State) :
    (s.stageQueue stopped m).backstage = s.backstage :=
  (backstage_forEach (f := State.cancelOutside _) (fun _ _ => backstage_ite rfl rfl) _ _).trans
    (backstage_ite rfl (backstage_forEach (f := State.joinQueue stopped) (fun _ _ => backstage_ite rfl rfl) _ s))

theorem State.backstage_stageDestage (m : Nat) (s : State) : (s.stageDestage m).backstage = s.backstage := by
  unfold State.stageDestage
  repeat' split
  all_goals rfl

theorem State.backstage_stage (stopped : List Nat) (m : Nat) (s : State) :
    (s.stage stopped m).backstage = s.backstage :=
  (backstage_forEach (f := fun n u => u.modifyPump n _) (fun _ _ => rfl) _ _).trans
    ((backstage_ite rfl (State.backstage_stageDestage ..)).trans (State.backstage_stageQueue stopped m (s.stageTargets m)))

theorem State.backstage_grant (s : State) : s.grant.backstage = s.backstage := by
  unfold State.grant
  split <;> rfl

theorem State.backstage_updateStaged (s : State) : s.updateStaged.backstage = s.backstage :=
  (backstage_forEach (State.backstage_stage _) _ _).trans
    ((State.backstage_suspension _).trans (backstage_forEach State.backstage_examine _ s.samplePumps))

theorem State.backstage_publish (s : State) : s.publish.backstage = s.backstage := rfl

theorem State.backstage_pumpUpdate (s : State) : s.pumpUpdate.backstage = s.backstage := by
  rw [State.pumpUpdate, State.backstage_publish, State.backstage_grant, State.backstage_updateStaged]

theorem State.backstage_lockOut (n : Nat) (s : State) : (s.lockOut n).backstage = s.backstage := by
  unfold State.lockOut
  split <;> rfl

/-! ### The site (chapter 6) -/

theorem State.backstage_stopZones (k : Nat) (s : State) : (s.stopZones k).backstage = s.backstage :=
  (State.backstage_raiseIf ..).trans (backstage_forEach (f := fun z u => u.modifyZone z _) (fun _ _ => rfl) _ s)

theorem State.backstage_takePresence (k : Nat) (s : State) : (s.takePresence k).backstage = s.backstage :=
  backstage_ite rfl (backstage_ite (State.backstage_stopZones k _) rfl)

theorem State.backstage_setZone (p : ZoneSetParams) (s : State) : (s.setZone p).backstage = s.backstage := by
  have hzone : (s.configureZone p).backstage = s.backstage := by
    rw [State.configureZone_frame]
    rfl
  cases hk : (zoneConfigOf p).presence with
  | none => rwa [State.setZone_of_none hk]
  | some k =>
    rw [State.setZone_of_some hk]
    exact backstage_ite ((State.backstage_stopZones ..).trans hzone) hzone

theorem State.backstage_windGate (s : State) : s.windGate.backstage = s.backstage := State.backstage_raiseIf ..

theorem State.backstage_takeLevelLow (s : State) : s.takeLevelLow.backstage = s.backstage := backstage_ite rfl rfl

theorem State.backstage_takeLevelRestored (s : State) : s.takeLevelRestored.backstage = s.backstage := backstage_ite rfl rfl

/-! ### The link and the store (chapters 10 and 11) -/

theorem State.backstage_pollReply (accepted : Bool) (s : State) : (s.pollReply accepted).backstage = s.backstage := by
  unfold State.pollReply
  split
  · split <;> rfl
  · rfl

theorem State.backstage_pollNotice (accepted : Bool) (s : State) : (s.pollNotice accepted).backstage = s.backstage := by
  unfold State.pollNotice
  refine backstage_ite ?_ rfl
  split
  · rfl
  · exact backstage_ite rfl rfl

theorem State.backstage_takeSave (s : State) : s.takeSave.backstage = s.backstage := backstage_ite rfl rfl

/-! ### The events that a boundary brings -/

theorem holdings_ite {c : Prop} [Decidable c] {s t u : State} (ht : t.holdings = s.holdings) (hu : u.holdings = s.holdings) :
    (if c then t else u).holdings = s.holdings := by
  split
  · exact ht
  · exact hu

/-- An event taken touches no more of the clips and the decks than what the event does. -/
theorem State.holdings_taken {s t : State} {f : Due → Due} (h : t.holdings = s.holdings) :
    (t.modifyDue f).holdings = s.holdings := h

theorem State.holdings_takeEnvelope (s : State) : s.takeEnvelope.holdings = s.holdings := holdings_ite rfl rfl

theorem State.holdings_takeEffects (s : State) : s.takeEffects.holdings = s.holdings :=
  holdings_ite (State.holdings_taken (State.holdings_of_backstage s.backstage_schedule)) rfl

theorem State.holdings_takeEffectsIf (makes : ShowTime → State → Bool) (s : State) :
    (s.takeEffectsIf makes).holdings = s.holdings := holdings_ite s.holdings_takeEffects rfl

theorem State.holdings_atFrame (s : State) : s.atFrame.holdings = s.holdings :=
  (State.holdings_takeEffects _).trans s.holdings_takeEnvelope

theorem State.holdings_takeJet (s : State) : s.takeJet.holdings = s.holdings :=
  holdings_ite
    (State.holdings_taken ((State.holdings_of_backstage (State.backstage_jetFrame _)).trans s.holdings_atFrame)) rfl

theorem State.holdings_takeLight (s : State) : s.takeLight.holdings = s.holdings :=
  holdings_ite
    (State.holdings_taken ((State.holdings_of_backstage (State.backstage_lightCompute _)).trans s.holdings_atFrame)) rfl

theorem State.holdings_takePumps (s : State) : s.takePumps.holdings = s.holdings :=
  holdings_ite (State.holdings_taken (State.holdings_of_backstage s.backstage_pumpUpdate)) rfl

theorem State.holdings_takeWind (s : State) : s.takeWind.holdings = s.holdings :=
  holdings_ite (State.holdings_taken (State.holdings_of_backstage s.backstage_windGate)) rfl

end Sys2Proof.Machine
end

section
/-! PROOF. Every step keeps the clip invariant (R168 to R176): by the decks' part of a period, the changes of show state and
the commands of chapter 9, and by all else, which leaves the clips and what the decks hold. -/
namespace Sys2Proof.Machine

/-! ### What leaves the clips and the decks -/

/-- A change of which both are known: that it keeps the sizes, and that it leaves the clips and what the decks hold. -/
theorem State.KeepsShow.clipsOk {s t : State} (hshow : s.KeepsShow t) (h : t.holdings = s.holdings) (hs : s.clipsOk) :
    t.clipsOk := State.clipsOk_of_holdings hshow.sized h hs

theorem State.KeepsShow.clipsOk_of_backstage {s t : State} (hshow : s.KeepsShow t) (h : t.backstage = s.backstage)
    (hs : s.clipsOk) : t.clipsOk := hshow.clipsOk (State.holdings_of_backstage h) hs

/-! ### The decks in a sample period (R179 to R183) -/

theorem State.clipsOk_modifyDeck {s : State} (hs : s.clipsOk) {d : Nat} {f : Deck → Deck}
    (hf : (f (s.deck d)).holding = (s.deck d).holding) : (s.modifyDeck d f).clipsOk :=
  State.clipsOk_of_holdings (s.keepsShow_modifyDeck d f).sized (State.holdings_modifyDeck hf) hs

theorem State.clipsOk_endDeckNow {s : State} (hs : s.clipsOk) {d : Nat} (hd : d < 2) : (s.endDeckNow d).clipsOk :=
  State.clipsOk_of_holdings (s := s.emptyDeck d) id rfl (State.clipsOk_emptyDeck hs hd)

theorem State.clipsOk_beginDeck {s : State} (hs : s.clipsOk) {d : Nat} (hd : d < 2) : (s.beginDeck d).clipsOk := by
  unfold State.beginDeck
  split
  · next hb =>
    have hwaiting := (State.deckBegins_iff.1 hb).1
    dsimp only
    split
    · exact State.clipsOk_endDeckNow hs hd
    · exact State.clipsOk_modifyDeck hs (by simp [Deck.holding, hwaiting])
  · exact hs

theorem State.clipsOk_playDeck {s : State} (hs : s.clipsOk) {d : Nat} (hd : d < 2) : (s.playDeck d).clipsOk := by
  rw [State.playDeck_eq]
  split
  · next hplays =>
    have hempty : (s.deck d).state ≠ .empty := by
      rcases hplays with h | h <;> simp [h]
    have hplayed : (s.playedDeck d).clipsOk := by
      refine State.clipsOk_modifyDeck (State.clipsOk_of_holdings (s.keepsShow_raiseIf ..).sized (s.holdings_raiseIf _ _) hs) ?_
      have hread (b : Bool) (e : Event) : (s.raiseIf b e).deck d = s.deck d := by cases b <;> rfl
      rw [hread]
      cases s.starves d <;> simp [Deck.holding, hempty]
    split
    · exact State.clipsOk_endDeckNow hplayed hd
    · exact hplayed
  · exact hs

theorem State.clipsOk_processDeck {s : State} (hs : s.clipsOk) {d : Nat} (hd : d < 2) : (s.processDeck d).clipsOk := by
  have hquiet : (s.quietDeck d).clipsOk := State.clipsOk_modifyDeck hs rfl
  rw [State.processDeck_eq]
  exact State.clipsOk_modifyDeck (State.clipsOk_playDeck (State.clipsOk_beginDeck hquiet hd) hd) rfl

/-- What each of the two decks keeps, both keep. -/
theorem clipsOk_forEachDeck {f : Nat → State → State} (h : ∀ {s : State} {d : Nat}, s.clipsOk → d < 2 → (f d s).clipsOk)
    {s : State} (hs : s.clipsOk) : (forEach [0, 1] f s).clipsOk :=
  h (h hs (by omega)) (by omega)

theorem State.clipsOk_takeDeckStop {s : State} (hs : s.clipsOk) {d : Nat} (hd : d < 2) : (s.takeDeckStop d).clipsOk := by
  unfold State.takeDeckStop
  split
  · exact State.clipsOk_endDeckNow hs hd
  · exact hs

theorem State.clipsOk_mix {s : State} (hs : s.clipsOk) : s.mix.clipsOk :=
  State.clipsOk_of_holdings s.keepsShow_mix.sized
    (Prod.ext rfl (by simp only [State.holdings, State.mix, List.map_map]; rfl)) hs

/-! ### The changes of show state (chapter 1) -/

theorem State.clipsOk_stopDeck {s : State} (hs : s.clipsOk) {d : Nat} (hd : d < 2) : (s.stopDeck d).clipsOk := by
  unfold State.stopDeck
  split
  · exact State.clipsOk_emptyDeck hs hd
  · exact hs

/-- The entry into STOPPED releases the clips of the sounding decks, deck by deck (R184). -/
theorem State.clipsOk_enterStopped {s : State} (hs : s.clipsOk) : s.enterStopped.clipsOk := by
  by_cases h : s.timer.showState = .stopped
  · rwa [State.enterStopped_of_stopped h]
  · have hcleared : s.clearEffects.clipsOk :=
      State.clipsOk_of_holdings State.clearEffects_sized (State.holdings_of_backstage s.backstage_clearEffects) hs
    have hdecks := clipsOk_forEachDeck (f := State.stopDeck) (fun hs hd => State.clipsOk_stopDeck hs hd) hcleared
    generalize hu : forEach [0, 1] State.stopDeck s.clearEffects = u at hdecks
    rw [State.enterStopped_eq h hu]
    exact State.clipsOk_of_holdings (s := u) id rfl hdecks

theorem endDeck_holding (fade : Nat) (k : Deck) : (endDeck fade k).holding = k.holding := by
  unfold endDeck
  split <;> rfl

/-- The entry into ENDING leaves each deck what it holds. -/
theorem State.clipsOk_enterEnding (fade : Nat) {s : State} (hs : s.clipsOk) : (s.enterEnding fade).clipsOk := by
  refine State.clipsOk_of_holdings (s.keepsShow_enterEnding fade).sized ?_ hs
  have hpass := backstage_forEach (fun i u => (u.endRecord_change s.timer.clock fade i).backstage) (List.range 256) s
  generalize hu : forEach (List.range 256) (State.endRecord s.timer.clock fade) s = u at hpass
  rw [State.enterEnding_eq hu, ← State.holdings_of_backstage hpass]
  refine Prod.ext rfl ?_
  show (u.decks.table.map (endDeck fade)).map Deck.holding = u.decks.table.map Deck.holding
  rw [List.map_map]
  exact List.map_congr_left fun k _ => endDeck_holding fade k

theorem State.clipsOk_endShow (ms : Nat) {s : State} (hs : s.clipsOk) : (s.endShow ms).clipsOk := by
  unfold State.endShow
  split
  · exact State.clipsOk_enterStopped hs
  · exact State.clipsOk_enterEnding _ hs

theorem State.clipsOk_takeEndTime {s : State} (hs : s.clipsOk) : s.takeEndTime.clipsOk := by
  unfold State.takeEndTime
  split
  · exact State.clipsOk_enterStopped hs
  · exact hs

theorem State.clipsOk_takeSilence {s : State} (hs : s.clipsOk) : s.takeSilence.clipsOk := by
  unfold State.takeSilence
  split
  · exact State.clipsOk_of_holdings (s := s.endShow _) id rfl (State.clipsOk_endShow _ hs)
  · exact hs

theorem State.clipsOk_assertStop {s : State} (hs : s.clipsOk) : s.assertStop.clipsOk :=
  State.clipsOk_enterStopped (State.clipsOk_of_holdings (s := s) id rfl hs)

theorem State.clipsOk_takeStop {s : State} (hs : s.clipsOk) : s.takeStop.clipsOk := by
  unfold State.takeStop
  split
  · exact State.clipsOk_assertStop hs
  · exact hs

theorem State.clipsOk_takeDeckPeriod {s : State} (hs : s.clipsOk) : s.takeDeckPeriod.clipsOk := by
  have hends : s.takeShowEnds.clipsOk := State.clipsOk_takeEndTime (State.clipsOk_takeSilence (State.clipsOk_takeStop hs))
  rcases s.takeDeckPeriod_eq with ⟨-, h⟩ | ⟨-, -, h⟩ | ⟨-, -, h⟩ <;> rw [h]
  · exact hs
  · exact hends
  · have hdecks := clipsOk_forEachDeck (f := State.processDeck) (fun hs hd => State.clipsOk_processDeck hs hd) hends
    exact (State.keepsShow_modifyDue ..).clipsOk (State.holdings_taken rfl) hdecks

/-! ### The sample period (R1) -/

theorem State.clipsOk_takeGapEnds {s : State} (hs : s.clipsOk) : (forEach (List.range 4) State.takeGapEnd s).clipsOk :=
  (State.keepsShow_forEach _ _ State.keepsShow_takeGapEnd s).clipsOk_of_backstage
    (backstage_forEach (f := State.takeGapEnd) (fun _ _ => rfl) _ s) hs

theorem State.clipsOk_takePresences {s : State} (hs : s.clipsOk) : (forEach (List.range 8) State.takePresence s).clipsOk :=
  (State.keepsShow_forEach _ _ State.keepsShow_takePresence s).clipsOk_of_backstage
    (backstage_forEach State.backstage_takePresence _ s) hs

theorem State.clipsOk_takeEnvelope {s : State} (hs : s.clipsOk) : s.takeEnvelope.clipsOk :=
  s.keepsShow_takeEnvelope.clipsOk s.holdings_takeEnvelope hs

theorem State.clipsOk_takeEffects {s : State} (hs : s.clipsOk) : s.takeEffects.clipsOk :=
  s.keepsShow_takeEffects.clipsOk s.holdings_takeEffects hs

theorem State.clipsOk_takeWind {s : State} (hs : s.clipsOk) : s.takeWind.clipsOk :=
  s.keepsShow_takeWind.clipsOk s.holdings_takeWind hs

theorem State.clipsOk_takePumps {s : State} (hs : s.clipsOk) : s.takePumps.clipsOk :=
  s.keepsShow_takePumps.clipsOk s.holdings_takePumps hs

theorem State.clipsOk_takeJet {s : State} (hs : s.clipsOk) : s.takeJet.clipsOk :=
  s.keepsShow_takeJet.clipsOk s.holdings_takeJet hs

theorem State.clipsOk_takeLight {s : State} (hs : s.clipsOk) : s.takeLight.clipsOk :=
  s.keepsShow_takeLight.clipsOk s.holdings_takeLight hs

theorem State.clipsOk_takeLevelLow {s : State} (hs : s.clipsOk) : s.takeLevelLow.clipsOk :=
  s.keepsShow_takeLevelLow.clipsOk_of_backstage s.backstage_takeLevelLow hs

theorem State.clipsOk_takeLevelRestored {s : State} (hs : s.clipsOk) : s.takeLevelRestored.clipsOk :=
  s.keepsShow_takeLevelRestored.clipsOk_of_backstage s.backstage_takeLevelRestored hs

theorem State.clipsOk_takeSave {s : State} (hs : s.clipsOk) : s.takeSave.clipsOk :=
  s.keepsShow_takeSave.clipsOk_of_backstage s.backstage_takeSave hs

/-- What is settled of the lines, the inputs and the show. -/
theorem State.clipsOk_takeInputs {s : State} (hs : s.clipsOk) :
    s.takeStop.takeLevelLow.takeLevelRestored.takeSilence.takeEndTime.clipsOk :=
  State.clipsOk_takeEndTime (State.clipsOk_takeSilence
    (State.clipsOk_takeLevelRestored (State.clipsOk_takeLevelLow (State.clipsOk_takeStop hs))))

/-- What is settled of the boundary. -/
theorem State.clipsOk_takeBoundary {s : State} (hs : s.clipsOk) :
    s.takeEffects.takeWind.takePumps.takeJet.takeLight.takeSave.clipsOk :=
  State.clipsOk_takeSave (State.clipsOk_takeLight (State.clipsOk_takeJet
    (State.clipsOk_takePumps (State.clipsOk_takeWind (State.clipsOk_takeEffects hs)))))

/-- What is settled after the lines, the envelope and the presence inputs, in its order (log entry 3). -/
theorem State.settle_eq_of_inputs {s u : State} (hu : forEach (List.range 8) State.takePresence
    (forEach (List.range 4) State.takeGapEnd s).takeEnvelope = u) : s.settle =
      u.takeStop.takeLevelLow.takeLevelRestored.takeSilence.takeEndTime.takeEffects.takeWind.takePumps.takeJet.takeLight.takeSave := by
  subst hu
  rfl

theorem State.clipsOk_settle {s : State} (hs : s.clipsOk) : s.settle.clipsOk := by
  have hinputs := State.clipsOk_takePresences (State.clipsOk_takeEnvelope (State.clipsOk_takeGapEnds hs))
  generalize hu : forEach (List.range 8) State.takePresence (forEach (List.range 4) State.takeGapEnd s).takeEnvelope = u
    at hinputs
  rw [State.settle_eq_of_inputs hu]
  exact State.clipsOk_takeBoundary (State.clipsOk_takeInputs hinputs)

theorem State.clipsOk_sampleInputs (i : Inputs) {s : State} (hs : s.clipsOk) : (s.sampleInputs i).clipsOk :=
  (s.keepsShow_sampleInputs i).clipsOk rfl hs

theorem State.clipsOk_countPeriod {s : State} (hs : s.clipsOk) : s.countPeriod.clipsOk :=
  s.keepsShow_countPeriod.clipsOk rfl hs

theorem State.clipsOk_samplePeriod (i : Inputs) {s : State} (hs : s.clipsOk) : (s.samplePeriod i).clipsOk := by
  have hmixed := State.clipsOk_mix (State.clipsOk_takeDeckPeriod (State.clipsOk_settle hs))
  have hstopped := clipsOk_forEachDeck (f := State.takeDeckStop) (fun hs hd => State.clipsOk_takeDeckStop hs hd) hmixed
  exact State.clipsOk_countPeriod (State.clipsOk_sampleInputs i hstopped)

/-! ### The commands of chapter 9 -/

theorem clipsOk_checked {l : List (Bool × ResultCode)} {go : Handler} {s : State} (hs : s.clipsOk)
    (h : (∀ c ∈ l, c.1 = false) → (go s).1.clipsOk) : (checked l go s).1.clipsOk := by
  cases hl : firstFailure l with
  | none => rw [checked_of_none go s hl]; exact h (firstFailure_eq_none.1 hl)
  | some c => rwa [checked_of_some go s hl]

theorem clipsOk_handleClipRetire (h : Half) {s : State} (hs : s.clipsOk) : (handleClipRetire h s).1.clipsOk := by
  unfold handleClipRetire
  split
  · exact hs
  next c hc =>
  have hslot := (State.lookupClip_eq_some.1 hc).2
  obtain ⟨-, hrefs, hheld⟩ := hs.clipKept hslot
  split
  · next hfree => exact State.clipsOk_freeClip hs (hrefs ▸ hfree.2)
  · next hkept =>
    refine State.clipsOk_retireClip hs fun c' hc' => ?_
    obtain rfl := Option.some.inj (hslot.symm.trans hc')
    by_cases hr : c.state = .retiring
    · exact hheld hr
    · exact Nat.pos_of_ne_zero fun hz => hkept ⟨hr, hz⟩

/-- Of two changes of a deck, the second says what it holds. -/
theorem State.holdings_modifyDeck_modifyDeck {f : Deck → Deck} (hf : ∀ k k', (f k).holding = (f k').holding) (d : Nat)
    (g : Deck → Deck) (s : State) : ((s.modifyDeck d g).modifyDeck d f).holdings = (s.modifyDeck d f).holdings := by
  refine Prod.ext rfl (List.ext_getElem? fun j => ?_)
  simp only [State.holdings, State.modifyDeck, List.getElem?_map, List.getElem?_modify]
  cases s.decks.table[j]? with
  | none => rfl
  | some k => by_cases hj : d = j <;> simp [hj, hf (g k) k]

/-- A clip that is not RETIRING is still in the table once a deck has released its own. -/
theorem State.clipsOk.lookupClip_emptyDeck {s : State} (hs : s.clipsOk) (d : Nat) {x : Half} {c : Clip}
    (hc : s.lookupClip x = some c) (hstate : c.state ≠ .retiring) : ((s.emptyDeck d).lookupClip x).isSome = true := by
  obtain ⟨hn, hslot⟩ := State.lookupClip_eq_some.1 hc
  have hnames : (s.emptyDeck d).namesClip x := by
    obtain ⟨_, _, heq, hgen, -⟩ := s.releaseHeld_eq d
    exact (State.namesClip_congr (s := s) (by rw [State.emptyDeck, heq]; exact hgen) x).2 hn
  rw [State.lookupClip_of_names hnames, hs.clipSlot_emptyDeck]
  simp [ClipSlot.released, hslot, hstate]

/-- DECK_CUE: the deck becomes EMPTY and takes the clip. -/
theorem State.clipsOk_cueDeck {s : State} (hs : s.clipsOk) {d : Nat} (hd : d < 2) {x : Half} {c : Clip}
    (hc : s.lookupClip x = some c) (hstate : c.state ≠ .retiring) (cue : Nat) :
    (((s.releaseHeld d).takeClip x).modifyDeck d fun k => { k with state := .cued, clip := some x, cue := cue }).clipsOk := by
  have hempty := State.clipsOk_emptyDeck hs hd
  have hlen : (s.releaseHeld d).decks.table.length = 2 := by
    rw [(s.deckChange_releaseHeld d).length]
    exact (State.sized_clips hs.1).2.2
  have hnone : ((s.emptyDeck d).deck d).clip = none := by
    rw [State.emptyDeck, State.deck_modifyDeck_self (by omega)]
    rfl
  refine State.clipsOk_of_holdings (fun _ => ?_) ?_
    (State.clipsOk_takeClip hempty hd hnone (hs.lookupClip_emptyDeck d hc hstate)
      (f := fun k => { k with state := .cued, clip := some x, cue := cue }) (fun _ => rfl) (fun _ => nofun))
  · exact ((s.keepsShow_releaseHeld _).trans
      ((State.keepsShow_modifyClipSlot ..).trans (State.keepsShow_modifyDeck ..))).sized hs.1
  · exact (State.holdings_modifyDeck_modifyDeck (fun _ _ => rfl) d _ ((s.releaseHeld d).takeClip x)).symm

theorem deck_lt_of_pass {d : Byte} (h : (badDeck d).1 = false) : d.toNat < 2 := by
  simp only [badDeck, decide_eq_false_iff_not] at h
  omega

theorem clipsOk_handleDeckCue (d : Byte) (h : Half) (cue : Quad) {s : State} (hs : s.clipsOk) :
    (handleDeckCue d h cue s).1.clipsOk := by
  refine clipsOk_checked hs fun hpass => ?_
  simp only [List.forall_mem_cons] at hpass
  obtain ⟨hd, -, hclip, hretiring, -, -⟩ := hpass
  obtain ⟨c, hc⟩ := Option.isSome_iff_exists.1 (by simpa using hclip)
  exact State.clipsOk_cueDeck hs (deck_lt_of_pass hd) hc (by simpa [hc] using hretiring) cue.toNat

theorem clipsOk_handleDeckStart (d code : Byte) (start : Quad) {s : State} (hs : s.clipsOk) :
    (handleDeckStart d code start s).1.clipsOk := by
  refine clipsOk_checked hs fun hpass => State.clipsOk_modifyDeck hs ?_
  simp only [List.forall_mem_cons] at hpass
  obtain ⟨-, -, hcued, -⟩ := hpass
  have hcued : (s.deck d.toNat).state = .cued := by simpa using hcued
  simp [Deck.holding, hcued]

theorem State.clipsOk_stopDeckBy {s : State} (hs : s.clipsOk) {d : Nat} (hd : d < 2) (ramp : Nat) :
    (s.stopDeckBy d ramp).clipsOk := by
  have hramped (k : Deck) : (if ramp = 0 ∨ k.gain = 0 then s.endDeckNow d
      else s.modifyDeck d fun k =>
        { k with target := 0, step := ceilDiv k.gain (periodsOfMs ramp), stopPending := true }).clipsOk := by
    split
    · exact State.clipsOk_endDeckNow hs hd
    · exact State.clipsOk_modifyDeck hs rfl
  unfold State.stopDeckBy
  dsimp only
  split
  · exact hs
  · exact State.clipsOk_emptyDeck hs hd
  · exact State.clipsOk_emptyDeck hs hd
  · exact hramped _
  · exact hramped _

theorem clipsOk_handleDeckStop (d : Byte) (ramp : Half) {s : State} (hs : s.clipsOk) :
    (handleDeckStop d ramp s).1.clipsOk :=
  clipsOk_checked hs fun hpass =>
    State.clipsOk_stopDeckBy hs (deck_lt_of_pass (hpass _ List.mem_cons_self)) _

theorem clipsOk_handleDeckGain (d : Byte) (target ramp : Half) {s : State} (hs : s.clipsOk) :
    (handleDeckGain d target ramp s).1.clipsOk := by
  refine clipsOk_checked hs fun _ => State.clipsOk_modifyDeck hs ?_
  unfold Deck.setGain
  split <;> rfl

/-! ### Every handler -/

theorem holdings_checked {l : List (Bool × ResultCode)} {go : Handler} {s : State} (h : (go s).1.holdings = s.holdings) :
    (checked l go s).1.holdings = s.holdings := by
  cases hl : firstFailure l with
  | none => rwa [checked_of_none go s hl]
  | some c => rw [checked_of_some go s hl]

theorem backstage_checked {l : List (Bool × ResultCode)} {go : Handler} {s : State} (h : (go s).1.backstage = s.backstage) :
    (checked l go s).1.holdings = s.holdings := holdings_checked (State.holdings_of_backstage h)

theorem holdings_handleEffectAdd (p : EffectAddParams) (s : State) : (handleEffectAdd p s).1.holdings = s.holdings := by
  unfold handleEffectAdd
  split
  · rfl
  refine backstage_checked ?_
  split
  · rfl
  split
  · exact (s.freeRecord_change _).backstage
  · rfl

theorem holdings_handleEffectEdit (h : Half) (timing : Byte) (t : Quad) (set : Half) (v : EditValues) (s : State) :
    (handleEffectEdit h timing t set v s).1.holdings = s.holdings := by
  unfold handleEffectEdit
  split
  · split
    · rfl
    refine backstage_checked ?_
    unfold editAccepted
    dsimp only
    split
    · exact State.backstage_editAtOnce ..
    split
    · exact State.backstage_stageEdit ..
    · rfl
  · rfl

theorem holdings_handleEffectRetire (h : Half) (mode : Byte) (s : State) :
    (handleEffectRetire h mode s).1.holdings = s.holdings := by
  unfold handleEffectRetire
  split
  · rfl
  split
  · rfl
  split
  · exact State.holdings_of_backstage (s.freeRecord_change _).backstage
  split
  · exact State.holdings_of_backstage (State.imposeFade_change ..).backstage
  · rfl

theorem holdings_handleEffectQuery (h : Half) (s : State) : (handleEffectQuery h s).1.holdings = s.holdings := by
  unfold handleEffectQuery
  split <;> rfl

theorem holdings_handleGroupDefine (g kind : Byte) (members : List Half) (s : State) :
    (handleGroupDefine g kind members s).1.holdings = s.holdings := by
  unfold handleGroupDefine
  split
  · rfl
  · exact holdings_checked rfl

theorem holdings_handleClipQuery (h : Half) (s : State) : (handleClipQuery h s).1.holdings = s.holdings := by
  unfold handleClipQuery
  split
  · rfl
  · split <;> rfl

/-- The commands that touch a clip or what a deck holds. -/
def isClipCommand : Instr → Bool
  | .showEnd _ | .showStop | .clipCreate _ _ | .clipRetire _ | .deckCue _ _ _ | .deckStart _ _ _ | .deckStop _ _
  | .deckGain _ _ _ => true
  | _ => false

/-- Every other command leaves both. -/
theorem holdings_handlerOf {c : Instr} {h : Handler} (hc : handlerOf c = some h) (hclip : isClipCommand c = false)
    (s : State) : (h s).1.holdings = s.holdings := by
  cases c <;> cases hc
  case showEnd | showStop | clipCreate | clipRetire | deckCue | deckStart | deckStop | deckGain => cases hclip
  case effectAdd => exact holdings_handleEffectAdd _ s
  case effectEdit => exact holdings_handleEffectEdit _ _ _ _ _ s
  case effectRetire => exact holdings_handleEffectRetire _ _ s
  case effectQuery => exact holdings_handleEffectQuery _ s
  case groupDefine => exact holdings_handleGroupDefine _ _ _ s
  case nozzleSet => exact backstage_checked (s.backstage_moveClaims ..)
  case pumpLockout => exact backstage_checked (s.backstage_lockOut _)
  case zoneSet => exact backstage_checked (s.backstage_setZone _)
  case zoneRelease => exact backstage_checked (backstage_forEach (f := fun z u => u.modifyZone z _) (fun _ _ => rfl) _ s)
  case fixtureSet => exact backstage_checked (s.backstage_setFixture ..)
  case clipQuery => exact holdings_handleClipQuery _ s
  case deckQuery => exact holdings_checked s.holdings_takeEnvelope
  case audioSet => exact s.holdings_takeEnvelope
  case showQuery | linkQuery | storeQuery | lightMaster => rfl
  all_goals exact holdings_checked rfl

theorem clipsOk_clipCommand {c : Instr} {h : Handler} (hc : handlerOf c = some h) (hclip : isClipCommand c = true) {s : State}
    (hs : s.clipsOk) : (h s).1.clipsOk := by
  cases c <;> cases hclip <;> cases hc
  case showEnd => exact clipsOk_checked hs fun _ => State.clipsOk_endShow _ hs
  case showStop => exact State.clipsOk_enterStopped hs
  case clipCreate => exact clipsOk_handleClipCreate _ _ hs
  case clipRetire => exact clipsOk_handleClipRetire _ hs
  case deckCue => exact clipsOk_handleDeckCue _ _ _ hs
  case deckStart => exact clipsOk_handleDeckStart _ _ _ hs
  case deckStop => exact clipsOk_handleDeckStop _ _ hs
  case deckGain => exact clipsOk_handleDeckGain _ _ _ hs

theorem clipsOk_handlerOf {c : Instr} {h : Handler} (hc : handlerOf c = some h) {s : State} (hs : s.clipsOk) :
    (h s).1.clipsOk := by
  cases hclip : isClipCommand c with
  | false => exact (keepsShow_handlerOf hc s).clipsOk (holdings_handlerOf hc hclip s) hs
  | true => exact clipsOk_clipCommand hc hclip hs

theorem clipsOk_handlerOfTransfer (transfer : List Byte) {s : State} (hs : s.clipsOk) :
    (handlerOfTransfer transfer s).1.clipsOk := by
  unfold handlerOfTransfer
  cases frameTransfer transfer with
  | command c =>
    show ((handlerOf c).getD (refuse .unknownCommand) s).1.clipsOk
    cases hc : handlerOf c with
    | none => exact hs
    | some h => exact clipsOk_handlerOf hc hs
  | unknownCommand => exact hs
  | badLength => exact hs

/-- The link is not among what the invariant reads. -/
theorem State.clipsOk_setLink {s : State} (l : ShowLink) (hs : s.clipsOk) : State.clipsOk { s with link := l } :=
  State.clipsOk_of_holdings (s := s) id rfl hs

theorem clipsOk_dispatch {h : Handler} (hh : ∀ {s : State}, s.clipsOk → (h s).1.clipsOk) {s : State} (hs : s.clipsOk) :
    (dispatch h s).clipsOk :=
  State.clipsOk_setLink _ (hh (State.clipsOk_setLink _ hs))

theorem clipsOk_takeCommand {h : Handler} (hh : ∀ {s : State}, s.clipsOk → (h s).1.clipsOk) {s : State} (hs : s.clipsOk) :
    (takeCommand h s).clipsOk := by
  unfold takeCommand
  split
  · exact clipsOk_dispatch hh hs
  · exact hs

/-! ### Events -/

theorem clipsOk_commandPacket (packet : List Byte) {s t : State} (hs : s.clipsOk)
    (h : exec (.commandPacket packet) s = .next t) : t.clipsOk := by
  rcases execCommandPacket_eq packet s with ⟨-, heq⟩ | ⟨-, -, heq⟩ | ⟨-, -, heq⟩ <;>
    obtain rfl := Host.Outcome.next.inj (heq.symm.trans h)
  · exact hs
  · exact State.clipsOk_setLink _ hs
  · exact clipsOk_dispatch (clipsOk_handlerOfTransfer _) hs

theorem clipsOk_malformedCommand (transfer : List Byte) {s t : State} (hs : s.clipsOk)
    (h : exec (.malformedCommand transfer) s = .next t) : t.clipsOk := by
  cases h
  split
  · exact clipsOk_takeCommand (h := refuse _) (fun hs => hs) hs
  · exact hs

/-- A full reset leaves no clip, EMPTY decks and no byte of sample memory (R201). -/
theorem State.clipsOk_fullReset {s : State} (hs : s.clipsOk) :
    State.clipsOk { startUp s.store with pending := s.pending } := by
  have hsized := s.keepsShow_fullReset.sized hs.1
  have hslot (i : Nat) : (State.clipSlot { startUp s.store with pending := s.pending } i).clip = none := by
    show ((List.replicate 64 ClipSlot.blank).getD i ClipSlot.blank).clip = none
    rw [List.getD_eq_getElem?_getD, List.getElem?_replicate]
    split <;> rfl
  have howner (p : Nat) : (State.clips { startUp s.store with pending := s.pending }).owner.getD p none = none := by
    show (List.replicate 2048 none).getD p none = none
    rw [List.getD_eq_getElem?_getD, List.getElem?_replicate]
    split <;> rfl
  refine ⟨hsized, fun i _ c hc => ?_, fun p _ i hi => ?_, fun k hk => ?_, SampleMemory.wf_nil⟩
  · rw [Option.mem_def, hslot] at hc
    cases hc
  · rw [Option.mem_def, howner] at hi
    cases hi
  · obtain rfl : k = Deck.blank := List.eq_of_mem_replicate hk
    exact ⟨⟨fun _ => rfl, fun _ => rfl⟩, fun _ hh => nomatch hh⟩

/-- The events that touch a clip or what a deck holds, and those that carry a command. -/
def isClipEvent : Instr → Bool
  | .fullReset | .samplePeriod _ | .commandPacket _ | .malformedCommand _ | .clipBlock _ | .endTimeReached
  | .silenceTimerExpiry | .emergencyStopAssertion | .deckPeriod | .deckBegin _ | .deckStopComplete _ => true
  | _ => false

/-- Every other event leaves both. -/
theorem holdings_event {c : Instr} {s t : State} (hc : handlerOf c = none) (hclip : isClipEvent c = false)
    (h : exec c s = .next t) : t.holdings = s.holdings := by
  cases c <;> cases hc
  case fullReset | samplePeriod | commandPacket | malformedCommand | clipBlock | endTimeReached | silenceTimerExpiry
      | emergencyStopAssertion | deckPeriod | deckBegin | deckStopComplete => cases hclip
  all_goals cases h
  case linkAttach | linkReset => rfl
  case replyPoll a => exact State.holdings_of_backstage (s.backstage_pollReply a)
  case noticePoll a => exact State.holdings_of_backstage (s.backstage_pollNotice a)
  case effectBoundary => exact s.holdings_takeEffects
  case pendingEditApplied | effectStartReached | naturalEnd | fadeComplete => exact s.holdings_takeEffectsIf _
  case jetFrame => exact s.holdings_takeJet
  case envelopeUpdate => exact s.holdings_takeEnvelope
  case lightComputation => exact s.holdings_takeLight
  case pumpUpdate => exact s.holdings_takePumps
  case pumpStartTimeout | pumpStopTimeout | destage | startGrant => exact holdings_ite s.holdings_takePumps rfl
  case windGate => exact s.holdings_takeWind
  case windHoldRelease => exact holdings_ite s.holdings_takeWind rfl
  case presenceDebounced k => exact State.holdings_of_backstage (s.backstage_takePresence k)
  case levelLow => exact State.holdings_of_backstage s.backstage_takeLevelLow
  case levelRestored => exact State.holdings_of_backstage s.backstage_takeLevelRestored
  case lineGapEnd l => rfl
  case saveCompletion => exact State.holdings_of_backstage s.backstage_takeSave

theorem clipsOk_clipEvent {c : Instr} {s t : State} (hclip : isClipEvent c = true) (hs : s.clipsOk)
    (h : exec c s = .next t) : t.clipsOk := by
  cases c <;> cases hclip
  case commandPacket packet => exact clipsOk_commandPacket packet hs h
  case malformedCommand transfer => exact clipsOk_malformedCommand transfer hs h
  all_goals obtain rfl := Host.Outcome.next.inj h
  case fullReset => exact State.clipsOk_fullReset hs
  case samplePeriod i => exact State.clipsOk_samplePeriod i hs
  case clipBlock packets => exact forEach_keeps State.clipsOk packets _ (fun p _ _ => State.clipsOk_clipPacket p) s hs
  case endTimeReached => exact State.clipsOk_takeEndTime hs
  case silenceTimerExpiry => exact State.clipsOk_takeSilence hs
  case emergencyStopAssertion =>
    split
    · exact State.clipsOk_assertStop hs
    · exact hs
  case deckPeriod => exact State.clipsOk_takeDeckPeriod hs
  case deckBegin d =>
    split
    · exact State.clipsOk_takeDeckPeriod hs
    · exact hs
  case deckStopComplete d => exact State.clipsOk_takeDeckStop hs d.isLt

/-! ### Every step -/

/-- Every command and event keeps the clip invariant. -/
theorem exec_clipsOk {c : Instr} {s t : State} (hs : s.clipsOk) (h : exec c s = .next t) : t.clipsOk := by
  cases hc : handlerOf c with
  | some handler =>
    obtain rfl := Host.Outcome.next.inj ((exec_of_handlerOf hc s).symm.trans h)
    exact clipsOk_takeCommand (clipsOk_handlerOf hc) hs
  | none =>
    cases hclip : isClipEvent c with
    | true => exact clipsOk_clipEvent hclip hs h
    | false =>
      obtain ⟨u, hu, hshow⟩ := exec_keepsShow c s
      obtain rfl := Host.Outcome.next.inj (hu.symm.trans h)
      exact hshow.clipsOk (holdings_event hc hclip h) hs

/-- Settles O57: counts go with the decks that take and release a clip, pages with the clip that is placed and freed, and all
else leaves both. -/
theorem clipStoreKept : Obligations.ClipStoreKept := by
  unfold Obligations.ClipStoreKept
  intro s t hs h
  unfold step at h
  split at h
  · cases h
    exact hs
  · next rest _ =>
    exact exec_clipsOk (State.clipsOk_of_holdings (s := s) (t := { s with pending := rest }) id rfl hs) h

end Sys2Proof.Machine
end

section
/-! PROOF. ENVELOPE_UPDATE (R186), and that a SAMPLE_PERIOD leaves nothing outstanding but the boundaries it reaches (R1, R2,
log entry 3). -/
namespace Sys2Proof.Machine

/-! ### What taking an event leaves outstanding -/

/-- No event of a boundary that is not outstanding in `d` is outstanding in `e`. -/
structure Due.Falls (d e : Due) : Prop where
  envelope : d.envelope = false → e.envelope = false
  effects : d.effects = false → e.effects = false
  jet : d.jet = false → e.jet = false
  light : d.light = false → e.light = false
  pump : d.pump = false → e.pump = false
  wind : d.wind = false → e.wind = false

/-- From `s` to `t` no event of a boundary becomes outstanding, and the device counter stands. -/
structure State.Settles (s t : State) : Prop where
  device : t.timer.device = s.timer.device
  falls : s.due.Falls t.due

theorem State.Settles.refl (s : State) : s.Settles s := ⟨rfl, id, id, id, id, id, id⟩

theorem State.Settles.trans {s t u : State} (h : s.Settles t) (k : t.Settles u) : s.Settles u := by
  obtain ⟨hdevice, h1, h2, h3, h4, h5, h6⟩ := h
  obtain ⟨kdevice, k1, k2, k3, k4, k5, k6⟩ := k
  exact ⟨kdevice.trans hdevice, k1 ∘ h1, k2 ∘ h2, k3 ∘ h3, k4 ∘ h4, k5 ∘ h5, k6 ∘ h6⟩

/-- An event taken: its flag goes down. -/
theorem State.Settles.taken {s t : State} {f : Due → Due} (h : s.Settles t) (hf : ∀ d : Due, d.Falls (f d)) :
    s.Settles (t.modifyDue f) := h.trans ⟨rfl, hf t.due⟩

theorem State.Settles.ite {c : Prop} [Decidable c] {s t u : State} (ht : s.Settles t) (hu : s.Settles u) :
    s.Settles (if c then t else u) := by
  split
  · exact ht
  · exact hu

/-- What leaves both the record and the counter. -/
theorem State.settles_of_same {s t : State} (hdue : t.due = s.due) (hdevice : t.timer.device = s.timer.device) :
    s.Settles t := by
  refine ⟨hdevice, ?_⟩
  rw [hdue]
  exact (State.Settles.refl s).falls

theorem State.settles_of_backstage {s t : State} (h : t.backstage = s.backstage) : s.Settles t := by
  obtain ⟨hdue, hdevice⟩ := Prod.ext_iff.1 (congrArg Prod.snd h)
  exact State.settles_of_same hdue hdevice

theorem State.settles_forEach {α : Type} {f : α → State → State} (h : ∀ a s, State.Settles s (f a s)) (l : List α)
    (s : State) : s.Settles (forEach l f s) :=
  forEach_keeps s.Settles l f (fun a _ _ ht => ht.trans (h a _)) s (.refl s)

/-! ### The changes of show state -/

theorem State.settles_enterStopped (s : State) : s.Settles s.enterStopped := by
  by_cases h : s.timer.showState = .stopped
  · rw [State.enterStopped_of_stopped h]
    exact .refl s
  · have hstop (d : Nat) (v : State) : v.Settles (v.stopDeck d) := by
      obtain ⟨_, _, heq, -, -⟩ := v.stopDeck_eq d
      rw [heq]
      exact State.settles_of_same rfl rfl
    have hdecks := (State.settles_of_backstage s.backstage_clearEffects).trans (State.settles_forEach hstop [0, 1] _)
    generalize hu : forEach [0, 1] State.stopDeck s.clearEffects = u at hdecks
    rw [State.enterStopped_eq h hu]
    exact hdecks.trans (State.settles_of_same rfl rfl)

theorem State.settles_enterEnding (fade : Nat) (s : State) : s.Settles (s.enterEnding fade) := by
  have hpass := backstage_forEach (fun i u => (u.endRecord_change s.timer.clock fade i).backstage) (List.range 256) s
  generalize hu : forEach (List.range 256) (State.endRecord s.timer.clock fade) s = u at hpass
  rw [State.enterEnding_eq hu]
  exact (State.settles_of_backstage hpass).trans (State.settles_of_same rfl rfl)

theorem State.settles_takeEndTime (s : State) : s.Settles s.takeEndTime := .ite s.settles_enterStopped (.refl s)

theorem State.settles_takeSilence (s : State) : s.Settles s.takeSilence := by
  have hends : s.Settles (s.endShow s.timer.storedFade) := .ite s.settles_enterStopped (s.settles_enterEnding _)
  exact .ite (hends.trans (State.settles_of_same rfl rfl)) (.refl s)

theorem State.settles_assertStop (s : State) : s.Settles s.assertStop := by
  refine State.Settles.trans ?_ (State.settles_enterStopped _)
  exact ⟨rfl, id, id, id, id, id, id⟩

theorem State.settles_takeStop (s : State) : s.Settles s.takeStop := .ite s.settles_assertStop (.refl s)

/-! ### The events of a boundary -/

theorem State.settles_takeEnvelope (s : State) : s.Settles s.takeEnvelope := by
  obtain ⟨_, h⟩ := s.takeEnvelope_outside
  rw [h]
  exact ⟨rfl, fun _ => rfl, id, id, id, id, id⟩

theorem State.settles_takeEffects (s : State) : s.Settles s.takeEffects := by
  obtain ⟨_, _, h⟩ := s.takeEffects_outside
  rw [h]
  exact ⟨rfl, id, fun _ => rfl, id, id, id, id⟩

theorem State.settles_takeWind (s : State) : s.Settles s.takeWind :=
  .ite ((State.settles_of_backstage s.backstage_windGate).taken fun _ => ⟨id, id, id, id, id, fun _ => rfl⟩) (.refl s)

theorem State.settles_takePumps (s : State) : s.Settles s.takePumps :=
  .ite ((State.settles_of_backstage s.backstage_pumpUpdate).taken fun _ => ⟨id, id, id, id, fun _ => rfl, id⟩) (.refl s)

theorem State.settles_atFrame (s : State) : s.Settles s.atFrame :=
  s.settles_takeEnvelope.trans (State.settles_takeEffects _)

theorem State.settles_takeJet (s : State) : s.Settles s.takeJet :=
  .ite ((s.settles_atFrame.trans (State.settles_of_backstage (State.backstage_jetFrame _))).taken
    fun _ => ⟨id, id, fun _ => rfl, id, id, id⟩) (.refl s)

theorem State.settles_takeLight (s : State) : s.Settles s.takeLight :=
  .ite ((s.settles_atFrame.trans (State.settles_of_backstage (State.backstage_lightCompute _))).taken
    fun _ => ⟨id, id, id, fun _ => rfl, id, id⟩) (.refl s)

theorem State.settles_takeSave (s : State) : s.Settles s.takeSave := State.settles_of_backstage s.backstage_takeSave

/-! ### An event taken is outstanding no more -/

theorem State.envelope_takeEnvelope (s : State) : s.takeEnvelope.due.envelope = false := by
  obtain ⟨_, h⟩ := s.takeEnvelope_outside
  rw [h]

theorem State.effects_takeEffects (s : State) : s.takeEffects.due.effects = false := by
  obtain ⟨_, _, h⟩ := s.takeEffects_outside
  rw [h]

/-- An event that is taken when its flag is up, the flag going down with it. -/
theorem due_ite_eq_false {s t : State} {flag : Due → Bool} (ht : flag t.due = false) :
    flag (if flag s.due then t else s).due = false := by
  cases h : flag s.due
  · exact h
  · exact ht

theorem State.wind_takeWind (s : State) : s.takeWind.due.wind = false := due_ite_eq_false (flag := Due.wind) rfl

theorem State.pump_takePumps (s : State) : s.takePumps.due.pump = false := due_ite_eq_false (flag := Due.pump) rfl

theorem State.jet_takeJet (s : State) : s.takeJet.due.jet = false := due_ite_eq_false (flag := Due.jet) rfl

theorem State.light_takeLight (s : State) : s.takeLight.due.light = false := due_ite_eq_false (flag := Due.light) rfl

/-! ### The sample period -/

/-- Nothing of a boundary is outstanding. -/
structure State.Settled (s : State) : Prop where
  envelope : s.due.envelope = false
  effects : s.due.effects = false
  jet : s.due.jet = false
  light : s.due.light = false
  pump : s.due.pump = false
  wind : s.due.wind = false

theorem State.Settles.settled {s t : State} (h : s.Settles t) (hs : s.Settled) : t.Settled :=
  ⟨h.falls.envelope hs.envelope, h.falls.effects hs.effects, h.falls.jet hs.jet, h.falls.light hs.light,
    h.falls.pump hs.pump, h.falls.wind hs.wind⟩

/-- What is settled of the inputs and the show. -/
theorem State.settles_takeInputs (s : State) :
    s.Settles s.takeStop.takeLevelLow.takeLevelRestored.takeSilence.takeEndTime :=
  s.settles_takeStop.trans <| (State.settles_of_backstage (State.backstage_takeLevelLow _)).trans <|
    (State.settles_of_backstage (State.backstage_takeLevelRestored _)).trans <|
    (State.settles_takeSilence _).trans (State.settles_takeEndTime _)

/-- The boundary's events are settled one after another, each outstanding no more once taken. -/
theorem State.settled_takeBoundary {s : State} (hs : s.due.envelope = false) :
    s.Settles s.takeEffects.takeWind.takePumps.takeJet.takeLight.takeSave
      ∧ s.takeEffects.takeWind.takePumps.takeJet.takeLight.takeSave.Settled := by
  have hlight := State.settles_takeSave s.takeEffects.takeWind.takePumps.takeJet.takeLight
  have hjet := (State.settles_takeLight s.takeEffects.takeWind.takePumps.takeJet).trans hlight
  have hpump := (State.settles_takeJet s.takeEffects.takeWind.takePumps).trans hjet
  have hwind := (State.settles_takePumps s.takeEffects.takeWind).trans hpump
  have heffects := (State.settles_takeWind s.takeEffects).trans hwind
  have hall := s.settles_takeEffects.trans heffects
  exact ⟨hall, hall.falls.envelope hs, heffects.falls.effects (State.effects_takeEffects _),
    hjet.falls.jet (State.jet_takeJet _), hlight.falls.light (State.light_takeLight _),
    hpump.falls.pump (State.pump_takePumps _), hwind.falls.wind (State.wind_takeWind _)⟩

/-- Settling leaves nothing of a boundary outstanding (log entry 3). -/
theorem State.settled_settle (s : State) : s.Settles s.settle ∧ s.settle.Settled := by
  have hgaps := State.settles_forEach (f := State.takeGapEnd) (fun _ _ => State.settles_of_same rfl rfl) (List.range 4) s
  have hpresence := State.settles_forEach (fun k u => State.settles_of_backstage (State.backstage_takePresence k u))
    (List.range 8) (forEach (List.range 4) State.takeGapEnd s).takeEnvelope
  have hinputs := (hgaps.trans (State.settles_takeEnvelope _)).trans hpresence
  have hnone := hpresence.falls.envelope (State.envelope_takeEnvelope _)
  generalize hu : forEach (List.range 8) State.takePresence (forEach (List.range 4) State.takeGapEnd s).takeEnvelope = u
    at hinputs hnone
  obtain ⟨hsettles, hsettled⟩ := State.settled_takeBoundary (u.settles_takeInputs.falls.envelope hnone)
  rw [State.settle_eq_of_inputs hu]
  exact ⟨hinputs.trans (u.settles_takeInputs.trans hsettles), hsettled⟩

theorem State.DeckChange.settles {d : Nat} {s t : State} (h : s.DeckChange d t) : s.Settles t := by
  obtain ⟨_, _, _, _, rfl⟩ := h.outside
  exact State.settles_of_same rfl rfl

theorem State.settles_takeDeckPeriod (s : State) : s.Settles s.takeDeckPeriod := by
  have hends : s.Settles s.takeShowEnds :=
    s.settles_takeStop.trans ((State.settles_takeSilence _).trans (State.settles_takeEndTime _))
  have hdecks := State.settles_forEach (fun d u => (u.deckChange_processDeck d).settles) [0, 1] s.takeShowEnds
  rcases s.takeDeckPeriod_eq with ⟨-, h⟩ | ⟨-, -, h⟩ | ⟨-, -, h⟩ <;> rw [h]
  · exact .refl s
  · exact hends
  · exact (hends.trans hdecks).taken fun _ => ⟨id, id, id, id, id, id⟩

/-- The decks, the mixer and the inputs of a period note no boundary. -/
theorem State.settles_period (i : Inputs) (s : State) :
    s.Settles ((forEach [0, 1] State.takeDeckStop s.takeDeckPeriod.mix).sampleInputs i) := by
  have hmix : s.takeDeckPeriod.Settles s.takeDeckPeriod.mix := State.settles_of_same rfl rfl
  have hstops := State.settles_forEach (fun d u => (u.deckChange_takeDeckStop d).settles) [0, 1] s.takeDeckPeriod.mix
  have hdecks := (s.settles_takeDeckPeriod.trans hmix).trans hstops
  generalize forEach [0, 1] State.takeDeckStop s.takeDeckPeriod.mix = u at hdecks ⊢
  exact hdecks.trans ⟨rfl, id, id, id, id, id, id⟩

/-- The counts note the boundaries that a period reaches, and the device counter is one higher (R1, R2). -/
theorem State.countPeriod_due {s : State} (hs : s.Settled) :
    (s.countPeriod.due.envelope = true ↔ s.countPeriod.nozzles.phase = 0)
    ∧ (s.countPeriod.due.effects = true ↔ s.countPeriod.nozzles.phase = 0)
    ∧ (s.countPeriod.due.jet = true ↔ s.countPeriod.nozzles.phase = 0)
    ∧ (s.countPeriod.due.light = true ↔ s.countPeriod.lights.phase = 0)
    ∧ (s.countPeriod.due.pump = true ↔ s.countPeriod.pumps.phase = 0)
    ∧ (s.countPeriod.due.wind = true ↔ s.countPeriod.site.phase = 0)
    ∧ s.countPeriod.timer.device = s.timer.device + 1 := by
  obtain ⟨henvelope, heffects, hjet, hlight, hpump, hwind⟩ := hs
  simp [State.countPeriod, ShowTimer.count, henvelope, heffects, hjet, hlight, hpump, hwind]

/-- Settles O51: the update as it is written, and a period by what it settles first and notes last. -/
theorem envelopeAndSettling : Obligations.EnvelopeAndSettling := by
  unfold Obligations.EnvelopeAndSettling
  refine fun s => ⟨fun h => congrArg Host.Outcome.next (State.takeEnvelope_idle h), fun h => ?_,
    fun i => ⟨_, exec_samplePeriod i s, ?_⟩⟩
  · exact congrArg Host.Outcome.next (if_pos h)
  · obtain ⟨hsettles, hsettled⟩ := s.settled_settle
    have hperiod := State.settles_period i s.settle
    generalize (forEach [0, 1] State.takeDeckStop s.settle.takeDeckPeriod.mix).sampleInputs i = u at hperiod ⊢
    obtain ⟨h1, h2, h3, h4, h5, h6, hdevice⟩ := State.countPeriod_due (hperiod.settled hsettled)
    exact ⟨h1, h2, h3, h4, h5, h6, by rw [hdevice, (hsettles.trans hperiod).device]⟩

end Sys2Proof.Machine
end

section
/-! PROOF. The deck commands: DECK_CUE (R177), DECK_START (R178), DECK_STOP (R183) and DECK_GAIN (R182). -/
namespace Sys2Proof.Machine

/-! ### Decks and the taking of a transfer -/

/-- Changes of a deck that agree on the deck as it stands. -/
theorem State.modifyDeck_congr {s : State} {d : Nat} {f g : Deck → Deck} (h : f (s.deck d) = g (s.deck d)) :
    s.modifyDeck d f = s.modifyDeck d g := by
  have htable : s.decks.table.modify d f = s.decks.table.modify d g :=
    modify_congr_of_entry fun k hk => by
      have hread : s.deck d = k := by simp [State.deck, List.getD_eq_getElem?_getD, hk]
      rwa [hread] at h
  rw [State.modifyDeck, htable]
  rfl

/-- The taking of a transfer and a deck's release of its clip do not touch one another. -/
theorem State.releaseHeld_transferTaken (d : Nat) (s : State) :
    s.transferTaken.releaseHeld d = (s.releaseHeld d).transferTaken := by
  have hdeck : s.transferTaken.deck d = s.deck d := rfl
  have hlookup (x : Half) : s.transferTaken.lookupClip x = s.lookupClip x := rfl
  unfold State.releaseHeld
  rw [hdeck]
  cases (s.deck d).clip with
  | none => rfl
  | some x =>
    dsimp only
    unfold State.releaseClip
    rw [hlookup]
    cases s.lookupClip x with
    | none => rfl
    | some c =>
      dsimp only
      split <;> rfl

theorem State.emptyDeck_transferTaken (d : Nat) (s : State) :
    s.transferTaken.emptyDeck d = (s.emptyDeck d).transferTaken := by
  rw [State.emptyDeck, State.releaseHeld_transferTaken]
  rfl

theorem State.endDeckNow_transferTaken (d : Nat) (s : State) :
    s.transferTaken.endDeckNow d = (s.endDeckNow d).transferTaken := by
  rw [State.endDeckNow, State.emptyDeck_transferTaken]
  rfl

theorem State.state_emptyDeck {s : State} {d : Nat} (hd : d < s.decks.table.length) :
    ((s.emptyDeck d).deck d).state = .empty := by
  rw [State.emptyDeck, State.deck_modifyDeck_self (by rwa [(s.deckChange_releaseHeld d).length])]
  rfl

/-! ### DECK_CUE (R177) -/

/-- The checks of a DECK_CUE (R177). -/
def cueChecks (d : Byte) (h : Half) (cue : Quad) (s : State) : List (Bool × ResultCode) :=
  [badDeck d, ((s.deck d.toNat).sounding, .busy), ((s.lookupClip h).isNone, .staleHandle),
   ((s.lookupClip h).any fun c => c.state = .retiring, .wrongState),
   ((s.lookupClip h).any fun c => c.length ≤ cue.toNat, .badParam)]

/-- A deck that releases its clip and is cued with another. -/
def State.cueDeck (d : Nat) (h : Half) (cue : Nat) (s : State) : State :=
  ((s.releaseHeld d).takeClip h).modifyDeck d fun k => { k with state := .cued, clip := some h, cue := cue }

theorem exec_deckCue {d : Byte} {h : Half} {cue : Quad} {s : State} (hs : s.ready) : exec (.deckCue d h cue) s = .next (
    match firstFailure (cueChecks d h cue s) with
    | some c => s.answered c []
    | none => (s.cueDeck d.toNat h cue.toNat).answered .ok []) := by
  have htaken : s.transferTaken.cueDeck d.toNat h cue.toNat = (s.cueDeck d.toNat h cue.toNat).transferTaken := by
    rw [State.cueDeck, State.releaseHeld_transferTaken]
    rfl
  exact congrArg Host.Outcome.next (takeCommand_checks (checks := cueChecks d h cue)
    (f := State.cueDeck d.toNat h cue.toNat) (payload := fun _ => []) hs rfl htaken rfl)

/-! ### DECK_START (R178) -/

/-- The checks of a DECK_START (R178). -/
def startChecks (d code : Byte) (s : State) : List (Bool × ResultCode) :=
  [(decide (1 < d.toNat) || (deckStartCodeOf code).isNone, .badParam), (s.timer.showState = .ending, .wrongShowState),
   ((s.deck d.toNat).state ≠ .cued, .wrongState)]

theorem exec_deckStart {d code : Byte} {start t : Quad} {s : State} (hs : s.ready)
    (ht : (if deckStartCodeOf code = some .now then s.timer.clock else start) = t) :
    exec (.deckStart d code start) s = .next (
      match firstFailure (startChecks d code s) with
      | some c => s.answered c []
      | none => (s.modifyDeck d.toNat fun x => { x with state := .waiting, start := t }).answered .ok (put4 t.toNat)) := by
  have hresolved : takeCommand (handleDeckStart d code start) s = takeCommand (fun u => checked (startChecks d code u)
      (accept (State.modifyDeck d.toNat fun x => { x with state := .waiting, start := t }) fun _ => put4 t.toNat) u) s := by
    rw [takeCommand_of_ready hs, takeCommand_of_ready hs]
    subst ht
    rfl
  exact congrArg Host.Outcome.next (hresolved.trans (takeCommand_checks (checks := startChecks d code) hs rfl rfl rfl))

theorem deckStartCodeOf_eq_now {code : Byte} : deckStartCodeOf code = some .now ↔ code = 1 := by
  unfold deckStartCodeOf
  split
  · next h => subst h; decide
  · split
    · next h => simp [h]
    · next h => exact ⟨nofun, fun h1 => absurd h1 h⟩

theorem deckStartCodeOf_isNone {code : Byte} : (deckStartCodeOf code).isNone = true ↔ 2 ≤ code.toNat := by
  unfold deckStartCodeOf
  split
  · next h => subst h; decide
  · split
    · next h => subst h; decide
    · next h0 h1 =>
      simp only [Option.isNone_none, true_iff]
      bv_omega

/-! ### DECK_STOP (R183) -/

theorem State.stopDeckBy_empty {s : State} {d : Nat} (h : (s.deck d).state = .empty) (ramp : Nat) :
    s.stopDeckBy d ramp = s := by
  unfold State.stopDeckBy
  dsimp only
  rw [h]

theorem State.stopDeckBy_silent {s : State} {d : Nat} (h : (s.deck d).state = .cued ∨ (s.deck d).state = .waiting)
    (ramp : Nat) : s.stopDeckBy d ramp = s.emptyDeck d := by
  unfold State.stopDeckBy
  dsimp only
  rcases h with h | h <;> rw [h]

/-- A deck that plays stops at once, or ramps to silence with its stop pending. -/
theorem State.stopDeckBy_playing {s : State} {d : Nat} (h : (s.deck d).state = .playing ∨ (s.deck d).state = .starved)
    (ramp : Nat) : s.stopDeckBy d ramp =
      if ramp = 0 ∨ (s.deck d).gain = 0 then s.endDeckNow d
      else s.modifyDeck d fun x =>
        { x with target := 0, step := ceilDiv (s.deck d).gain (periodsOfMs ramp), stopPending := true } := by
  have hramp : (s.modifyDeck d fun x => { x with target := 0, step := ceilDiv x.gain (periodsOfMs ramp), stopPending := true })
      = s.modifyDeck d fun x =>
        { x with target := 0, step := ceilDiv (s.deck d).gain (periodsOfMs ramp), stopPending := true } :=
    State.modifyDeck_congr rfl
  rw [← hramp]
  unfold State.stopDeckBy
  dsimp only
  rcases h with h | h <;> rw [h]

theorem State.stopDeckBy_transferTaken (d ramp : Nat) (s : State) :
    s.transferTaken.stopDeckBy d ramp = (s.stopDeckBy d ramp).transferTaken := by
  have hdeck : s.transferTaken.deck d = s.deck d := rfl
  cases h : (s.deck d).state with
  | empty => rw [State.stopDeckBy_empty h, State.stopDeckBy_empty (hdeck ▸ h)]
  | cued => rw [State.stopDeckBy_silent (.inl h), State.stopDeckBy_silent (.inl (hdeck ▸ h)), State.emptyDeck_transferTaken]
  | waiting => rw [State.stopDeckBy_silent (.inr h), State.stopDeckBy_silent (.inr (hdeck ▸ h)), State.emptyDeck_transferTaken]
  | playing =>
    rw [State.stopDeckBy_playing (.inl h), State.stopDeckBy_playing (.inl (hdeck ▸ h)), hdeck, State.endDeckNow_transferTaken]
    split <;> rfl
  | starved =>
    rw [State.stopDeckBy_playing (.inr h), State.stopDeckBy_playing (.inr (hdeck ▸ h)), hdeck, State.endDeckNow_transferTaken]
    split <;> rfl

theorem exec_deckStop {d : Byte} {ramp : Half} {s : State} (hs : s.ready) : exec (.deckStop d ramp) s = .next (
    match firstFailure [badDeck d] with
    | some c => s.answered c []
    | none => (s.stopDeckBy d.toNat (rampMs ramp)).answered .ok
        (put1 ((s.stopDeckBy d.toNat (rampMs ramp)).deck d.toNat).state.code)) :=
  congrArg Host.Outcome.next (takeCommand_checks (checks := fun _ => [badDeck d])
    (payload := fun s => put1 (s.deck d.toNat).state.code) hs rfl (s.stopDeckBy_transferTaken _ _) rfl)

/-! ### DECK_GAIN (R182) -/

theorem State.modifyDeck_setGain_at_once {ramp : Nat} (h : ramp = 0) (d target : Nat) (s : State) :
    s.modifyDeck d (Deck.setGain target ramp) = s.modifyDeck d fun x => { x with target := target, gain := target, step := 0 } :=
  State.modifyDeck_congr (if_pos h)

/-- A gain that ramps takes its step from where it stands. -/
theorem State.modifyDeck_setGain_ramp {ramp : Nat} (h : 0 < ramp) (d target : Nat) (s : State) :
    s.modifyDeck d (Deck.setGain target ramp) = s.modifyDeck d fun x =>
      { x with target := target, step := ceilDiv (distance target (s.deck d).gain) (periodsOfMs ramp) } :=
  State.modifyDeck_congr (if_neg (Nat.ne_of_gt h))

/-- The checks of a DECK_GAIN (R182). -/
def gainChecks (d : Byte) (s : State) : List (Bool × ResultCode) := [badDeck d, ((s.deck d.toNat).stopPending, .busy)]

theorem exec_deckGain {d : Byte} {target ramp : Half} {s : State} (hs : s.ready) : exec (.deckGain d target ramp) s = .next (
    match firstFailure (gainChecks d s) with
    | some c => s.answered c []
    | none => (s.modifyDeck d.toNat (Deck.setGain (min target.toNat 32768) (rampMs ramp))).answered .ok []) :=
  congrArg Host.Outcome.next (takeCommand_checks (checks := gainChecks d) (payload := fun _ => []) hs rfl rfl rfl)

/-- Settles O44: each command by its checks in order, then the deck as it is changed. -/
theorem deckCommandOutcomes : Obligations.DeckCommandOutcomes := by
  unfold Obligations.DeckCommandOutcomes
  intro d s hs hz k emptied
  refine ⟨fun hd => ?absent, fun hd => ?present⟩
  case absent =>
    have hbad : decide (1 < d.toNat) = true := decide_eq_true hd
    refine ⟨fun h cue => ?_, fun code start => ?_, fun ramp => ?_, fun target ramp => ?_⟩
    · rw [exec_deckCue hs, cueChecks, badDeck, firstFailure_cons_true hbad]
    · rw [exec_deckStart hs rfl, startChecks, firstFailure_cons_true (by rw [hbad, Bool.true_or])]
    · rw [exec_deckStop hs, badDeck, firstFailure_cons_true hbad]
    · rw [exec_deckGain hs, gainChecks, badDeck, firstFailure_cons_true hbad]
  case present =>
    have hin : d.toNat < s.decks.table.length := by
      rw [(State.sized_clips hz).2.2]
      omega
    have hgood : decide (1 < d.toNat) = false := decide_eq_false (Nat.not_lt.2 hd)
    refine ⟨fun h cue => ?cueDeck, fun code start => ?startDeck, fun ramp => ?stopDeck, fun target ramp => ?gainDeck⟩
    case cueDeck =>
      have hchecks : firstFailure (cueChecks d h cue s) = firstFailure (cueChecks d h cue s).tail :=
        firstFailure_cons_false hgood
      rw [exec_deckCue hs, hchecks]
      refine ⟨fun hbusy => ?_, fun hquiet hstale => ?_, fun c hquiet hc => ?_⟩
      · rw [cueChecks, List.tail_cons, firstFailure_cons_true hbusy]
      · rw [cueChecks, List.tail_cons, firstFailure_cons_false hquiet, firstFailure_cons_true (by rw [hstale]; rfl)]
      · have hfound : firstFailure (cueChecks d h cue s).tail = firstFailure
            [(decide (c.state = .retiring), .wrongState), (decide (c.length ≤ cue.toNat), .badParam)] := by
          rw [cueChecks, List.tail_cons, firstFailure_cons_false hquiet, hc]
          exact firstFailure_cons_false rfl
        rw [hfound]
        refine ⟨fun hr => ?_, fun hr hlong => ?_, fun hr hshort => ?_⟩
        · rw [firstFailure_cons_true (decide_eq_true hr)]
        · rw [firstFailure_cons_false (decide_eq_false hr), firstFailure_cons_true (decide_eq_true hlong)]
        · rw [firstFailure_cons_false (decide_eq_false hr),
            firstFailure_cons_false (decide_eq_false (Nat.not_le.2 hshort))]
          rfl
    case startDeck =>
      intro t
      have hcode (hle : code.toNat ≤ 1) : (decide (1 < d.toNat) || (deckStartCodeOf code).isNone) = false := by
        rw [hgood, Bool.false_or, Bool.eq_false_iff]
        exact fun hn => absurd (deckStartCodeOf_isNone.1 hn) (by omega)
      rw [exec_deckStart (t := t) hs (by simp only [deckStartCodeOf_eq_now]; rfl), startChecks]
      refine ⟨fun h2 => ?_, fun hle hending => ?_, fun hle hending hstate => ?_, fun hle hending hcued => ?_⟩
      · rw [firstFailure_cons_true (by rw [deckStartCodeOf_isNone.2 h2, Bool.or_true])]
      · rw [firstFailure_cons_false (hcode hle), firstFailure_cons_true (decide_eq_true hending)]
      · rw [firstFailure_cons_false (hcode hle), firstFailure_cons_false (decide_eq_false hending),
          firstFailure_cons_true (decide_eq_true hstate)]
      · rw [firstFailure_cons_false (hcode hle), firstFailure_cons_false (decide_eq_false hending),
          firstFailure_cons_false (decide_eq_false (not_not.2 hcued))]
        rfl
    case stopDeck =>
      intro ms
      have hempty (u : State) (hu : u = s.emptyDeck d.toNat) : put1 (u.deck d.toNat).state.code = put1 0 := by
        rw [hu, State.state_emptyDeck hin]
        rfl
      have hexec : exec (.deckStop d ramp) s = .next ((s.stopDeckBy d.toNat ms).answered .ok
          (put1 ((s.stopDeckBy d.toNat ms).deck d.toNat).state.code)) := by
        rw [exec_deckStop hs, badDeck, firstFailure_cons_false hgood]
        rfl
      rw [hexec]
      refine ⟨fun h => ?_, fun h => ?_, fun h hnow => ?_, fun h hms hgain => ?_⟩
      · rw [State.stopDeckBy_empty h, h]
        rfl
      · rw [State.stopDeckBy_silent h, hempty _ rfl]
        rfl
      · rw [State.stopDeckBy_playing h, if_pos hnow, (State.deck_endDeckNow hin).1]
        rfl
      · rw [State.stopDeckBy_playing h, if_neg (not_or_intro (Nat.ne_of_gt hms) (Nat.ne_of_gt hgain)),
          State.deck_modifyDeck_self hin]
        rfl
    case gainDeck =>
      intro goal ms
      have hchecks : firstFailure (gainChecks d s) = firstFailure [(k.stopPending, .busy)] := firstFailure_cons_false hgood
      rw [exec_deckGain hs, hchecks]
      refine ⟨fun hbusy => ?_, fun hfree hzero => ?_, fun hfree hpos => ?_⟩
      · rw [firstFailure_cons_true hbusy]
      · rw [firstFailure_cons_false hfree, State.modifyDeck_setGain_at_once (ramp := rampMs ramp) hzero]
        rfl
      · rw [firstFailure_cons_false hfree, State.modifyDeck_setGain_ramp (ramp := rampMs ramp) hpos]
        rfl

end Sys2Proof.Machine
end

section
/-! PROOF. CLIP_CREATE takes the lowest FREE slot and the lowest free pages (R168 to R170); CLIP_RETIRE frees a clip or
marks it (R174). -/
namespace Sys2Proof.Machine

/-! ### A clip in its slot, a slot without its clip -/

/-- All that placing a clip writes: its slot, and the owners of its pages. -/
theorem State.placeClip_eq (s : State) (i : Nat) (c : Clip) : s.placeClip i c =
    { s with clips := { s.clips with
        owner := (s.placeClip i c).clips.owner
        slots := s.clips.slots.set i ⟨nextGeneration (s.clipSlot i).gen, some c⟩ } } := by
  rw [State.clipSlot, ← modify_eq_set s.clips.slots i (fun e => ⟨nextGeneration e.gen, some c⟩)]
  rfl

/-- A clip rewritten in its slot. -/
theorem State.modifyClipSlot_map {s : State} {i : Nat} {c : Clip} (hc : (s.clipSlot i).clip = some c) (g : Clip → Clip) :
    (s.modifyClipSlot i fun e => { e with clip := e.clip.map g }) =
      s.modifyClipSlot i fun e => { e with clip := some (g c) } := by
  rw [State.modifyClipSlot, State.modifyClipSlot, State.modify_some_eq_mapClip hc]
  rfl

/-! ### CLIP_CREATE (R170) -/

/-- The pages of a clip, its bytes divided by those of a page and rounded up (R170). -/
theorem pagesNeeded_eq (length channels : Nat) : pagesNeeded length channels = (length * (channels * 2) + 65535) / 65536 := by
  rw [pagesNeeded, ceilDiv, frameBytes, pageSize, Nat.add_sub_assoc (by omega)]

/-- The checks of a CLIP_CREATE (R170). -/
def createChecks (channels length : Nat) (s : State) : List (Bool × ResultCode) :=
  [((channels ≠ 1 && channels ≠ 2) || length = 0 || decide (67108864 < length), .badParam),
   (s.freeClipSlot.isNone, .tableFull), (decide (s.freePages.length < pagesNeeded length channels), .noSpace)]

/-- A CLIP_CREATE, with the slot and the pages it finds free. -/
theorem exec_clipCreate {channels : Byte} {length : Quad} {s : State} (hs : s.ready) {i : Nat} {pages : List Nat}
    (hi : s.freeClipSlot.getD 0 = i) (hpages : s.pagesTaken length.toNat channels.toNat = pages) :
    exec (.clipCreate channels length) s = .next (
      match firstFailure (createChecks channels.toNat length.toNat s) with
      | some c => s.answered c []
      | none =>
        let t := s.placeClip i (newClip channels.toNat length.toNat pages)
        t.answered .ok (put2 (handleOf i (t.clipSlot i).gen).toNat ++ put4 pages.length)) := by
  have hresolved : takeCommand (handleClipCreate channels length) s = takeCommand (fun u =>
      checked (createChecks channels.toNat length.toNat u)
        (accept (State.placeClip i (newClip channels.toNat length.toNat pages))
          fun t => put2 (handleOf i (t.clipSlot i).gen).toNat ++ put4 pages.length) u) s := by
    rw [takeCommand_of_ready hs, takeCommand_of_ready hs]
    subst hi hpages
    rfl
  exact congrArg Host.Outcome.next (hresolved.trans
    (takeCommand_checks (checks := createChecks channels.toNat length.toNat) hs rfl rfl rfl))

/-- The parameters CLIP_CREATE refuses. -/
theorem badClip_iff {channels : Byte} {length : Quad} :
    ((channels.toNat ≠ 1 && channels.toNat ≠ 2) || length.toNat = 0 || decide (67108864 < length.toNat)) = true ↔
      (channels ≠ 1 ∧ channels ≠ 2) ∨ length = 0 ∨ 67108864 < length.toNat := by
  have h1 : channels = 1 ↔ channels.toNat = 1 := by bv_omega
  have h2 : channels = 2 ↔ channels.toNat = 2 := by bv_omega
  have h0 : length = 0 ↔ length.toNat = 0 := by bv_omega
  simp only [ne_eq, Bool.or_eq_true, Bool.and_eq_true, decide_eq_true_eq, h1, h2, h0, or_assoc]

/-! ### CLIP_RETIRE (R174) -/

theorem exec_clipRetire_stale {h : Half} {s : State} (hs : s.ready) (hh : s.lookupClip h = none) :
    exec (.clipRetire h) s = .next (s.answered .staleHandle []) := by
  refine exec_of_refused rfl hs ?_
  have hh : s.transferTaken.lookupClip h = none := hh
  rw [handleClipRetire, hh]
  rfl

theorem exec_clipRetire_free {h : Half} {s : State} (hs : s.ready) {c : Clip} (hc : s.lookupClip h = some c)
    (hfree : c.state ≠ .retiring ∧ c.refs = 0) :
    exec (.clipRetire h) s = .next ((s.freeClip (handleSlot h)).answered .ok (put1 0)) := by
  have hc : s.transferTaken.lookupClip h = some c := hc
  rw [exec_of_handlerOf rfl, takeCommand_of_ready hs, handleClipRetire, hc]
  dsimp only
  rw [if_pos hfree]
  rfl

theorem exec_clipRetire_mark {h : Half} {s : State} (hs : s.ready) {c : Clip} (hc : s.lookupClip h = some c)
    (hheld : ¬ (c.state ≠ .retiring ∧ c.refs = 0)) :
    exec (.clipRetire h) s = .next ((s.modifyClipSlot (handleSlot h) fun e =>
      { e with clip := e.clip.map fun c => { c with state := .retiring } }).answered .ok (put1 3)) := by
  have hc : s.transferTaken.lookupClip h = some c := hc
  rw [exec_of_handlerOf rfl, takeCommand_of_ready hs, handleClipRetire, hc]
  dsimp only
  rw [if_neg hheld]
  rfl

/-- Settles O42: CLIP_CREATE by its checks in order and then the slot and the pages taken, CLIP_RETIRE by whether a deck
holds the clip. -/
theorem clipCreateAndRetire : Obligations.ClipCreateAndRetire := by
  unfold Obligations.ClipCreateAndRetire
  intro s hs hz
  obtain ⟨hslots, howners, -⟩ := State.sized_clips hz
  refine ⟨fun channels length => ?create, fun h => ⟨exec_clipRetire_stale hs, fun c hc => ?retire⟩⟩
  case create =>
    intro need bad
    have hgood (hb : ¬ bad) := Bool.eq_false_iff.2 (mt badClip_iff.1 hb)
    refine ⟨fun hb => ?_, fun hb hfull => ?_, fun i hi hb hfree hlow => ?_⟩
    · rw [exec_clipCreate hs rfl rfl, createChecks, firstFailure_cons_true (badClip_iff.2 hb)]
    · have hnone : s.freeClipSlot = none := State.freeClipSlot_eq_none.2 fun i hi => by
        have hin : i < s.clips.slots.length := hslots ▸ hi
        rw [State.clipSlot_of_getElem? (List.getElem?_eq_getElem hin)]
        exact hfull _ (List.getElem_mem hin)
      rw [exec_clipCreate hs rfl rfl, createChecks, firstFailure_cons_false (hgood hb),
        firstFailure_cons_true (by rw [hnone]; rfl)]
    · have hslot : s.freeClipSlot = some i := State.freeClipSlot_eq_some.2 ⟨hi, hfree, hlow⟩
      have hpassed : firstFailure (createChecks channels.toNat length.toNat s) =
          firstFailure [(decide (s.freePages.length < pagesNeeded length.toNat channels.toNat), .noSpace)] := by
        rw [createChecks, firstFailure_cons_false (hgood hb), firstFailure_cons_false (by rw [hslot]; rfl)]
      have hneed : pagesNeeded length.toNat channels.toNat = need := pagesNeeded_eq _ _
      rw [exec_clipCreate (i := i) hs (by rw [hslot]; rfl) rfl, hpassed, hneed]
      refine ⟨fun hshort => ?_, fun hroom => ?_⟩
      · rw [firstFailure_cons_true (decide_eq_true hshort)]
      · have hlength : (s.pagesTaken length.toNat channels.toNat).length = need :=
          (State.length_pagesTaken (hneed.trans_le hroom)).trans hneed
        have hplaced : ((s.placeClip i (newClip channels.toNat length.toNat (s.pagesTaken length.toNat channels.toNat))).clipSlot
            i).gen = nextGeneration (s.clipSlot i).gen := by
          rw [State.clipSlot_placeClip (hslots ▸ hi), if_pos rfl]
        refine ⟨s.pagesTaken length.toNat channels.toNat,
          s.placeClip i (newClip channels.toNat length.toNat (s.pagesTaken length.toNat channels.toNat)), ?_, ?_, hlength,
          s.pagesTaken_sorted _ _, fun q hq => State.mem_freePages.1 (State.mem_freePages_of_taken hq),
          fun q hq hown hnot p hp => State.lt_of_not_taken (State.mem_freePages.2 ⟨hq, hown⟩) hnot hp,
          fun q hq => getD_setPages i _ _ (howners ▸ hq)⟩
        · rw [firstFailure_cons_false (decide_eq_false (Nat.not_lt.2 hroom))]
          dsimp only [firstFailure]
          rw [hplaced, hlength]
        · rw [← hlength]
          exact State.placeClip_eq ..
  case retire =>
    refine ⟨fun hr hrefs => exec_clipRetire_free hs hc ⟨hr, hrefs⟩, fun hheld => ?_⟩
    rw [exec_clipRetire_mark hs hc, State.modifyClipSlot_map (State.lookupClip_eq_some.1 hc).2]
    rintro ⟨hr, hrefs⟩
    exact hheld.elim hr (by omega)

end Sys2Proof.Machine
end

section
/-! PROOF. The clip pipe: full packets join the transfer, the short packet ends it, and the block is rejected or written
whole into its page (R171 to R173, R189, R196). -/
namespace Sys2Proof.Machine

/-! ### The packets of a transfer (R189, R196) -/

theorem exec_clipBlock (packets : List (List Byte)) (s : State) :
    exec (.clipBlock packets) s = .next (forEach packets State.clipPacket s) := rfl

theorem State.clipPacket_detached {s : State} (h : s.link.attached = false) (packet : List Byte) : s.clipPacket packet = s := by
  rcases State.clipPacket_eq packet s with ⟨-, heq⟩ | ⟨ha, -⟩ | ⟨ha, -⟩
  · exact heq
  all_goals exact absurd (h.symm.trans ha) nofun

theorem State.clipPacket_overlong {packet : List Byte} (h : 64 < packet.length) (s : State) : s.clipPacket packet = s := by
  rcases State.clipPacket_eq packet s with ⟨-, heq⟩ | ⟨-, hp, -⟩ | ⟨-, hp, -⟩
  · exact heq
  all_goals simp only [packetSize] at hp; omega

theorem State.clipPacket_full {s : State} (ha : s.link.attached = true) {packet : List Byte} (hp : packet.length = 64) :
    s.clipPacket packet =
      { s with link := { s.link with clipTransfer := some (withPacket blockLimit s.link.clipTransfer packet) } } := by
  rcases State.clipPacket_eq packet s with ⟨hd | hlong, -⟩ | ⟨-, -, heq⟩ | ⟨-, hshort, -⟩
  · exact absurd (hd.symm.trans ha) nofun
  · exact absurd (hp ▸ hlong) (by decide)
  · exact heq
  · exact absurd (hp ▸ hshort) (by decide)

theorem State.clipPacket_short {s : State} (ha : s.link.attached = true) {packet : List Byte} (hp : packet.length < 64) :
    s.clipPacket packet = State.judgeBlock (withPacket blockLimit s.link.clipTransfer packet)
      { s with link := { s.link with clipTransfer := none } } := by
  rcases State.clipPacket_eq packet s with ⟨hd | hlong, -⟩ | ⟨-, hfull, -⟩ | ⟨-, -, heq⟩
  · exact absurd (hd.symm.trans ha) nofun
  · exact absurd hlong (Nat.lt_asymm hp)
  · exact absurd hfull (Nat.ne_of_lt hp)
  · exact heq

/-- On a DETACHED link no packet arrives (R190). -/
theorem State.clipPackets_detached {s : State} (h : s.link.attached = false) (packets : List (List Byte)) :
    forEach packets State.clipPacket s = s := by
  induction packets with
  | nil => rfl
  | cons p packets ih => rw [forEach_cons, State.clipPacket_detached h, ih]

/-- Full packets join the transfer in progress as one packet of all their bytes would. -/
theorem State.clipPackets_full {packets : List (List Byte)} (hfull : ∀ p ∈ packets, p.length = 64) (hne : packets ≠ [])
    {s : State} (ha : s.link.attached = true) : forEach packets State.clipPacket s =
      { s with link := { s.link with
          clipTransfer := some (withPacket blockLimit s.link.clipTransfer packets.flatten) } } := by
  induction packets generalizing s with
  | nil => exact absurd rfl hne
  | cons p rest ih =>
    obtain ⟨hp, hrest⟩ := List.forall_mem_cons.1 hfull
    rw [forEach_cons, State.clipPacket_full ha hp]
    cases rest with
    | nil => rw [forEach_nil, List.flatten_cons, List.flatten_nil, List.append_nil]
    | cons q rest =>
      refine (ih hrest (List.cons_ne_nil q rest) (by exact ha)).trans ?_
      dsimp only
      rw [withPacket_withPacket, ← List.flatten_cons]

/-- A transfer ended by its short packet is judged as a whole. -/
theorem State.clipPackets_ended {packets : List (List Byte)} (hfull : ∀ p ∈ packets, p.length = 64) {last : List Byte}
    (hlast : last.length < 64) {s : State} (ha : s.link.attached = true) :
    forEach (packets ++ [last]) State.clipPacket s =
      State.judgeBlock (withPacket blockLimit s.link.clipTransfer (packets.flatten ++ last))
        { s with link := { s.link with clipTransfer := none } } := by
  have hsplit : forEach (packets ++ [last]) State.clipPacket s =
      (forEach packets State.clipPacket s).clipPacket last := by
    simp [forEach, List.foldl_append]
  rw [hsplit]
  rcases eq_or_ne packets [] with rfl | hne
  · rw [forEach_nil, State.clipPacket_short ha hlast, List.flatten_nil, List.nil_append]
  · rw [State.clipPackets_full hfull hne ha, State.clipPacket_short (by exact ha) hlast, withPacket_withPacket]

/-! ### The header of a block (Table 12-7) -/

theorem blockHeader_of_short : ∀ {transfer : List Byte}, transfer.length < 8 → blockHeader transfer = none
  | [], _ | [_], _ | [_, _], _ | [_, _, _], _ | [_, _, _, _], _ | [_, _, _, _, _], _ | [_, _, _, _, _, _], _
  | [_, _, _, _, _, _, _], _ => rfl

theorem blockHeader_of_long : ∀ {transfer : List Byte}, 8 ≤ transfer.length → blockHeader transfer =
    some ⟨halfOf (transfer.getD 0 0) (transfer.getD 1 0),
      quadOf (transfer.getD 2 0) (transfer.getD 3 0) (transfer.getD 4 0) (transfer.getD 5 0), transfer.drop 8⟩
  | _ :: _ :: _ :: _ :: _ :: _ :: _ :: _ :: _, _ => rfl

theorem getD_take {l : List Byte} {k n : Nat} (h : k < n) : (l.take n).getD k 0 = l.getD k 0 := by
  rw [List.getD_eq_getElem?_getD, List.getElem?_take_of_lt h, ← List.getD_eq_getElem?_getD]

/-! ### The checks of a block (R172) -/

theorem State.judgeBlock_of_short {transfer : List Byte} (h : transfer.length < 8) (s : State) :
    s.judgeBlock transfer = s.rejectBlock 0 0 .badLength := by
  rw [State.judgeBlock, blockHeader_of_short h]

theorem State.judgeBlock_of_overlong {transfer : List Byte} (hlong : blockLimit < transfer.length) {b : BlockHeader}
    (hb : blockHeader transfer = some b) (s : State) : s.judgeBlock transfer = s.rejectBlock b.handle b.page .badLength := by
  rw [State.judgeBlock, hb]
  exact if_pos hlong

theorem State.judgeBlock_of_stale {transfer : List Byte} (hle : transfer.length ≤ blockLimit) {b : BlockHeader}
    (hb : blockHeader transfer = some b) {s : State} (hc : s.lookupClip b.handle = none) :
    s.judgeBlock transfer = s.rejectBlock b.handle b.page .staleHandle := by
  rw [State.judgeBlock, hb]
  dsimp only
  rw [if_neg (Nat.not_lt.2 hle), hc]

/-- The judgement of a block whose clip is found. -/
theorem State.judgeBlock_of_found {transfer : List Byte} (hle : transfer.length ≤ blockLimit) {b : BlockHeader}
    (hb : blockHeader transfer = some b) {s : State} {c : Clip} (hc : s.lookupClip b.handle = some c) :
    s.judgeBlock transfer =
      if c.state = .retiring then s.rejectBlock b.handle b.page .wrongState
      else if c.pages.length ≤ b.page.toNat then s.rejectBlock b.handle b.page .badParam
      else if b.data.length ≠ c.expectedSize b.page.toNat then s.rejectBlock b.handle b.page .badLength
      else s.acceptBlock (handleSlot b.handle) c b.page.toNat b.data := by
  rw [State.judgeBlock, hb]
  dsimp only
  rw [if_neg (Nat.not_lt.2 hle), hc]

/-! ### What an accepted block does (R173) -/

/-- The block that completes a LOADING clip makes it READY. -/
theorem Clip.load_complete {c : Clip} {page : Nat} (h : c.state = .loading ∧ ∀ b ∈ c.loaded.set page true, b = true) :
    c.load page = { c with state := .ready, loaded := c.loaded.set page true, loadedPrefix := c.length } :=
  if_pos ⟨h.1, List.all_eq_true.2 h.2⟩

/-- Any other block sets its flag and counts the leading pages loaded. -/
theorem Clip.load_partial {c : Clip} {page : Nat} (h : ¬ (c.state = .loading ∧ ∀ b ∈ c.loaded.set page true, b = true)) :
    c.load page = { c with
      loaded := c.loaded.set page true
      loadedPrefix := min c.length (((c.loaded.set page true).takeWhile id).length * 65536 / (c.channels * 2)) } :=
  if_neg fun hready => h ⟨hready.1, List.all_eq_true.1 hready.2⟩

/-- CLIP_READY is due exactly when the block completes a LOADING clip. -/
theorem Clip.load_ready_iff {c : Clip} {page : Nat} : c.state = .loading ∧ (c.load page).state = .ready ↔
    c.state = .loading ∧ ∀ b ∈ c.loaded.set page true, b = true := by
  by_cases h : c.state = .loading ∧ ∀ b ∈ c.loaded.set page true, b = true
  · rw [Clip.load_complete h]
    exact iff_of_true ⟨h.1, rfl⟩ h
  · rw [Clip.load_partial h]
    refine iff_of_false (fun ⟨hloading, hready⟩ => ?_) h
    cases hloading.symm.trans hready

theorem State.clips_raiseIf (b : Bool) (e : Event) (s : State) : (s.raiseIf b e).clips = s.clips := by
  cases b <;> rfl

section
variable {s : State} {h : Half} {c : Clip} (hc : s.lookupClip h = some c) (page : Nat) (data : List Byte)
include hc

/-- The Clip Store after an accepted block. -/
theorem State.clips_acceptBlock : (s.acceptBlock (handleSlot h) c page data).clips =
    { s.clips with
      slots := s.clips.slots.modify (handleSlot h) (ClipSlot.mapClip (Clip.load page))
      memory := SampleMemory.write s.clips.memory (c.pageAddress page) data } := by
  rw [State.acceptBlock_eq (State.lookupClip_eq_some.1 hc).2, State.clips_raiseIf]

/-- An accepted block changes slots, sample memory and the summary, nothing else. -/
theorem State.acceptBlock_frame : s.acceptBlock (handleSlot h) c page data =
    { s with
      clips := { s.clips with
        slots := (s.acceptBlock (handleSlot h) c page data).clips.slots
        memory := (s.acceptBlock (handleSlot h) c page data).clips.memory }
      link := { s.link with summary := (s.acceptBlock (handleSlot h) c page data).link.summary } } := by
  rw [State.acceptBlock_eq (State.lookupClip_eq_some.1 hc).2]
  cases decide (c.state = .loading ∧ (c.load page).state = .ready) <;> rfl

theorem State.link_acceptBlock_ready (hready : c.state = .loading ∧ ∀ b ∈ c.loaded.set page true, b = true) :
    (s.acceptBlock (handleSlot h) c page data).link = (s.raise .clipReady).link := by
  rw [State.acceptBlock_eq (State.lookupClip_eq_some.1 hc).2, decide_eq_true (Clip.load_ready_iff.2 hready)]
  rfl

theorem State.link_acceptBlock_partial (hpartial : ¬ (c.state = .loading ∧ ∀ b ∈ c.loaded.set page true, b = true)) :
    (s.acceptBlock (handleSlot h) c page data).link = s.link := by
  rw [State.acceptBlock_eq (State.lookupClip_eq_some.1 hc).2, decide_eq_false (mt Clip.load_ready_iff.1 hpartial)]
  rfl

/-- The slots after an accepted block. -/
theorem State.clipSlot_acceptBlock (j : Nat) : (s.acceptBlock (handleSlot h) c page data).clipSlot j =
    if handleSlot h = j ∧ j < s.clips.slots.length then (s.clipSlot j).mapClip (Clip.load page) else s.clipSlot j := by
  rw [← State.clipSlot_modifyClipSlot, State.clipSlot, State.clips_acceptBlock hc]
  rfl

/-- The handle of an accepted block names its clip as before. -/
theorem State.lookupClip_acceptBlock :
    (s.acceptBlock (handleSlot h) c page data).lookupClip h = some (c.load page) := by
  obtain ⟨⟨hgen, hnamed⟩, hslot⟩ := State.lookupClip_eq_some.1 hc
  have hloaded : (s.acceptBlock (handleSlot h) c page data).clipSlot (handleSlot h) =
      (s.clipSlot (handleSlot h)).mapClip (Clip.load page) := by
    rw [State.clipSlot_acceptBlock hc, if_pos ⟨rfl, State.clipSlot_lt_of_some hslot⟩]
  refine State.lookupClip_eq_some.2 ⟨⟨hgen, ?_⟩, ?_⟩
  · rw [hloaded]
    exact hnamed
  · rw [hloaded, ClipSlot.mapClip, hslot]
    rfl

end

/-- Settles O43: the packets of a row one by one, then the judgement of the transfer, check by check. -/
theorem clipBlockOutcomes : Obligations.ClipBlockOutcomes := by
  unfold Obligations.ClipBlockOutcomes
  refine ⟨fun ps qs s u hu => ?rows, fun packet s hlong => ?overlong, fun packets last s hfull hlast => ?transfer⟩
  case rows =>
    obtain rfl : forEach ps State.clipPacket s = u := Host.Outcome.next.inj hu
    rw [exec_clipBlock, exec_clipBlock, forEach, List.foldl_append]
    rfl
  case overlong => rw [exec_clipBlock, forEach_cons, State.clipPacket_overlong hlong, forEach_nil]
  case transfer =>
    intro before transfer row ended rejected
    refine ⟨fun hd => ⟨?_, ?_⟩, fun ha hne => ?_, fun ha => ?_⟩
    · rw [exec_clipBlock, State.clipPackets_detached hd]
    · exact congrArg Host.Outcome.next (State.clipPackets_detached hd _)
    · rw [exec_clipBlock, State.clipPackets_full hfull hne ha]
      rfl
    have hrow : exec row s = .next (ended.judgeBlock (transfer.take 65545)) := by
      have hkept : withPacket blockLimit s.link.clipTransfer (packets.flatten ++ last) = transfer.take 65545 := by
        rw [withPacket, ← List.append_assoc]
        rfl
      rw [← hkept]
      exact congrArg Host.Outcome.next (State.clipPackets_ended hfull hlast ha)
    rw [hrow]
    refine ⟨fun hshort => ?_, fun hheader => ?_⟩
    · rw [List.take_of_length_le (by omega), State.judgeBlock_of_short hshort]
      rfl
    intro h page data
    have hblock : blockHeader transfer = some ⟨h, page, data⟩ := blockHeader_of_long hheader
    refine ⟨fun hlong => ?_, fun hle hstale => ?_, fun c hle hc => ?_⟩
    · have hkept : (transfer.take 65545).length = 65545 := List.length_take_of_le hlong
      rw [State.judgeBlock_of_overlong (by rw [hkept]; decide) (blockHeader_of_long (by rw [hkept]; decide))]
      simp only [getD_take (show 0 < 65545 by decide), getD_take (show 1 < 65545 by decide),
        getD_take (show 2 < 65545 by decide), getD_take (show 3 < 65545 by decide), getD_take (show 4 < 65545 by decide),
        getD_take (show 5 < 65545 by decide)]
      rfl
    · rw [List.take_of_length_le (by omega), State.judgeBlock_of_stale hle hblock (s := ended) hstale]
      rfl
    · intro size
      have hc : ended.lookupClip h = some c := hc
      have hjudged : ended.judgeBlock (transfer.take 65545) =
          if c.state = .retiring then rejected h page .wrongState
          else if c.pages.length ≤ page.toNat then rejected h page .badParam
          else if data.length ≠ size then rejected h page .badLength
          else ended.acceptBlock (handleSlot h) c page.toNat data := by
        rw [List.take_of_length_le (by omega)]
        exact State.judgeBlock_of_found hle hblock hc
      rw [hjudged]
      refine ⟨fun hr => ?_, fun hr hpage => ?_, fun hr hpage hsize => ?_, fun hr hpage hsize => ?_⟩
      · rw [if_pos hr]
      · rw [if_neg hr, if_pos hpage]
      · rw [if_neg hr, if_neg (Nat.not_le.2 hpage), if_pos hsize]
      · intro base loaded ready
        rw [if_neg hr, if_neg (Nat.not_le.2 hpage), if_neg (not_not.2 hsize)]
        refine ⟨ended.acceptBlock (handleSlot h) c page.toNat data, rfl, State.acceptBlock_frame hc _ _, fun a => ?_,
          fun hready => ⟨State.link_acceptBlock_ready hc _ _ hready, ?_⟩,
          fun hpartial => ⟨State.link_acceptBlock_partial hc _ _ hpartial, ?_⟩, fun i hi => ?_⟩
        · rw [State.clips_acceptBlock hc]
          exact SampleMemory.byte?_write ..
        · rw [State.lookupClip_acceptBlock hc, Clip.load_complete hready]
        · rw [State.lookupClip_acceptBlock hc, Clip.load_partial hpartial]
        · rw [State.clipSlot_acceptBlock hc, if_neg fun hh => hi hh.1.symm]
          rfl

end Sys2Proof.Machine
end
